-- ==== Sys2Proof/Word.lean ====
section
/-! DEFINITION. The words of the part: bytes, 16-bit and 32-bit words, as 00 (Conventions) and 11 use them. -/

namespace Sys2Proof

/-- One byte: a character on the line or a byte of memory. -/
abbrev Byte := BitVec 8

/-- A 16-bit field of a memory structure. -/
abbrev Half := BitVec 16

/-- A 32-bit register, counter or byte address (11: addresses are 32-bit byte addresses). -/
abbrev Word := BitVec 32

/-- Addition of a byte offset to an address; it wraps modulo 2^32 (log 8). -/
def Word.off (a : Word) (n : Nat) : Word := a + BitVec.ofNat 32 n

/-- 0 or 1 from a flag. -/
def Byte.ofBool (b : Bool) : Byte := if b then 1 else 0

end Sys2Proof
end

