-- ==== Sys2Proof/Config.lean ====
section
/-! DEFINITION. What the specification leaves open, as free values (no body: nothing can prove a value of them),
and the fixed constants of the part that are no state. -/

namespace Sys2Proof

/-- The readings of the two comparators of a supply monitor, true for "at or above" (R143). -/
structure Readings where
  low  : Bool
  weak : Bool
  deriving DecidableEq, Repr, Inhabited

/-- FREE VALUE (log 6): byte i of a response that returned fewer bytes than the piece read. -/
opaque Config.undeliveredByte : Nat → Byte

/-- FREE VALUE (log 7): the segment supply in mV at the n-th sample taken by no sampling command (the deferred sample
that a stop takes, R150). -/
opaque Config.freeSupply : Nat → Nat

/-- The step table of the supply comparators: the threshold of step n in mV, 17.0 V to 24.0 V (R143). -/
def Config.threshold (n : Nat) : Nat := 17000 + 1000 * n

/-- Depth of the notice queue (R168). -/
def Config.queueDepth : Nat := 8

/-- The sample interval in ms (R145). -/
def Config.sampleMs : Nat := 500

/-- The largest number of members of a held group (R124). -/
def Config.groupMax : Nat := 8

/-- SYNC, the first character of every frame (R4). -/
def Config.sync : Byte := 0xB4

end Sys2Proof
end

