-- ==== Sys2Proof/Syntax.lean ====
section
/-! DEFINITION. The commands of the block: one constructor per row of spec/opcode_table.json. -/

namespace Sys2Proof

/-- The four segments, numbered 0 to 3 (00, Segment numbering). -/
inductive Seg where
  | s0 | s1 | s2 | s3
  deriving DecidableEq, Repr

def Seg.toNat : Seg → Nat
  | .s0 => 0 | .s1 => 1 | .s2 => 2 | .s3 => 3

/-- The segments in ascending number. -/
def Seg.all : List Seg := [.s0, .s1, .s2, .s3]

/-- The sources within a segment unit, in the order of R153. -/
inductive Source where
  | urgent | control | responder | unit | chain
  deriving DecidableEq, Repr

/-- The sources in the order of R153. -/
def Source.all : List Source := [.urgent, .control, .responder, .unit, .chain]

/-- The requesters of the port (R152). -/
inductive Requester where
  | segment (k : Seg) (src : Source)
  | notice
  | device
  deriving DecidableEq, Repr

/-- The registers REGISTER_WRITE names: BLOCK, and the read-only ATTENTION and STATE (R161). -/
inductive PlainReg where
  | block | attention | state
  deriving DecidableEq, Repr

/-- The commands. Each is one whole and indivisible step (95). -/
inductive Instr where
  /-- PIN_RESET (R166). -/
  | pinReset
  /-- SOFT_RESET (R166): a CONTROL write with RESET 1. -/
  | softReset
  /-- ENABLE_SET (R162): a CONTROL write carrying ENABLE 1. -/
  | enableSet
  /-- ENABLE_CLEAR (R162): a CONTROL write carrying ENABLE 0. -/
  | enableClear
  /-- RUN_SET (R25): a RUN write of 1 to segment k. -/
  | runSet (k : Seg)
  /-- RUN_CLEAR (R25): a RUN write of 0 to segment k. -/
  | runClear (k : Seg)
  /-- SCAN (R106): the value written to SCAN. -/
  | scan (value : Word)
  /-- ATTENTION_READ (R167). -/
  | attentionRead
  /-- ATTENTION_MASK_WRITE (R167): the value written. -/
  | attentionMaskWrite (value : Word)
  /-- REGISTER_WRITE (R161): the register and the value written. -/
  | registerWrite (reg : PlainReg) (value : Word)
  /-- MEMORY_GRANT (R154): late are the requesters whose requests arrive after this grant, though the response at which it
  is made had made them due (R151, log 32); none unless given, and none at a port that was IDLE with none waiting (R154). -/
  | memoryGrant (late : List Requester := [])
  /-- ACCESS_COMPLETE (R151): the bytes memory returned, lowest address first; none for a write. -/
  | accessComplete (data : List Byte)
  /-- ERROR_RESPONSE (R158). -/
  | errorResponse
  /-- THROTTLE_EXPIRY (R155). -/
  | throttleExpiry (k : Seg)
  /-- FRAME_REPORT (R8): the receiver reports the frame it holds. -/
  | frameReport (k : Seg)
  /-- START_BIT_TAKEN (R12). -/
  | startBitTaken (k : Seg)
  /-- ARBITRATION_LOSS (R16): pos is the frame position of the mismatching character, 1 or 2. start: the mismatch is in
  its start bit (0 sent, recessive read), so that no character follows from it (R3, log 33); not unless given. -/
  | arbitrationLoss (k : Seg) (pos : Nat) (start : Bool := false)
  /-- COLLISION (R17): pos is the frame position of the mismatching character, 0 or above 2; start as above. -/
  | collision (k : Seg) (pos : Nat) (start : Bool := false)
  /-- TRANSMIT_END (R13). -/
  | transmitEnd (k : Seg)
  /-- FRAME_GAP (R12). -/
  | frameGap (k : Seg)
  /-- RESERVATION_EXPIRY (R12). -/
  | reservationExpiry (k : Seg)
  /-- W_EXPIRY (R15). -/
  | wExpiry (k : Seg)
  /-- HOLD_GAP (R14). -/
  | holdGap (k : Seg)
  /-- ANSWER_TURNAROUND (R130). -/
  | answerTurnaround (k : Seg)
  /-- RESPONDER_DEADLINE (R131). -/
  | responderDeadline (k : Seg)
  /-- STALL_REPORT (R18). -/
  | stallReport (k : Seg)
  /-- STALL_END (R34). -/
  | stallEnd (k : Seg)
  /-- SETTLE_EXPIRY (R28): mv is the segment supply at the first sample, in mV (R143, log 7). -/
  | settleExpiry (k : Seg) (mv : Nat)
  /-- QUIET_INTERVAL (R30). -/
  | quietInterval (k : Seg)
  /-- CYCLE_TIMER_EXPIRY (R81). -/
  | cycleTimerExpiry (k : Seg)
  /-- SCAN_TIMER_EXPIRY (R105). -/
  | scanTimerExpiry (k : Seg)
  /-- SAMPLE_TIMER_EXPIRY (R145): mv is the segment supply at the sample, in mV. -/
  | sampleTimerExpiry (k : Seg) (mv : Nat)
  /-- SWEEP_STEP (R149): mv is the segment supply at the end of the step, in mV, and next the supply at a deferred sample
  that the end of the last step lets be taken (R150). -/
  | sweepStep (k : Seg) (mv next : Nat)
  /-- PAUSE_AFTER_END (R77). -/
  | pauseAfterEnd (k : Seg)
  /-- CHARACTER_COMPLETE (R3): the data bits, the parity bit and the stop bit as sampled (true is 1, recessive). -/
  | characterComplete (k : Seg) (c : Byte) (parity stop : Bool)
  deriving DecidableEq, Repr

end Sys2Proof
end

