-- ==== Sys2Proof/Decode.lean ====
section
/-! DEFINITION. Decoding over the rows of spec/opcode_table.json that give bits: none does, so no word spells a
command. -/

namespace Sys2Proof

/-- The command that a word spells by the table's bits: the table gives no row bits, so there is none. -/
def decodeTableWord (_nbits _w : Nat) : Option Instr := none

end Sys2Proof
end

