-- ==== Sys2Proof/Machine/State.lean ====
section
/-! DEFINITION. The state of the block as plain data, and its value at pin reset. Where State holds a value the rules
only imply, its docstring says so. -/

namespace Sys2Proof.Machine

/-- No command stops the machine: a segment fault (R40) and a device fault (R164) are states of the block. -/
inductive Fault where
  /-- Raised by no command; kept so that the type has a name for a stop. Safe: nothing answers it. -/
  | unreachable
  deriving DecidableEq, Repr

/-- Why a command is refused. -/
inductive Refusal where
  /-- Raised by exec for a command that has no meaning yet (none is left). Safe. -/
  | notModelled (mnemonic : String)
  deriving DecidableEq, Repr

/-- One value for each of the four segments. -/
structure Four (α : Type) where
  v0 : α
  v1 : α
  v2 : α
  v3 : α
  deriving DecidableEq, Repr

/-- A timer: stopped, or running with the value it was last loaded with (time itself is not held, log 1). -/
inductive Timer where
  | stopped
  | running (load : Nat)
  deriving DecidableEq, Repr

/-! ## Codes -/

/-- Segment states (R24). -/
inductive SegState where
  | stopped | settling | acquiring | locked | stalled | stopping | faulted
  deriving DecidableEq, Repr

/-- Segment fault codes (R40). -/
inductive FaultCode where
  | none | badBlock | memoryFault | writeRefused | badLink
  deriving DecidableEq, Repr

/-- Device states (R162). -/
inductive DevState where
  | disabled | loading | ready | faulted
  deriving DecidableEq, Repr

/-- Device fault codes (R164). -/
inductive DevFault where
  | none | badFormat | badControlBlock | loadFault | noticeFault
  deriving DecidableEq, Repr

/-- The conditions of the line tracker (R12). -/
inductive Tracker where
  | free | busy | reserved
  deriving DecidableEq, Repr

/-- Frame kinds (R9). -/
inductive FrameKind where
  | poll | reply | set | ack | nak | notice | announce
  deriving DecidableEq, Repr

/-- Outcomes of poll entries and of requests, one code table (11). -/
inductive Ending where
  | ok | replied | duplicate | refused | noReply | badReply | lineLost | collision | framingLost | lineStall | aborted
  | skippedDisabled | skippedLost | skippedConserve | badEntry | badRecord | groupBroken | supplyWeak | badRequest
  deriving DecidableEq, Repr

/-- Notice kinds (11). -/
inductive NoticeKind where
  | stationLost | stationBack | cycleOverrun | captureFull | inboundFull | segmentLocked | lockLost | lineStall
  | supplyLow | supplyWeak | supplyOk | segmentStopped | segmentFault | writeRefused | badEntry | badRecord
  | requestDone | deviceFault
  deriving DecidableEq, Repr

/-- Request kinds (R103). -/
inductive ReqKind where
  | pollOnce | set | announce | stationClear | cyclePause | cycleResume | conserve | supplySweep | mark
  deriving DecidableEq, Repr

/-- Supply levels (R144). -/
inductive Level where
  | ok | low | weak
  deriving DecidableEq, Repr

/-- Station health (R48). -/
inductive Health where
  | unknown | active | suspect | lost
  deriving DecidableEq, Repr

/-- Kinds of inbound ring entries (R135). -/
inductive EntryKind where
  | pollSeen | set | notice | announce | monitored
  deriving DecidableEq, Repr

/-- The answer an inbound entry says was given (R135). -/
inductive Given where
  | none | ack | nak | reply
  deriving DecidableEq, Repr

/-! ## Notices and memory accesses -/

/-- The fields of a notice (R168, layout in 11). -/
structure Notice where
  kind    : NoticeKind
  seg     : Byte
  station : Byte
  addr    : Byte
  detail  : Byte
  cycle   : Word
  ref     : Word
  deriving DecidableEq, Repr

/-- The pieces of R156, by the structure and the requester that uses them. -/
inductive Op where
  | controlBlock | segBlock | progress | entryRead | stationRead | statusWrite | capMarkerRead | capBody
  | capMarkerWrite | takeRead | takenWrite | linkSeen | outcomeWrite | stateWrite | groupLink | groupState
  | clearWrite | headState | chainLink | chainState | respRecord | inbMarkerUrgent | writeBack | inbMarkerRead
  | inbBody | inbMarkerWrite | noticeMarkerRead | noticeBody | noticeMarkerWrite | devProgress
  deriving DecidableEq, Repr

/-- One access: its piece, the address a fault on it reports, the bytes a read asks for, and the bytes a write writes,
lowest address first. The bytes of a progress record are filled in at the grant (R43, R171). -/
structure Access where
  op    : Op
  addr  : Word
  len   : Nat
  bytes : List (Word × Byte)
  deriving DecidableEq, Repr

/-- The granted access of a BUSY port (R151). discard: its result is discarded (R159, R160). -/
structure Busy where
  req     : Requester
  acc     : Access
  discard : Bool
  deriving DecidableEq, Repr

/-- The accesses of a segment unit that wait for a grant, one per source. One that stands here while an access of the same
source is on the bus is issued when that access has completed (R152, State.arrived). -/
structure Waits where
  urgent    : Option Access
  control   : Option Access
  responder : Option Access
  unit      : Option Access
  chain     : Option Access
  deriving DecidableEq, Repr

/-- A throttle timer and its interval in µs (R155). -/
structure Throttle where
  interval : Byte
  timer    : Timer
  deriving DecidableEq, Repr

/-- The memory port (R151): the waits of the segments are held in the segment units that present them. waited: the
requesters whose requests had arrived when the last response returned, or waited at a grant refused since, and have not
been withdrawn (R151, R157, R159, log 32). -/
structure Port where
  busy       : Option Busy
  waited     : List Requester
  device     : Option Access
  notice     : Option Access
  throttle   : Four Throttle
  windowLow  : Word
  windowHigh : Word
  deriving DecidableEq, Repr

/-! ## Memory structures as read -/

/-- The values of a segment block (11, layout of the segment block). -/
structure SegBlock where
  rate : Byte
  acq : Byte
  quiet : Byte
  w : Byte
  r : Byte
  stall : Byte
  arbLimit : Byte
  revisit : Byte
  period : Half
  acceptBroadcast : Bool
  monitor : Bool
  logPolls : Bool
  multi : Bool
  lowStep : Byte
  weakStep : Byte
  own0 : Byte
  own1 : Byte
  own2 : Byte
  stationCount : Byte
  pollLength : Byte
  capSlots : Half
  inbSlots : Half
  stationTable : Word
  pollList : Word
  chainHead : Word
  capBase : Word
  inbBase : Word
  respTable : Word
  progress : Word
  deriving DecidableEq, Repr

/-- The config half of a station record (R47). -/
structure StationCfg where
  addr : Byte
  pollEnable : Bool
  heavy : Bool
  acceptDamaged : Bool
  expectSeq : Bool
  notifyHealth : Bool
  expLen : Byte
  retry : Byte
  threshold : Byte
  payLen : Byte
  payload : List Byte
  deriving DecidableEq, Repr

/-- The status half of a station record as an entry uses it, after R49. lastSeq none is NONE. -/
structure Status where
  state : Health
  heard : Bool
  lastSeq : Option Bool
  miss : Byte
  accepted : Half
  duplicates : Half
  drops : Half
  lastCycle : Word
  deriving DecidableEq, Repr

/-- The fields of a request record that a take uses (R103). kind none: no kind of R103. -/
structure ReqRecord where
  arg : Word
  kind : Option ReqKind
  hold : Bool
  notify : Bool
  heavy : Bool
  target : Byte
  limit : Byte
  payLen : Byte
  ackBit : Byte
  payload : List Byte
  deriving DecidableEq, Repr

/-- What an armed and fit responder record gives to an answer (R131). -/
structure RespRecord where
  addr : Word
  oneShot : Bool
  seq : Bool
  count : Word
  data : List Byte
  deriving DecidableEq, Repr

/-! ## The line interface -/

/-- Why a header failed (R6): the first character was not SYNC, or the cause recorded for BAD_HEADER. -/
inductive HeaderFail where
  | noSync | range | reservedBits | invalidKind | checkMismatch
  deriving DecidableEq, Repr

/-- The frame in assembly (R4, R6). own: leading characters that the part itself sent (R16, R17, R19). -/
structure Assembly where
  chars : List Byte
  marks : List Nat
  fail : Option HeaderFail
  framing : Bool
  broken : Bool
  own : Nat
  foreign : Bool
  deriving DecidableEq, Repr

/-- Frame classes (R8). -/
inductive Class where
  | good | damaged
  | badHeader (cause : HeaderFail)
  | noSync | broken
  deriving DecidableEq, Repr

/-- A frame held in a receive buffer (R21): its characters, its class (GOOD or DAMAGED), its parity marks. -/
structure RxFrame where
  chars : List Byte
  good : Bool
  marks : List Nat
  deriving DecidableEq, Repr

/-- The two receive buffers (R21). -/
inductive Buf where
  | b0 | b1
  deriving DecidableEq, Repr

/-- A frame the part is driving (R13). -/
structure Tx where
  chars : List Byte
  kind : FrameKind
  answer : Bool
  deriving DecidableEq, Repr

/-- Line interface state. stalled: a stall has been reported and has not ended (R18, R28). -/
structure Line where
  tracker : Tracker
  idle : Bool
  asm : Option Assembly
  stalled : Bool
  framing : Nat
  buf0 : Option RxFrame
  buf1 : Option RxFrame
  tx : Option Tx
  deriving DecidableEq, Repr

/-! ## The work sequencer -/

/-- Cycle states (R68). -/
inductive CycleState where
  | running | waiting | paused
  deriving DecidableEq, Repr

/-- Where a RUNNING cycle stands (implied by R70, R78, R83). -/
inductive Point where
  | notBegun | entryDue | inEntry | oppDue | inOpp | oppOpen
  deriving DecidableEq, Repr

/-- The pause-after of the last entry (R77): none, waiting for the frame report it is measured from, or running. -/
inductive Pause where
  | none | awaiting | running
  deriving DecidableEq, Repr

/-- The cycle engine (R68); held is a begin event waiting for LOCKED (R69). attempt 0 is "none". -/
structure Cycle where
  state : CycleState
  number : Word
  index : Nat
  timer : Timer
  expired : Bool
  losses : Nat
  attempt : Nat
  point : Point
  held : Bool
  pause : Pause
  deriving DecidableEq, Repr

/-- The transaction machine (R13, R15, R35, R75, R141). ending o: the frame on the line is driven to its end and the
unit then ends with o. lostReport and lostAnswer: LINE_LOST is decided and waits for the report of the winner's frame,
or for the owed answer (log 16). -/
inductive Xact where
  | idle | ready | sending
  | ending (o : Ending)
  | waiting | started | lostReport | lostAnswer
  deriving DecidableEq, Repr

/-- Steps of a poll entry: the access in progress, or the POLL (R70, R76, R92). -/
inductive EntryStep where
  | entryRead | stationRead | polling | capMarker | capBody | capMark | status
  deriving DecidableEq, Repr

/-- A poll entry in service (R46, R70, R90). buf: the buffer of an accepted reply. seq: its seq bit.
used: attempts that ended with a result (R74). -/
structure EntryUnit where
  step : EntryStep
  station : Byte
  pauseAfter : Byte
  recAddr : Word
  cfg : StationCfg
  st : Status
  outcome : Option Ending
  buf : Option Buf
  seq : Bool
  dropped : Bool
  used : Nat
  deriving DecidableEq, Repr

/-- Steps of a request: the access in progress, or its service (R108, R112, R118). -/
inductive ReqStep where
  | takeRead | taken | linkSeen | serve | clear | outcome | state
  deriving DecidableEq, Repr

/-- The successor read of a held group (R124). -/
inductive Succ where
  | none | link
  | state (succ : Word)
  | fresh | unmet
  deriving DecidableEq, Repr

/-- A request in service (R108 to R113). broken: it ends GROUP_BROKEN (R126). last: no member follows (a stop). -/
structure ReqUnit where
  step : ReqStep
  addr : Word
  body : ReqRecord
  outcome : Option Ending
  attempt : Nat
  used : Nat
  buf : Option Buf
  result : Word
  holdUnmet : Bool
  succ : Succ
  broken : Bool
  last : Bool
  doneCycle : Word
  deriving DecidableEq, Repr

/-- The unit in service. -/
inductive WorkUnit where
  | none
  | entry (e : EntryUnit)
  | request (r : ReqUnit)
  deriving DecidableEq, Repr

/-- Capture writer state (R89); a capture in progress is the step of the entry in service. -/
structure Capture where
  next : Nat
  full : Bool
  deriving DecidableEq, Repr

/-- A chain read (R104, R105, R106): idle, examining the head, reading the link, or reading the state of the record
the link gave. -/
inductive Chain where
  | idle | exam | link
  | state (succ : Word)
  deriving DecidableEq, Repr

/-- Group condition (R104). -/
inductive Group where
  | none | holding | breaking
  deriving DecidableEq, Repr

/-- The hold gap (R14, R125): not due, due after the report of the frame that follows a collision, being measured,
or reached. -/
inductive Gap where
  | none | afterReport | measuring | reached
  deriving DecidableEq, Repr

/-- The request engine (R104). -/
structure ReqEngine where
  anchor : Option Word
  cand : Option Word
  ready : Bool
  current : Option Word
  chain : Chain
  more : Bool
  examined : Bool
  scanTimer : Timer
  count : Nat
  cond : Group
  losses : Nat
  lineHeld : Bool
  sent : Bool
  gap : Gap
  deriving DecidableEq, Repr

/-! ## The responder -/

/-- The answer decided so far (R128). -/
inductive Ans where
  | undecided
  | reply (r : RespRecord)
  | ack | nak
  deriving DecidableEq, Repr

/-- The urgent read of a pending answer: none, owed to the port, or issued (R128, log 26). -/
inductive UrgentRead where
  | none | owed | live
  deriving DecidableEq, Repr

/-- A pending answer (R128). own is the own address at which the frame arrived and k its number; turn says that the
turnaround has been reached (R130). -/
structure Pend where
  k : Nat
  own : Byte
  src : Byte
  kind : FrameKind
  ans : Ans
  turn : Bool
  begun : Bool
  read : UrgentRead
  buf : Option Buf
  deriving DecidableEq, Repr

/-- The step of a frame in hand (R134, R137). Due: the access waits for the source; Out: it has been issued. -/
inductive Stage where
  /-- a POLL waiting for its answer to end -/
  | answering
  /-- a SET or NOTICE answered NAK, waiting for the NAK to end -/
  | refused
  /-- a SET or NOTICE waiting for its filing turn -/
  | wantRead
  /-- a SET or NOTICE whose urgent marker read is owed or issued -/
  | reading
  /-- a SET or NOTICE whose marker was read clear, waiting for the ACK to end -/
  | cleared
  /-- a frame waiting for its filing turn -/
  | queued
  | markerDue | markerOut | bodyDue | bodyOut | markDue | markOut
  deriving DecidableEq, Repr

/-- A frame in hand (R128): its buffer, the entry kind it has or would have, the cycle number at its report. -/
structure Hand where
  buf : Buf
  kind : EntryKind
  given : Given
  cycle : Word
  stage : Stage
  deriving DecidableEq, Repr

/-- A write-back owed to a responder record (R132): the count to write and whether to disarm. -/
structure WriteBack where
  addr : Word
  count : Word
  disarm : Bool
  deriving DecidableEq, Repr

/-- What the normal source of the responder has due (R152): a write-back, or the next access of the filing in
progress. -/
inductive NormalDue where
  | writeBack (wb : WriteBack)
  | filing
  deriving DecidableEq, Repr

/-- The responder (R128); its addresses, flags and ring are in the values of the run. due: the accesses its normal source
has not issued yet, in the order they fell due (R152). -/
structure Responder where
  pend : Option Pend
  hands : List Hand
  due : List NormalDue
  next : Nat
  full : Bool
  deriving DecidableEq, Repr

/-! ## The supply monitor -/

/-- Sweep state (R144). best: the highest step met so far. -/
inductive Sweep where
  | idle
  | sweeping (step : Nat) (best : Option Nat)
  deriving DecidableEq, Repr

/-- The supply monitor (R144). lowCmp and weakCmp are the steps the comparators are set to. -/
structure Supply where
  level : Level
  auto : Bool
  forced : Bool
  lowCmp : Nat
  weakCmp : Nat
  recovery : Nat
  timer : Timer
  deferred : Bool
  sweep : Sweep
  deriving DecidableEq, Repr

/-! ## The segment unit -/

/-- A change of segment state whose notice waits for the progress record write that covers it (R43). -/
structure Change where
  kind : NoticeKind
  detail : Byte
  deriving DecidableEq, Repr

/-- Why a segment left LOCKED (R35). -/
inductive Departure where
  | lockLoss | stall
  deriving DecidableEq, Repr

/-- The counters of the segment progress record (R42). -/
structure Counters where
  overruns : Word
  arbLosses : Word
  framingFaults : Word
  strays : Word
  inbDrops : Word
  deriving DecidableEq, Repr

/-- One segment unit. -/
structure Segment where
  /-- segment block pointer of the last passed load (R163) -/
  blockPtr : Word
  /-- scan interval of the last passed load, in 0.1 ms (R163, R105) -/
  scanInterval : Byte
  /-- the segment block values of the run (R26) -/
  run : Option SegBlock
  state : SegState
  /-- a start is in progress (R24) -/
  starting : Bool
  fault : FaultCode
  /-- good-frame count (R29) -/
  good : Nat
  /-- cause of the most recent departure from LOCKED (R35) -/
  departed : Departure
  /-- the segment has been LOCKED in this run (R31) -/
  everLocked : Bool
  /-- the progress record write of step 1 of R38 has been requested -/
  stopWrite : Bool
  /-- a fault taken while a frame is driven, with the reference word of its notice (R40) -/
  faultHeld : Option Word
  /-- a SEGMENT_FAULT owed, with its reference word (R40) -/
  faultOwed : Option Word
  /-- a move from FAULTED to STOPPED that waits for the fault's record write (R41) -/
  stopOwed : Bool
  /-- changes covered by the progress record write that waits -/
  prWait : List Change
  /-- changes covered by the progress record write on the bus -/
  prBus : List Change
  /-- the progress record write on the bus was granted after the entry to FAULTED (R40) -/
  prFault : Bool
  /-- the number of the cycle that has ended, which the progress record write that waits carries (R79, log 37) -/
  prEnded : Option Word
  counters : Counters
  line : Line
  waits : Waits
  cycle : Cycle
  cap : Capture
  req : ReqEngine
  unit : WorkUnit
  xact : Xact
  resp : Responder
  supply : Supply
  deriving DecidableEq, Repr

/-! ## The device -/

/-- Device control (R162, R164). disableAsked: ENABLE 0 was written in FAULTED and has not been carried out (R165). -/
structure Device where
  state : DevState
  enable : Bool
  disabling : Bool
  fault : DevFault
  faultAddr : Word
  disableAsked : Bool
  deriving DecidableEq, Repr

/-- Which access the notice being written needs next (R169). -/
inductive NoticeStep where
  | marker | body | mark
  deriving DecidableEq, Repr

/-- The notice writer (R168, R169, R171). recWaiting: a device progress record write is requested and not yet issued.
loadedOwed: LOADED is set when the next record write completes (R163). finalRec: the record write on the bus carries
DISABLED (R165). -/
structure NoticeWriter where
  queue : List Notice
  next : Nat
  dropped : Word
  lost : Bool
  step : NoticeStep
  recWaiting : Bool
  loadedOwed : Bool
  finalRec : Bool
  ringBase : Word
  slots : Half
  record : Word
  deriving DecidableEq, Repr

/-- The whole block and the queue of commands waiting for it. -/
structure State where
  /-- commands waiting, first in first out (log 2) -/
  pending : List Instr
  block : Word
  mask : Byte
  attention : Byte
  /-- what the last ATTENTION read returned (log 29) -/
  readData : Word
  /-- free values drawn so far (log 7) -/
  draws : Nat
  dev : Device
  nw : NoticeWriter
  port : Port
  segs : Four Segment
  deriving DecidableEq, Repr

/-! ## Reset -/

def Waits.empty : Waits := ⟨.none, .none, .none, .none, .none⟩

/-- Line interface state at reset (01, the closing table). -/
def Line.reset : Line :=
  { tracker := .busy, idle := false, asm := none, stalled := false, framing := 0, buf0 := none, buf1 := none, tx := none }

/-- Cycle engine state at reset and at start (R68). -/
def Cycle.reset : Cycle :=
  { state := .running, number := 0, index := 0, timer := .stopped, expired := false, losses := 0, attempt := 0,
    point := .notBegun, held := false, pause := .none }

/-- Request engine state at reset and at start (R104). -/
def ReqEngine.reset : ReqEngine :=
  { anchor := none, cand := none, ready := false, current := none, chain := .idle, more := false, examined := false,
    scanTimer := .stopped, count := 0, cond := .none, losses := 0, lineHeld := true, sent := false, gap := .none }

/-- Responder state at reset and at start (R128). -/
def Responder.reset : Responder := { pend := none, hands := [], due := [], next := 0, full := false }

/-- Supply monitor state at reset (R144). -/
def Supply.reset : Supply :=
  { level := .ok, auto := false, forced := false, lowCmp := 0, weakCmp := 0, recovery := 0, timer := .stopped,
    deferred := false, sweep := .idle }

def Counters.zero : Counters := ⟨0, 0, 0, 0, 0⟩

/-- A segment unit at reset (R44). -/
def Segment.reset : Segment :=
  { blockPtr := 0, scanInterval := 0, run := none, state := .stopped, starting := false, fault := .none, good := 0,
    departed := .lockLoss, everLocked := false, stopWrite := false, faultHeld := none, faultOwed := none,
    stopOwed := false, prWait := [], prBus := [], prFault := false, prEnded := none, counters := .zero, line := .reset,
    waits := .empty, cycle := .reset, cap := ⟨0, false⟩, req := .reset, unit := .none, xact := .idle, resp := .reset,
    supply := .reset }

def Device.reset : Device :=
  { state := .disabled, enable := false, disabling := false, fault := .none, faultAddr := 0, disableAsked := false }

def NoticeWriter.reset : NoticeWriter :=
  { queue := [], next := 0, dropped := 0, lost := false, step := .marker, recWaiting := false, loadedOwed := false, finalRec := false,
    ringBase := 0, slots := 0, record := 0 }

def Four.const {α : Type} (a : α) : Four α := ⟨a, a, a, a⟩

/-- The memory port at pin reset (R151). -/
def Port.reset : Port :=
  { busy := none, waited := [], device := none, notice := none, throttle := .const ⟨0, .stopped⟩, windowLow := 0, windowHigh := 0 }

/-- The block right after pin reset (R166, R44, R160). -/
def State.reset : State :=
  { pending := [], block := 0, mask := 0, attention := 0, readData := 0, draws := 0, dev := .reset, nw := .reset,
    port := .reset, segs := .const .reset }

end Sys2Proof.Machine
end

