-- ==== Sys2Proof/Machine/Operands.lean ====
section
/-! DEFINITION. The fields of the memory structures: how a read's bytes become values and how values become the bytes of
a write (11, R172, R173), the code tables, and the checks of the control block and the segment block (R174 to R176). -/

namespace Sys2Proof.Machine

/-! ## Bytes of a response and bytes of a write -/

/-- Byte i of what a read returned; a byte that memory did not deliver is a free value (log 6). -/
def rdByte (d : List Byte) (i : Nat) : Byte :=
  match d[i]? with
  | some b => b
  | none => Config.undeliveredByte i

/-- A little-endian 16-bit field (00, Byte order). -/
def rdHalf (d : List Byte) (i : Nat) : Half := rdByte d (i + 1) ++ rdByte d i

/-- A little-endian 32-bit field. -/
def rdWord (d : List Byte) (i : Nat) : Word := rdHalf d (i + 2) ++ rdHalf d i

/-- n bytes from offset i. -/
def rdBytes (d : List Byte) (i n : Nat) : List Byte := (List.range n).map fun j => rdByte d (i + j)

/-- Bit n of a flags byte (R172: the bits the layout does not name are ignored). -/
def rdFlag (d : List Byte) (i n : Nat) : Bool := (rdByte d i).getLsbD n

def wrHalf (h : Half) : List Byte := [h.extractLsb' 0 8, h.extractLsb' 8 8]

def wrWord (w : Word) : List Byte := [w.extractLsb' 0 8, w.extractLsb' 8 8, w.extractLsb' 16 8, w.extractLsb' 24 8]

/-- Bytes laid from address a upwards. -/
def placeAt (a : Word) : List Byte → List (Word × Byte)
  | [] => []
  | b :: bs => (a, b) :: placeAt (a.off 1) bs

def Access.read (op : Op) (a : Word) (len : Nat) : Access := ⟨op, a, len, []⟩

/-- A write of bytes from address a, which is also the address a fault on it reports. -/
def Access.write (op : Op) (a : Word) (bs : List Byte) : Access := ⟨op, a, 0, placeAt a bs⟩

/-! ## Codes (11) -/

def SegState.code : SegState → Nat
  | .stopped => 0 | .settling => 1 | .acquiring => 2 | .locked => 3 | .stalled => 4 | .stopping => 5 | .faulted => 6

def FaultCode.code : FaultCode → Nat
  | .none => 0 | .badBlock => 1 | .memoryFault => 2 | .writeRefused => 3 | .badLink => 4

def DevState.code : DevState → Nat
  | .disabled => 0 | .loading => 1 | .ready => 2 | .faulted => 3

def DevFault.code : DevFault → Nat
  | .none => 0 | .badFormat => 1 | .badControlBlock => 2 | .loadFault => 3 | .noticeFault => 4

def Level.code : Level → Nat
  | .ok => 0 | .low => 1 | .weak => 2

def Health.code : Health → Byte
  | .unknown => 0 | .active => 1 | .suspect => 2 | .lost => 3

def Health.ofCode (b : Byte) : Option Health :=
  if b = 0 then some .unknown else if b = 1 then some .active else if b = 2 then some .suspect
  else if b = 3 then some .lost else none

def Ending.code : Ending → Byte
  | .ok => 0 | .replied => 1 | .duplicate => 2 | .refused => 3 | .noReply => 4 | .badReply => 5 | .lineLost => 6
  | .collision => 7 | .framingLost => 8 | .lineStall => 9 | .aborted => 10 | .skippedDisabled => 11
  | .skippedLost => 12 | .skippedConserve => 13 | .badEntry => 14 | .badRecord => 15 | .groupBroken => 16
  | .supplyWeak => 17 | .badRequest => 18

def NoticeKind.code : NoticeKind → Byte
  | .stationLost => 1 | .stationBack => 2 | .cycleOverrun => 3 | .captureFull => 4 | .inboundFull => 5
  | .segmentLocked => 6 | .lockLost => 7 | .lineStall => 8 | .supplyLow => 9 | .supplyWeak => 10 | .supplyOk => 11
  | .segmentStopped => 12 | .segmentFault => 13 | .writeRefused => 14 | .badEntry => 15 | .badRecord => 16
  | .requestDone => 17 | .deviceFault => 18

def ReqKind.ofCode (b : Byte) : Option ReqKind :=
  if b = 1 then some .pollOnce else if b = 2 then some .set else if b = 3 then some .announce
  else if b = 4 then some .stationClear else if b = 5 then some .cyclePause else if b = 6 then some .cycleResume
  else if b = 7 then some .conserve else if b = 8 then some .supplySweep else if b = 9 then some .mark else none

def EntryKind.code : EntryKind → Byte
  | .pollSeen => 1 | .set => 2 | .notice => 3 | .announce => 4 | .monitored => 5

def Given.code : Given → Byte
  | .none => 0 | .ack => 1 | .nak => 2 | .reply => 3

/-- The byte FRESH, TAKEN, DONE and FAILED of a request state (R103). -/
def fresh : Byte := 1
def taken : Byte := 2
def Ending.finalState (o : Ending) : Byte := if o = .ok then 3 else 4

/-! ## Control block -/

/-- R176: a range of n bytes from a is inside the window; the sum does not wrap. -/
def insideWindow (low high a : Word) (n : Nat) : Bool :=
  decide (low.toNat ≤ a.toNat) && decide (a.toNat + n ≤ high.toNat)

/-- R157: every byte the write would write lies in the window. -/
def Access.inWindow (low high : Word) (acc : Access) : Bool :=
  acc.bytes.all fun p => decide (low.toNat ≤ p.1.toNat) && decide (p.1.toNat < high.toNat)

def aligned16 (a : Word) : Bool := a.extractLsb' 0 4 == 0

/-- The first failing line of a check table. -/
def firstFail {α : Type} : List (α × Bool) → Option α
  | [] => none
  | (a, bad) :: rest => if bad then some a else firstFail rest

/-- The checks of R174 in their order, each with the device fault code of its line. -/
def controlChecks (block : Word) (d : List Byte) : List (DevFault × Bool) :=
  let low := rdWord d 0x04
  let high := rdWord d 0x08
  let slots := (rdHalf d 0x10).toNat
  [ (.badFormat, rdWord d 0x00 != 1),
    (.badControlBlock, !aligned16 block),
    (.badControlBlock, !aligned16 low || !aligned16 high || !decide (low.toNat < high.toNat)),
    (.badControlBlock, decide (slots < 4) || decide (256 < slots)),
    (.badControlBlock, !aligned16 (rdWord d 0x0C) || !insideWindow low high (rdWord d 0x0C) (16 * slots)),
    (.badControlBlock, !aligned16 (rdWord d 0x18) || !insideWindow low high (rdWord d 0x18) 16),
    (.badControlBlock, !(Seg.all.all fun k => aligned16 (rdWord d (0x20 + 4 * k.toNat)))),
    (.badControlBlock, rdByte d 0x13 != 0 || !((rdBytes d 0x1C 4).all (· == 0)) || !((rdBytes d 0x30 16).all (· == 0))) ]

/-- The first failing check of R174, none when the block passes. -/
def controlCheck (block : Word) (d : List Byte) : Option DevFault := firstFail (controlChecks block d)

/-! ## Segment block -/

/-- The segment block as laid out in 11. -/
def parseSegBlock (d : List Byte) : SegBlock :=
  { rate := rdByte d 0x00, acq := rdByte d 0x01, quiet := rdByte d 0x02, w := rdByte d 0x03, r := rdByte d 0x04,
    stall := rdByte d 0x05, arbLimit := rdByte d 0x06, revisit := rdByte d 0x07, period := rdHalf d 0x08,
    acceptBroadcast := rdFlag d 0x0A 0, monitor := rdFlag d 0x0A 1, logPolls := rdFlag d 0x0A 2,
    multi := rdFlag d 0x0A 3, lowStep := rdByte d 0x0B, weakStep := rdByte d 0x0C, own0 := rdByte d 0x0D,
    own1 := rdByte d 0x0E, own2 := rdByte d 0x0F, stationCount := rdByte d 0x10, pollLength := rdByte d 0x11,
    capSlots := rdHalf d 0x12, inbSlots := rdHalf d 0x14, stationTable := rdWord d 0x18, pollList := rdWord d 0x1C,
    chainHead := rdWord d 0x20, capBase := rdWord d 0x24, inbBase := rdWord d 0x28, respTable := rdWord d 0x2C,
    progress := rdWord d 0x30 }

def badAddress (a : Byte) : Bool := a == 0 || decide (125 < a.toNat)

/-- The checks 1 to 23 of R175 in their order. -/
def segChecks (low high : Word) (b : SegBlock) : List (Nat × Bool) :=
  let stations := b.stationCount.toNat
  let cap := b.capSlots.toNat
  let inb := b.inbSlots.toNat
  [ (1, decide (7 < b.rate.toNat)),
    (2, decide (7 < b.acq.toNat)),
    (3, decide (b.quiet.toNat < 16)),
    (4, decide (b.w.toNat < 2)),
    (5, b.r == 0 || !decide (b.r.toNat < b.w.toNat)),
    (6, decide (b.stall.toNat < 2)),
    (7, b.arbLimit == 0 || decide (15 < b.arbLimit.toNat)),
    (8, b.revisit == 0 || decide (16 < b.revisit.toNat)),
    (9, badAddress b.own0),
    (10, b.multi && (badAddress b.own1 || badAddress b.own2 || b.own0 == b.own1 || b.own0 == b.own2
          || b.own1 == b.own2)),
    (11, decide (7 < b.lowStep.toNat) || !decide (b.weakStep.toNat < b.lowStep.toNat)),
    (12, decide (32 < stations) || (decide (0 < stations) && !aligned16 b.stationTable)),
    (13, decide (64 < b.pollLength.toNat) || (decide (0 < b.pollLength.toNat) && b.pollList.getLsbD 0)),
    (14, !aligned16 b.chainHead),
    (15, decide (cap = 0) || decide (1024 < cap) || !aligned16 b.capBase),
    (16, decide (256 < inb) || (decide (0 < inb) && !aligned16 b.inbBase)),
    (17, !aligned16 b.respTable),
    (18, !aligned16 b.progress),
    (19, decide (0 < stations) && !insideWindow low high b.stationTable (32 * stations)),
    (20, !insideWindow low high b.capBase (80 * cap)),
    (21, decide (0 < inb) && !insideWindow low high b.inbBase (80 * inb)),
    (22, b.respTable != 0 && !insideWindow low high b.respTable 240),
    (23, !insideWindow low high b.progress 32) ]

/-- The number of the first failing check of R175, none when the block passes. -/
def segCheck (low high : Word) (b : SegBlock) : Option Nat := firstFail (segChecks low high b)

/-- Values of a run that has taken none: used only where no run value can be read (R44: "none"). -/
def SegBlock.blank : SegBlock :=
  { rate := 0, acq := 0, quiet := 0, w := 0, r := 0, stall := 0, arbLimit := 0, revisit := 0, period := 0,
    acceptBroadcast := false, monitor := false, logPolls := false, multi := false, lowStep := 0, weakStep := 0,
    own0 := 0, own1 := 0, own2 := 0, stationCount := 0, pollLength := 0, capSlots := 0, inbSlots := 0,
    stationTable := 0, pollList := 0, chainHead := 0, capBase := 0, inbBase := 0, respTable := 0, progress := 0 }

/-- The values of the run. -/
def Segment.blk (s : Segment) : SegBlock := s.run.getD SegBlock.blank

/-- The own address number of an enabled own address (R10, R129). -/
def SegBlock.ownIndex (b : SegBlock) (a : Byte) : Option Nat :=
  if a = b.own0 then some 0
  else if b.multi = true ∧ a = b.own1 then some 1
  else if b.multi = true ∧ a = b.own2 then some 2
  else none

/-! ## Station record -/

def parseStationCfg (d : List Byte) : StationCfg :=
  { addr := rdByte d 0x00, pollEnable := rdFlag d 0x01 0, heavy := rdFlag d 0x01 1, acceptDamaged := rdFlag d 0x01 2,
    expectSeq := rdFlag d 0x01 3, notifyHealth := rdFlag d 0x01 4, expLen := rdByte d 0x02, retry := rdByte d 0x03,
    threshold := rdByte d 0x04, payLen := rdByte d 0x05, payload := rdBytes d 0x08 8 }

/-- The cleared status half (R64). -/
def Status.cleared : Status :=
  { state := .unknown, heard := false, lastSeq := none, miss := 0, accepted := 0, duplicates := 0, drops := 0,
    lastCycle := 0 }

/-- A last seq field: 0, 1, or 0FFH for NONE; other values are out of range. -/
def seqOfCode (b : Byte) : Option (Option Bool) :=
  if b = 0 then some (some false) else if b = 1 then some (some true) else if b = 0xFF then some none else none

def seqCode : Option Bool → Byte
  | none => 0xFF
  | some b => Byte.ofBool b

/-- The status half of a station record, all-cleared under R49 when its state or last seq is out of range. -/
def parseStatus (d : List Byte) : Status :=
  match Health.ofCode (rdByte d 0x10), seqOfCode (rdByte d 0x12) with
  | some h, some q =>
    { state := h, heard := rdByte d 0x11 != 0, lastSeq := q, miss := rdByte d 0x13, accepted := rdHalf d 0x14,
      duplicates := rdHalf d 0x16, drops := rdHalf d 0x18, lastCycle := rdWord d 0x1C }
  | _, _ => Status.cleared

/-- The 16 bytes of a status half with its last outcome code (layout in 11; byte 1BH is written 0). -/
def Status.bytes (s : Status) (last : Byte) : List Byte :=
  [s.state.code, Byte.ofBool s.heard, seqCode s.lastSeq, s.miss] ++ wrHalf s.accepted ++ wrHalf s.duplicates
    ++ wrHalf s.drops ++ [last, 0] ++ wrWord s.lastCycle

/-- The checks of R51 in their order, with their detail codes. -/
def cfgChecks (b : SegBlock) (c : StationCfg) : List (Nat × Bool) :=
  [ (1, badAddress c.addr),
    (2, (b.ownIndex c.addr).isSome),
    (3, decide (64 < c.expLen.toNat)),
    (4, decide (3 < c.retry.toNat)),
    (5, c.threshold == 0 || decide (15 < c.threshold.toNat)),
    (6, decide (8 < c.payLen.toNat)) ]

def cfgCheck (b : SegBlock) (c : StationCfg) : Option Nat := firstFail (cfgChecks b c)

/-- The state a status half carries (R52). -/
def healthOf (threshold miss : Byte) (heard : Bool) : Health :=
  if threshold.toNat ≤ miss.toNat then .lost
  else if 0 < miss.toNat then .suspect
  else if heard then .active
  else .unknown

/-- A miss count raised by 1, staying at 255 (R59). -/
def missUp (m : Byte) : Byte := if m = 255 then 255 else m + 1

/-! ## Request record -/

def parseReqRecord (d : List Byte) : ReqRecord :=
  { arg := rdWord d 0x04, kind := ReqKind.ofCode (rdByte d 0x08), hold := rdFlag d 0x09 0, notify := rdFlag d 0x09 1,
    heavy := rdFlag d 0x09 2, target := rdByte d 0x0A, limit := rdByte d 0x0B, payLen := rdByte d 0x0C,
    ackBit := rdByte d 0x0D, payload := rdBytes d 0x10 64 }

/-- Values of a record not yet read. -/
def ReqRecord.empty : ReqRecord :=
  { arg := 0, kind := none, hold := false, notify := false, heavy := false, target := 0, limit := 0, payLen := 0,
    ackBit := 0, payload := [] }

def StationCfg.empty : StationCfg :=
  { addr := 0, pollEnable := false, heavy := false, acceptDamaged := false, expectSeq := false, notifyHealth := false,
    expLen := 0, retry := 0, threshold := 0, payLen := 0, payload := [] }

/-- R109: the request is BAD_REQUEST. The attempt limit is checked for every kind, those without line work included: R109
names no kind beside it, and says too that fields a kind does not use are not checked (the model's choice, log 47). -/
def ReqRecord.bad (b : SegBlock) (r : ReqRecord) : Bool :=
  match r.kind with
  | none => true
  | some kind =>
    r.limit == 0 || decide (4 < r.limit.toNat)
      || decide ((if kind = .pollOnce then 8 else 64) < r.payLen.toNat)
      || ((kind == .pollOnce || kind == .set) && badAddress r.target)
      || (kind == .pollOnce && decide (1 < r.ackBit.toNat))
      || (kind == .stationClear && decide (b.stationCount.toNat ≤ r.target.toNat))
      || (kind == .conserve && decide (1 < r.arg.toNat))

/-- POLL_ONCE, SET and ANNOUNCE: the kinds with line work (R111). -/
def ReqRecord.isLine (r : ReqRecord) : Bool :=
  r.kind == some .pollOnce || r.kind == some .set || r.kind == some .announce

/-! ## Responder record -/

/-- R131: an armed record that is fit, from the 80 bytes of responder record at a; none for one answered NAK. -/
def parseResp (a : Word) (d : List Byte) : Option RespRecord :=
  if rdByte d 0x00 = 1 ∧ (rdByte d 0x03).toNat ≤ 64 ∧ (rdByte d 0x02).toNat ≤ 1 then
    some { addr := a, oneShot := rdByte d 0x01 != 0, seq := rdByte d 0x02 == 1, count := rdWord d 0x04,
           data := rdBytes d 0x10 (rdByte d 0x03).toNat }
  else none

/-! ## Notice and progress records -/

/-- The notice slot from its kind to its reference word, bytes 02H to 0FH (byte 07H is written 0). -/
def Notice.bytes (n : Notice) : List Byte :=
  [n.kind.code, n.seg, n.station, n.addr, n.detail, 0] ++ wrWord n.cycle ++ wrWord n.ref

end Sys2Proof.Machine
end

