-- ==== Sys2Proof/Machine/Flags.lean ====
section
/-! DEFINITION. Attention causes, the interrupt line and the views of the register window (R161, R167). -/

namespace Sys2Proof.Machine

/-- The bits of ATTENTION (R161). -/
inductive Cause where
  | notice | noticeLost | loaded | deviceFault
  | segStop (k : Seg)
  deriving DecidableEq, Repr

def Cause.bit : Cause → Nat
  | .notice => 0 | .noticeLost => 1 | .loaded => 2 | .deviceFault => 3
  | .segStop k => 4 + k.toNat

/-- A cause is set by its event, whatever the mask holds (R167). -/
def State.setCause (s : State) (c : Cause) : State :=
  { s with attention := s.attention ||| BitVec.ofNat 8 (2 ^ c.bit) }

/-- R167: asserted exactly when ATTENTION and ATTENTION MASK have a set cause in common. -/
def State.interruptLine (s : State) : Bool := s.attention &&& s.mask != 0

/-! ## Four values, one a segment -/

def Four.get {α : Type} (f : Four α) : Seg → α
  | .s0 => f.v0 | .s1 => f.v1 | .s2 => f.v2 | .s3 => f.v3

def Four.put {α : Type} (f : Four α) (k : Seg) (a : α) : Four α :=
  match k with
  | .s0 => { f with v0 := a }
  | .s1 => { f with v1 := a }
  | .s2 => { f with v2 := a }
  | .s3 => { f with v3 := a }

def Four.all {α : Type} (f : Four α) (p : α → Bool) : Bool := p f.v0 && p f.v1 && p f.v2 && p f.v3

/-! ## Views of the registers -/

/-- The six registers of the register window (R161). -/
inductive Register where
  | control | block | scan | attention | mask | state
  deriving DecidableEq, Repr

/-- The offset of a register in the window (R161). -/
def Register.offset : Register → Nat
  | .control => 0x00 | .block => 0x04 | .scan => 0x08 | .attention => 0x0C | .mask => 0x10 | .state => 0x14

def Register.all : List Register := [.control, .block, .scan, .attention, .mask, .state]

/-- The register at an offset of the window (R161). -/
def registerAt (offset : Nat) : Option Register := Register.all.find? fun r => r.offset == offset

/-- The RUN bit of a segment as CONTROL shows it (R24). -/
def Segment.runBit (s : Segment) : Bool := s.state != .stopped || s.starting

/-- STOPPED with no start in progress (R24). -/
def Segment.atRest (s : Segment) : Bool := !s.runBit

/-- A value shifted to its place in a register. -/
def field (n shift : Nat) : Word := BitVec.ofNat 32 (n * 2 ^ shift)

/-- What a read of CONTROL returns: ENABLE in bit 0, RESET reads 0, RUN0 to RUN3 in bits 4 to 7 (R161, R162). -/
def State.controlView (s : State) : Word :=
  field s.dev.enable.toNat 0
    ||| field (s.segs.get .s0).runBit.toNat 4 ||| field (s.segs.get .s1).runBit.toNat 5
    ||| field (s.segs.get .s2).runBit.toNat 6 ||| field (s.segs.get .s3).runBit.toNat 7

/-- What a read of STATE returns (R161): device state, device fault code, and the STATE code of each segment. -/
def State.stateView (s : State) : Word :=
  field s.dev.state.code 0 ||| field s.dev.fault.code 4
    ||| field (s.segs.get .s0).state.code 8 ||| field (s.segs.get .s1).state.code 12
    ||| field (s.segs.get .s2).state.code 16 ||| field (s.segs.get .s3).state.code 20

/-- What a read of SCAN returns (R161). -/
def State.scanView (_ : State) : Word := 0

/-- What a read of ATTENTION returns: the causes set at the read (R167). -/
def State.attentionView (s : State) : Word := s.attention.setWidth 32

/-- What a read of ATTENTION MASK returns. -/
def State.maskView (s : State) : Word := s.mask.setWidth 32

/-- What a read of a register returns (R161). -/
def State.view (s : State) : Register → Word
  | .control => s.controlView
  | .block => s.block
  | .scan => s.scanView
  | .attention => s.attentionView
  | .mask => s.maskView
  | .state => s.stateView

/-- What a read at an offset of the window returns (R161). -/
def State.windowRead (s : State) (offset : Nat) : Option Word := (registerAt offset).map s.view

end Sys2Proof.Machine
end

