-- ==== Sys2Proof/Machine/Frame.lean ====
section
/-! DEFINITION. Characters and frames: parity, CRC, the header test, frame assembly, frame classes, and the frames the
part sends (R1 to R8, R19). -/

namespace Sys2Proof.Machine

/-! ## Characters -/

/-- The number of 1 bits of a byte. -/
def onesOf (c : Byte) : Nat := ((List.range 8).filter fun i => c.getLsbD i).length

/-- R1: the data bits and the parity bit hold an even number of 1s. -/
def parityOk (c : Byte) (parity : Bool) : Bool := (onesOf c + parity.toNat) % 2 == 0

/-! ## CRC (R7) -/

/-- One bit of the CRC, the data bit entering at the top. -/
def crcBit (crc : Half) (b : Bool) : Half :=
  if crc.msb ^^ b then (crc <<< 1) ^^^ 0x1021 else crc <<< 1

/-- One character, most significant bit first. -/
def crcByte (crc : Half) (c : Byte) : Half :=
  [7, 6, 5, 4, 3, 2, 1, 0].foldl (fun acc i => crcBit acc (c.getLsbD i)) crc

/-- The CRC over the characters from DEST through the last payload character. -/
def crc16 (cs : List Byte) : Half := cs.foldl crcByte 0xFFFF

/-! ## Fields of a frame (R4, R5) -/

def charAt (cs : List Byte) (i : Nat) : Byte := cs.getD i 0

def destOf (cs : List Byte) : Byte := charAt cs 1
def srcOf (cs : List Byte) : Byte := charAt cs 2
def ctrlOf (cs : List Byte) : Byte := charAt cs 3
def lenOf (cs : List Byte) : Byte := charAt cs 4

/-- The payload characters, frame positions 6 to 5 + LEN. -/
def payloadOf (cs : List Byte) : List Byte := (cs.drop 6).take (lenOf cs).toNat

/-- The kind of a CTRL character (R9); code 7 is invalid. -/
def kindOfCtrl (c : Byte) : Option FrameKind :=
  match (c.extractLsb' 0 3).toNat with
  | 0 => some .poll
  | 1 => some .reply
  | 2 => some .set
  | 3 => some .ack
  | 4 => some .nak
  | 5 => some .notice
  | 6 => some .announce
  | _ => none

def FrameKind.code : FrameKind → Byte
  | .poll => 0 | .reply => 1 | .set => 2 | .ack => 3 | .nak => 4 | .notice => 5 | .announce => 6

def kindOf (cs : List Byte) : Option FrameKind := kindOfCtrl (ctrlOf cs)

/-- The seq bit of CTRL, bit 3. -/
def seqOf (cs : List Byte) : Bool := (ctrlOf cs).getLsbD 3

/-- The kinds that reserve the line (R9, R12). -/
def FrameKind.reserves : FrameKind → Bool
  | .poll | .set | .notice => true
  | .reply | .ack | .nak | .announce => false

/-- HCHK: the complement of the header sum (R4). -/
def hchkOf (dest src ctrl len : Byte) : Byte := ~~~(dest + src + ctrl + len)

/-- CTRL of a frame the part sends: ack bit 4, seq bit 3, kind code (R5). -/
def ctrlByte (kind : FrameKind) (seq ack : Bool) : Byte :=
  kind.code ||| (if seq then 0x08 else 0) ||| (if ack then 0x10 else 0)

/-- A whole frame (R4, R7). -/
def buildFrame (dest src ctrl : Byte) (payload : List Byte) : List Byte :=
  let len := BitVec.ofNat 8 payload.length
  let crc := crc16 ([dest, src, ctrl, len] ++ payload)
  [Config.sync, dest, src, ctrl, len, hchkOf dest src ctrl len] ++ payload
    ++ [crc.extractLsb' 8 8, crc.extractLsb' 0 8]

/-! ## The header test (R6) -/

/-- The test of the character at frame position i, given the characters up to it. -/
def headerTest (cs : List Byte) (i : Nat) : Option HeaderFail :=
  match i with
  | 0 => if charAt cs 0 = Config.sync then none else some .noSync
  | 1 => if 127 < (destOf cs).toNat then some .range else none
  | 2 => if 127 < (srcOf cs).toNat then some .range else none
  | 3 =>
    if (ctrlOf cs).extractLsb' 5 3 ≠ 0 then some .reservedBits
    else if (kindOf cs).isNone then some .invalidKind
    else none
  | 4 => if 64 < (lenOf cs).toNat then some .range else none
  | 5 => if charAt cs 5 = hchkOf (destOf cs) (srcOf cs) (ctrlOf cs) (lenOf cs) then none else some .checkMismatch
  | _ => none

/-! ## Assembly (R3, R4, R6) -/

def Assembly.empty : Assembly :=
  { chars := [], marks := [], fail := none, framing := false, broken := false, own := 0, foreign := false }

/-- The header is valid and all LEN + 8 characters are there (R4). -/
def Assembly.complete (a : Assembly) : Bool :=
  a.fail.isNone && decide (6 ≤ a.chars.length) && decide (a.chars.length = 8 + (lenOf a.chars).toNat)

/-- A complete character joins the frame: the header test runs as it completes, and a wrong parity marks its
position. After a header failure characters are ignored. -/
def Assembly.push (a : Assembly) (c : Byte) (parityGood : Bool) : Assembly :=
  if a.fail.isSome then a
  else
    let i := a.chars.length
    let cs := a.chars ++ [c]
    { a with chars := cs, marks := if parityGood then a.marks else a.marks ++ [i], fail := headerTest cs i }

/-- The next character of a frame another device sends, or of the line after the part has left it. A dominant stop bit
is a framing error; it breaks the frame unless its header has failed (R3, R8). A character after a frame that has
ended begins a new one (R4). -/
def assemble (old : Option Assembly) (c : Byte) (parityGood stop : Bool) : Assembly :=
  let a :=
    match old with
    | none => Assembly.empty
    | some a => if a.complete || a.broken then Assembly.empty else a
  let a := { a with foreign := true }
  if stop then a.push c parityGood
  else if a.fail.isSome then { a with framing := true }
  else { a with framing := true, broken := true }

/-- The characters of its own frame that the part had read back when it left the line (R16, R17). A collision in SYNC
leaves none: the frame that follows is then kept with no character, and its report is BROKEN (log 33). -/
def assembleOwn (sent : List Byte) (n : Nat) : Assembly :=
  let own := sent.take n
  { own.foldl (fun a c => a.push c true) Assembly.empty with own := own.length }

/-- CRC valid (R7): over DEST to the last payload character, HCHK left out. -/
def crcGood (cs : List Byte) : Bool :=
  let n := (lenOf cs).toNat
  let crc := crc16 ((cs.drop 1).take 4 ++ payloadOf cs)
  charAt cs (6 + n) == crc.extractLsb' 8 8 && charAt cs (7 + n) == crc.extractLsb' 0 8

/-- The class of the frame in assembly at its report (R8). -/
def Assembly.cls (a : Assembly) : Class :=
  if a.broken then .broken
  else
    match a.fail with
    | some .noSync => .noSync
    | some cause => .badHeader cause
    | none => if a.complete then (if crcGood a.chars then .good else .damaged) else .broken

/-- R19: the report is a framing fault (one a report, log 10). -/
def Assembly.framingFault (a : Assembly) : Bool :=
  (decide (a.own = 0) || a.foreign) &&
    (a.framing ||
      (match a.cls with
       | .noSync => true
       | .badHeader cause => cause == .checkMismatch || cause == .reservedBits
       | _ => false))

def Assembly.frame (a : Assembly) : RxFrame := { chars := a.chars, good := a.cls == .good, marks := a.marks }

end Sys2Proof.Machine
end

