-- ==== Sys2Proof/Machine/Ops.lean ====
section
/-! DEFINITION. The named operations of a segment unit that every chapter shares: the working copy an event acts on,
raising notices, issuing accesses, the progress record, the receive buffers. -/

namespace Sys2Proof.Machine

/-- What an event of segment k works on: the segment unit, the notices raised in order, whether the result of the granted
access is to be discarded (drop), whether SEG_STOP is set and whether the free value was used; with what it may read:
the window, whether SEGMENT_STOPPED and SEGMENT_FAULT are withheld (mute, R45), whether a device-wide stop is in force
(wide, R45), a free value of the segment supply (log 7), and the port's granted access. -/
structure Work where
  k : Seg
  low : Word
  high : Word
  mute : Bool
  wide : Bool
  free : Nat
  bus : Option Busy
  seg : Segment
  notices : List Notice
  drop : Bool
  segStop : Bool
  drew : Bool
  deriving DecidableEq, Repr

/-- An operation that changes the segment unit alone. -/
def Work.on (w : Work) (f : Segment → Segment) : Work := { w with seg := f w.seg }

/-! ## Notices of a segment (R168, R177) -/

def segByte (k : Seg) : Byte := BitVec.ofNat 8 k.toNat

/-- A notice of the segment, with its current cycle number. -/
def Work.raise (w : Work) (kind : NoticeKind) (station addr detail : Byte) (ref : Word) : Work :=
  { w with notices := w.notices ++
      [{ kind := kind, seg := segByte w.k, station := station, addr := addr, detail := detail,
         cycle := w.seg.cycle.number, ref := ref }] }

/-- A notice that names no station: station index 0FFH and station address 0 (R177). -/
def Work.raiseSeg (w : Work) (kind : NoticeKind) (detail : Byte) (ref : Word) : Work :=
  w.raise kind 0xFF 0 detail ref

/-! ## Accesses -/

def Waits.access (v : Waits) : Source → Option Access
  | .urgent => v.urgent
  | .control => v.control
  | .responder => v.responder
  | .unit => v.unit
  | .chain => v.chain

/-- The unit issues accesses and takes line events: it is neither STOPPED nor FAULTED, and no fault waits for the end of
a frame (R40). -/
def Segment.live (s : Segment) : Bool := s.state != .stopped && s.state != .faulted && s.faultHeld.isNone

/-- The receiver is on (R3). -/
def Segment.receiverOn (s : Segment) : Bool := s.state != .stopped && s.state != .faulted

/-- LOCKED and not about to leave it by a fault: frames may begin and units may be begun (R13, R35, R40). -/
def Segment.working (s : Segment) : Bool := s.state == .locked && s.faultHeld.isNone

/-- The segment is in conserve (R144). -/
def Segment.conserve (s : Segment) : Bool := s.supply.auto || s.supply.forced

def Op.isWrite : Op → Bool
  | .progress | .statusWrite | .capBody | .capMarkerWrite | .takenWrite | .linkSeen | .outcomeWrite | .stateWrite
  | .clearWrite | .writeBack | .inbBody | .inbMarkerWrite | .noticeBody | .noticeMarkerWrite | .devProgress => true
  | .controlBlock | .segBlock | .entryRead | .stationRead | .capMarkerRead | .takeRead | .groupLink | .groupState
  | .headState | .chainLink | .chainState | .respRecord | .inbMarkerUrgent | .inbMarkerRead | .noticeMarkerRead => false

/-- The source of the segment's access that is on the bus, if one is. -/
def Work.busSource (w : Work) : Option Source :=
  match w.bus with
  | some ⟨.segment k src, _, _⟩ => if k = w.k then some src else none
  | _ => none

/-- The segment's access on the bus has its result discarded when its piece satisfies p (R159). -/
def Work.discard (w : Work) (p : Op → Bool) : Work :=
  match w.bus with
  | some b => if w.busSource.isSome = true ∧ p b.acc.op = true then { w with drop := true } else w
  | none => w

def Segment.issueUnit (s : Segment) (a : Access) : Segment := { s with waits := { s.waits with unit := some a } }

def Segment.issueChain (s : Segment) (a : Access) : Segment := { s with waits := { s.waits with chain := some a } }

def Segment.issueResp (s : Segment) (a : Access) : Segment := { s with waits := { s.waits with responder := some a } }

def Segment.issueUrgent (s : Segment) (a : Access) : Segment := { s with waits := { s.waits with urgent := some a } }

/-! ## The progress record (R42, R43) -/

/-- A progress record write is requested; it merges with one that waits (R43). Its bytes are those of its grant. -/
def Segment.reqProgress (s : Segment) (changes : List Change) : Segment :=
  { s with waits := { s.waits with control := some ⟨.progress, s.blk.progress, 0, []⟩ },
           prWait := s.prWait ++ changes }

/-- The status word (11): the state is STOPPED in the write of step 1 of R38. -/
def Segment.statusWord (s : Segment) : Word :=
  field (if s.stopWrite then SegState.stopped.code else s.state.code) 0 ||| field s.fault.code 3
    ||| field s.supply.level.code 6 ||| field (s.resp.next % 256) 8 ||| field (s.cap.next % 1024) 16
    ||| field s.supply.auto.toNat 30 ||| field s.supply.forced.toNat 31

/-- R79: the record write of a cycle end is requested: it carries the number of the cycle that has ended. -/
def Segment.cycleRecord (s : Segment) : Segment := { s.reqProgress [] with prEnded := some s.cycle.number }

/-- The cycle number a progress record carries (R43): the one held, or that of the ended cycle when the write waits for a
cycle end too (R79); the record of STOPPED or FAULTED carries the one held (log 37). -/
def Segment.recordCycle (s : Segment) : Word :=
  if s.stopWrite = true ∨ s.state = .faulted then s.cycle.number else s.prEnded.getD s.cycle.number

/-- The 32 bytes of the segment progress record (11). -/
def Segment.progressBytes (s : Segment) : List Byte :=
  wrWord s.statusWord ++ wrWord s.recordCycle ++ wrWord s.counters.overruns ++ wrWord s.counters.arbLosses
    ++ wrWord s.counters.framingFaults ++ wrWord s.counters.strays ++ wrWord s.counters.inbDrops
    ++ wrWord (s.req.anchor.getD 0)

/-! ## Receive buffers (R21) -/

def Line.freeBuf (l : Line) : Option Buf :=
  if l.buf0.isNone then some .b0 else if l.buf1.isNone then some .b1 else none

def Line.store (l : Line) (b : Buf) (f : RxFrame) : Line :=
  match b with
  | .b0 => { l with buf0 := some f }
  | .b1 => { l with buf1 := some f }

def Line.release (l : Line) (b : Buf) : Line :=
  match b with
  | .b0 => { l with buf0 := none }
  | .b1 => { l with buf1 := none }

def Line.held (l : Line) (b : Buf) : Option RxFrame :=
  match b with
  | .b0 => l.buf0
  | .b1 => l.buf1

def Segment.release (s : Segment) (b : Buf) : Segment := { s with line := s.line.release b }

def Segment.releaseOpt (s : Segment) : Option Buf → Segment
  | none => s
  | some b => s.release b

/-- The frame a buffer holds. -/
def Segment.frameIn (s : Segment) (b : Buf) : RxFrame := (s.line.held b).getD ⟨[], false, []⟩

/-- The inbound drops counter rises by 1 (R21, R133, R136). -/
def Segment.countInbDrop (s : Segment) : Segment :=
  { s with counters := { s.counters with inbDrops := s.counters.inbDrops + 1 } }

/-- Advance of a ring index, from the last slot to 0. -/
def ringNext (i slots : Nat) : Nat := if i + 1 < slots then i + 1 else 0

/-- The address of slot i of a ring. -/
def slotAt (base : Word) (size i : Nat) : Word := base.off (size * i)

end Sys2Proof.Machine
end

