-- ==== Sys2Proof/Machine/Supply.lean ====
section
/-! DEFINITION. The segment supply monitor (08): samples, automatic conserve, the sweep. -/

namespace Sys2Proof.Machine

/-- R143: what the two comparators read of a supply of mv mV, each against the threshold of the step it is set to. -/
def Supply.read (p : Supply) (mv : Nat) : Readings :=
  { low := decide (Config.threshold p.lowCmp ≤ mv), weak := decide (Config.threshold p.weakCmp ≤ mv) }

/-- R146: the level of a sample. -/
def levelOf (r : Readings) : Level := if !r.weak then .weak else if !r.low then .low else .ok

/-- R146: the notice a change of level raises. -/
def levelNotice : Level → Level → Option NoticeKind
  | .ok, .low => some .supplyLow
  | .ok, .weak => some .supplyWeak
  | .low, .weak => some .supplyWeak
  | .low, .ok => some .supplyOk
  | .weak, .ok => some .supplyOk
  | .weak, .low | .ok, .ok | .low, .low | .weak, .weak => none

/-- R147: automatic conserve and the recovery count after a sample of level l. -/
def Supply.autoStep (s : Supply) (l : Level) : Supply :=
  if s.auto then
    if l = .weak then { s with recovery := 0 }
    else if 2 ≤ s.recovery + 1 then { s with auto := false, recovery := 0 }
    else { s with recovery := s.recovery + 1 }
  else if l = .weak then { s with auto := true, recovery := 0 }
  else s

/-- What a sample with readings r does (R146, R147): the level, automatic conserve, and at most one notice carrying the
level before. -/
def Work.sample (w : Work) (r : Readings) : Work :=
  let before := w.seg.supply.level
  let after := levelOf r
  let w' := w.on fun s => { s with supply := { s.supply.autoStep after with level := after } }
  match levelNotice before after with
  | some kind => w'.raiseSeg kind (BitVec.ofNat 8 before.code) 0
  | none => w'

/-- One sample of a supply of mv mV (R143, R145). -/
def Work.sampleAt (w : Work) (mv : Nat) : Work := w.sample (w.seg.supply.read mv)

/-- The sample timer is loaded with 500 ms (R145). -/
def Supply.loadTimer (s : Supply) : Supply := { s with timer := .running Config.sampleMs }

/-- R149: the sweep begins at step 0 with no step met. -/
def Supply.sweepStart (s : Supply) : Supply := { s with sweep := .sweeping 0 none, weakCmp := 0 }

/-- R149, R150: the sweep is over and the WEAK comparator is back at the weak step of the run. -/
def Segment.sweepOff (s : Segment) : Segment :=
  { s with supply := { s.supply with sweep := .idle, weakCmp := s.blk.weakStep.toNat } }

/-- R150: a deferred sample is taken at once when the sweep ends, with the WEAK comparator back at the weak step. -/
def Work.deferredSample (w : Work) (mv : Nat) : Work :=
  if w.seg.supply.deferred then
    (w.on fun s => { s with supply := { s.supply with deferred := false } }).sampleAt mv
  else w

/-- R150: a stop ends the sweep; a deferred sample is then taken, of a free supply (log 7). -/
def Work.sweepStop (w : Work) : Work :=
  match w.seg.supply.sweep with
  | .idle => w
  | .sweeping _ _ =>
    let w' := w.on Segment.sweepOff
    { w'.deferredSample w.free with drew := w.drew || w.seg.supply.deferred }

/-- R149: the result of a sweep, 0FFH when no step was met. -/
def sweepResult : Option Nat → Word
  | some n => BitVec.ofNat 32 n
  | none => 0xFF

end Sys2Proof.Machine
end

