-- ==== Sys2Proof/Machine/Sequencer.lean ====
section
/-! DEFINITION. The cycle engine of the work sequencer (04) and the chain read of the request engine (R105, R106):
which unit of work is begun next. -/

namespace Sys2Proof.Machine

def Segment.pollLength (s : Segment) : Nat := s.blk.pollLength.toNat

/-! ## Chain reads (R105, R106) -/

/-- A chain read is requested (R106): it begins, is noted, or is discarded. While the head is being examined there is
no anchor and the request is discarded. Once the STOPPED record write is asked for, the segment makes no further
access (R38, log 19). -/
def Segment.chainRequest (s : Segment) : Segment :=
  if s.stopWrite then s
  else
    match s.req.chain with
    | .exam => s
    | .link | .state _ => { s with req := { s.req with more := true } }
    | .idle =>
      if s.req.ready ∨ s.req.current.isSome then s
      else
        match s.req.anchor with
        | none => s
        | some a =>
          { s with req := { s.req with chain := .link },
                   waits := { s.waits with chain := some (.read .chainLink a 4) } }

/-- A chain read has ended; one that was noted is requested now (R106). -/
def Segment.chainEnd (s : Segment) : Segment :=
  let s' := { s with req := { s.req with chain := .idle, more := false } }
  if s.req.more then s'.chainRequest else s'

/-- R105: at the first entry to LOCKED the state of the chain head is read and the scan timer started. -/
def Segment.examineHead (s : Segment) : Segment :=
  if s.blk.chainHead = 0 then s
  else
    { s with
      req := { s.req with chain := .exam,
                          scanTimer := if s.scanInterval = 0 then .stopped else .running s.scanInterval.toNat },
      waits := { s.waits with chain := some (.read .headState (s.blk.chainHead.off 0x0E) 1) } }

/-- A record found FRESH becomes the candidate and the successor-ready flag is set (R105, R106, R124). -/
def Segment.candidate (s : Segment) (a : Word) : Segment :=
  { s with req := { s.req with cand := some a, ready := true } }

/-! ## Cycle begin and cycle end (R69, R79) -/

/-- R69, R79, R83: a cycle begins. With no poll entries it ends at its begin, or, with period 0, holds its one
opportunity open. -/
def Segment.beginCycle (s : Segment) : Segment :=
  let period := s.blk.period.toNat
  let c : Cycle :=
    { s.cycle with
      number := s.cycle.number + 1, state := .running, index := 0, expired := false, held := false,
      timer := if period = 0 then .stopped else .running period }
  if 0 < s.pollLength then { s with cycle := { c with point := .entryDue } }
  else if period = 0 then { s with cycle := { c with point := .oppOpen } }
  else { s with cycle := { c with state := .waiting, point := .notBegun } }.cycleRecord

/-- R79: the cycle ends, a progress record write that carries its number is requested, and the next cycle is due or the
engine waits. -/
def Segment.cycleEnd (s : Segment) : Segment :=
  let s := s.cycleRecord
  if s.cycle.expired = true ∨ s.blk.period = 0 then { s with cycle := { s.cycle with held := true, point := .notBegun } }
  else { s with cycle := { s.cycle with state := .waiting, point := .notBegun } }

/-- R70, R79: an opportunity has passed. -/
def Segment.passOpportunity (s : Segment) : Segment :=
  if s.cycle.index + 1 < s.pollLength then
    { s with cycle := { s.cycle with index := s.cycle.index + 1, point := .entryDue } }
  else s.cycleEnd

/-! ## Beginning a unit -/

def EntryUnit.begin : EntryUnit :=
  { step := .entryRead, station := 0, pauseAfter := 0, recAddr := 0, cfg := .empty, st := .cleared, outcome := none,
    buf := none, seq := false, dropped := false, used := 0 }

/-- The address of the poll entry at the poll index (R67). -/
def Segment.entryAddr (s : Segment) : Word := slotAt s.blk.pollList 2 s.cycle.index

/-- R70: the entry at the poll index is read. -/
def Segment.startEntry (s : Segment) : Segment :=
  { s with
    unit := .entry .begin,
    waits := { s.waits with unit := some (.read .entryRead s.entryAddr 2) },
    cycle := { s.cycle with point := .inEntry, pause := .none, losses := 0, attempt := 0 } }

def ReqUnit.begin (a : Word) (broken : Bool) : ReqUnit :=
  { step := .takeRead, addr := a, body := .empty, outcome := none, attempt := 0, used := 0, buf := none, result := 0,
    holdUnmet := false, succ := .none, broken := broken, last := false, doneCycle := 0 }

/-- R108: the candidate is read whole. -/
def Segment.startTake (s : Segment) : Segment :=
  match s.req.cand with
  | none => s
  | some a =>
    { s with
      unit := .request (.begin a (s.req.cond == .breaking)),
      waits := { s.waits with unit := some (.read .takeRead a 160) },
      req := { s.req with losses := 0 } }

/-- The first take of a request unit (R78, R80, R84): the group begins afresh. -/
def Segment.startUnit (s : Segment) : Segment :=
  let s : Segment := { s with
    req := { s.req with count := 0, cond := .none, lineHeld := true, sent := false, gap := .none },
    cycle := { s.cycle with
      point := if s.cycle.point = .oppDue ∨ s.cycle.point = .oppOpen then .inOpp else s.cycle.point } }
  s.startTake

/-! ## What is begun next -/

/-- R78: the opportunity after an entry, once the pause-after has run out. -/
def Segment.testOpportunity (s : Segment) : Segment :=
  if s.cycle.state = .running ∧ s.cycle.point = .oppDue ∧ s.cycle.pause = .none then
    if s.req.ready then s.startUnit else s.passOpportunity
  else s

/-- R69, R80, R81: a held begin, or an expiry taken in WAITING, begins the cycle when no unit is in service. -/
def Segment.beginDue (s : Segment) : Segment :=
  if s.unit = .none ∧ (s.cycle.held = true ∨ (s.cycle.state = .waiting ∧ s.cycle.expired = true)) then s.beginCycle
  else s

/-- R70, R80, R83, R84: the next entry, or a request unit in WAITING, in PAUSED or at an opportunity held open. -/
def Segment.dispatch (s : Segment) : Segment :=
  if s.unit = .none then
    match s.cycle.state with
    | .running =>
      match s.cycle.point with
      | .entryDue => s.startEntry
      | .oppOpen => if s.req.ready then s.startUnit else s
      | .notBegun | .inEntry | .oppDue | .inOpp => s
    | .waiting | .paused => if s.req.ready then s.startUnit else s
  else s

/-- The work sequencer begins what is due: only in LOCKED and with no unit in service (R35). -/
def Segment.kick (s : Segment) : Segment :=
  if s.working = true ∧ s.unit = .none then s.testOpportunity.beginDue.dispatch else s

/-! ## Ending a unit -/

/-- The poll entry has ended (R76); its opportunity is due. -/
def Segment.endEntry (s : Segment) : Segment :=
  { s with unit := .none, xact := .idle,
           cycle := { s.cycle with point := .oppDue, losses := 0, attempt := 0 } }

/-- The group and transaction values between units (R104, R124). -/
def Segment.clearUnit (s : Segment) : Segment :=
  { s with unit := .none, xact := .idle,
           req := { s.req with count := 0, cond := .none, losses := 0, lineHeld := true, sent := false, gap := .none } }

/-- The request unit has ended (R112): an opportunity that served it passes, unless the segment is STOPPING (R86), and
a chain read is requested, in STOPPING too, where it may read a member that the stopped group has not taken (log 19). -/
def Segment.endUnit (s : Segment) : Segment :=
  let s := s.clearUnit
  let s := if s.cycle.point = .inOpp ∧ s.state ≠ .stopping then s.passOpportunity else s
  s.chainRequest

/-- R108: the candidate was no longer FRESH. A first member leaves no unit: the opportunity passes, and a chain head
becomes the anchor. A later member ends its group (R124). -/
def Segment.dropTake (s : Segment) (a : Word) : Segment :=
  let first := decide (s.req.count = 0)
  let s := { s with req := { s.req with cand := none, ready := false } }
  if first then
    let s := s.clearUnit
    let s := if s.cycle.point = .inOpp then s.passOpportunity else s
    if s.req.anchor.isNone then { s with req := { s.req with anchor := some a } }.chainRequest else s
  else s.endUnit

/-! ## Pause and resume (R84, R85) -/

/-- R84: the effect of a CYCLE_PAUSE. The poll index stays at the entry whose opportunity served it (log 45). In PAUSED
nothing changes, a begin that an earlier CYCLE_RESUME left held included (log 39). -/
def Segment.pauseCycle (s : Segment) : Segment :=
  if s.cycle.state = .paused then s
  else { s with cycle := { s.cycle with state := .paused, timer := .stopped, expired := false, held := false,
                                        point := .notBegun } }

/-- R85: the effect of a CYCLE_RESUME: a new cycle begins in PAUSED; while the segment is not LOCKED the begin is held
(R69). -/
def Segment.resumeCycle (s : Segment) : Segment :=
  if s.cycle.state = .paused then
    if s.working then s.beginCycle else { s with cycle := { s.cycle with held := true } }
  else s

end Sys2Proof.Machine
end

