-- ==== Sys2Proof/Machine/Entry.lean ====
section
/-! DEFINITION. A poll entry in service: its reads and their judgement (03, 04), the capture (05), the status write. -/

namespace Sys2Proof.Machine

def Segment.setEntry (s : Segment) (e : EntryUnit) : Segment := { s with unit := .entry e }

/-! ## The status half (R48, R52, R56 to R60) -/

/-- The status half that an entry with outcome o writes: the values read changed by the outcome, the state by R52. -/
def EntryUnit.newStatus (e : EntryUnit) (o : Ending) (cycle : Word) : Status :=
  let s := e.st
  let s : Status :=
    match o with
    | .replied =>
      { s with miss := 0, heard := true, lastSeq := some e.seq, accepted := s.accepted + 1, lastCycle := cycle,
               drops := if e.dropped then s.drops + 1 else s.drops }
    | .duplicate => { s with miss := 0, heard := true, duplicates := s.duplicates + 1 }
    | .refused => { s with miss := 0, heard := true }
    | .noReply | .badReply => { s with miss := missUp s.miss }
    | _ => s
  { s with state := healthOf e.cfg.threshold s.miss s.heard }

/-- The status-half write: all 16 bytes as one access (R48). -/
def Segment.writeStatus (s : Segment) (e : EntryUnit) (o : Ending) : Segment :=
  (s.setEntry { e with step := .status, outcome := some o }).issueUnit
    (.write .statusWrite (e.recAddr.off 16) ((e.newStatus o s.cycle.number).bytes o.code))

/-- The outcome of an entry that ran its checks is decided (R76): a capture for REPLIED, then the status write.
p is how the pause-after starts (R77). -/
def Segment.decideEntry (s : Segment) (e : EntryUnit) (o : Ending) (p : Pause) : Segment :=
  let s : Segment := { s with
    xact := .idle,
    cycle := { s.cycle with pause := if e.pauseAfter = 0 ∨ s.state = .stopping then .none else p } }
  if o = .replied then
    (s.setEntry { e with step := .capMarker, outcome := some o }).issueUnit
      (.read .capMarkerRead (slotAt s.blk.capBase 80 s.cap.next) 2)
  else s.writeStatus e o

/-! ## Reads of an entry (R70, R71, R50, R51, R86, R87) -/

/-- The outcome of work that a departure from LOCKED ends (R35). -/
def Segment.departEnding (s : Segment) : Ending :=
  match s.departed with
  | .lockLoss => .framingLost
  | .stall => .lineStall

/-- The poll entry has been read. -/
def Work.entryReadDone (w : Work) (e : EntryUnit) (d : List Byte) : Work :=
  let idx := rdByte d 0
  let pause := rdByte d 1
  if w.seg.state = .stopping then w.on Segment.endEntry
  else if idx = 0xFF then
    w.on fun s =>
      let s := s.endEntry
      { s with cycle := { s.cycle with pause := if pause = 0 then .none else .running } }
  else if w.seg.blk.stationCount.toNat ≤ idx.toNat then
    (w.raise .badEntry idx 0 (BitVec.ofNat 8 w.seg.cycle.index) w.seg.entryAddr).on Segment.endEntry
  else
    w.on fun s =>
      let a := slotAt s.blk.stationTable 32 idx.toNat
      (s.setEntry { e with step := .stationRead, station := idx, pauseAfter := pause, recAddr := a }).issueUnit
        (.read .stationRead a 32)

/-- R61: the cycle is a revisit cycle. -/
def Segment.revisitCycle (s : Segment) : Bool := s.cycle.number.toNat % s.blk.revisit.toNat == 0

/-- The station record has been read: the judgement of R50, then the POLL, or the end that the segment's state calls
for (R86, R87). -/
def Work.stationReadDone (w : Work) (e : EntryUnit) (d : List Byte) : Work :=
  let e := { e with cfg := parseStationCfg d, st := parseStatus d }
  let s := w.seg
  if !e.cfg.pollEnable then w.on Segment.endEntry
  else
    match cfgCheck s.blk e.cfg with
    | some n => (w.raise .badRecord e.station e.cfg.addr (BitVec.ofNat 8 n) e.recAddr).on Segment.endEntry
    | none =>
      if e.st.state = .lost ∧ s.revisitCycle = false then w.on Segment.endEntry
      else if e.cfg.heavy = true ∧ s.conserve = true then w.on Segment.endEntry
      else if s.state = .locked then
        w.on fun s =>
          { (s.setEntry { e with step := .polling }) with
            xact := .ready, cycle := { s.cycle with attempt := 1, losses := 0 } }
      else if s.state = .stopping then w.on fun s => s.decideEntry e .aborted .none
      else w.on fun s => s.decideEntry e s.departEnding .none

/-! ## Capture (05) -/

/-- The data bytes of a capture slot (R95): the payload cut or padded to E. -/
def captureData (payload : List Byte) (e : Nat) : List Byte :=
  (payload.take e) ++ List.replicate (e - payload.length) 0

/-- Marks of the four data blocks, one bit each, from a test on data byte positions below n. -/
def blockMarks (n : Nat) (p : Nat → Bool) : Byte :=
  ([0, 1, 2, 3].filter fun b => (List.range 16).any fun j => decide (16 * b + j < n) && p (16 * b + j)).foldl
    (fun acc b => acc ||| BitVec.ofNat 8 (2 ^ b)) 0

/-- R96: the blocks that hold padding, bytes LEN to E − 1. -/
def padMarks (len e : Nat) : Byte := blockMarks e (fun i => decide (len ≤ i))

/-- R97: the damage marks of a DAMAGED reply. -/
def damageMarks (f : RxFrame) (e : Nat) : Byte :=
  let n := min (lenOf f.chars).toNat e
  let marked := fun i => f.marks.contains (6 + i)
  if f.good then 0
  else if (List.range n).any marked then blockMarks n marked
  else blockMarks n (fun _ => true)

/-- The flags byte of a capture slot: SHORT, LONG, DAMAGED (R94). -/
def captureFlags (f : RxFrame) (e : Nat) : Byte :=
  let len := (lenOf f.chars).toNat
  (if len < e then 1 else 0) ||| (if e < len then 2 else 0) ||| (if f.good then 0 else 4)

/-- The body of a capture slot, from byte 02H (R92, R94). -/
def captureBody (e : EntryUnit) (f : RxFrame) (cycle : Word) : List Byte :=
  let n := e.cfg.expLen.toNat
  [e.station, e.cfg.addr, e.cfg.expLen, lenOf f.chars, captureFlags f n, damageMarks f n, padMarks (lenOf f.chars).toNat n,
    Byte.ofBool (seqOf f.chars), BitVec.ofNat 8 e.used, 0] ++ wrWord cycle ++ captureData (payloadOf f.chars) n

def Segment.capSlot (s : Segment) : Word := slotAt s.blk.capBase 80 s.cap.next

/-- The frame an entry's buffer holds. -/
def Segment.entryFrame (s : Segment) (e : EntryUnit) : RxFrame :=
  match e.buf with
  | some b => s.frameIn b
  | none => ⟨[], false, []⟩

/-- The capture marker read has returned (R91 to R93). -/
def Work.capMarkerDone (w : Work) (e : EntryUnit) (d : List Byte) : Work :=
  if rdHalf d 0 = 0 then
    w.on fun s =>
      (s.setEntry { e with step := .capBody }).issueUnit
        { op := .capBody, addr := s.capSlot, len := 0,
          bytes := placeAt (s.capSlot.off 2) (captureBody e (s.entryFrame e) s.cycle.number) }
  else
    let w' := if w.seg.cap.full then w else w.raise .captureFull e.station e.cfg.addr 0 w.seg.capSlot
    w'.on fun s =>
      let s := { s.releaseOpt e.buf with cap := { s.cap with full := true } }
      s.writeStatus { e with buf := none, dropped := true } .replied

/-- The capture body is written: the buffer is released and the marker written (R92). -/
def Segment.capBodyDone (s : Segment) (e : EntryUnit) : Segment :=
  ((s.releaseOpt e.buf).setEntry { e with step := .capMark, buf := none }).issueUnit
    (.write .capMarkerWrite s.capSlot (wrHalf 1))

/-- The marker is written: the index advances and the latch clears (R92). -/
def Segment.capMarkDone (s : Segment) (e : EntryUnit) : Segment :=
  let s := { s with cap := { next := ringNext s.cap.next s.blk.capSlots.toNat, full := false } }
  s.writeStatus e .replied

/-- The status write has completed (R62, R63): the health notice of the change, then the entry ends. -/
def Work.statusDone (w : Work) (e : EntryUnit) : Work :=
  let o := e.outcome.getD .aborted
  let new := e.newStatus o w.seg.cycle.number
  let w :=
    if e.cfg.notifyHealth = true ∧ new.state = .lost ∧ e.st.state ≠ .lost then
      w.raise .stationLost e.station e.cfg.addr new.miss e.recAddr
    else if e.cfg.notifyHealth = true ∧ new.state = .active ∧ e.st.state = .lost then
      w.raise .stationBack e.station e.cfg.addr e.st.miss e.recAddr
    else w
  w.on Segment.endEntry

/-- An access of the entry in service has completed. -/
def Work.entryDone (w : Work) (e : EntryUnit) (op : Op) (d : List Byte) : Work :=
  match op with
  | .entryRead => w.entryReadDone e d
  | .stationRead => w.stationReadDone e d
  | .capMarkerRead => w.capMarkerDone e d
  | .capBody => w.on fun s => s.capBodyDone e
  | .capMarkerWrite => w.on fun s => s.capMarkDone e
  | .statusWrite => w.statusDone e
  | _ => w

/-! ## The answer to a poll (R54, R55, R73) -/

/-- R55: a REPLY taken as an answer is a duplicate. -/
def EntryUnit.duplicate (e : EntryUnit) (cs : List Byte) : Bool := e.cfg.expectSeq && e.st.lastSeq == some (seqOf cs)

/-- R73 for an awaited answer: none for a frame that was not GOOD or DAMAGED, or was dropped. -/
def EntryUnit.judge (e : EntryUnit) : Option RxFrame → Ending
  | none => .badReply
  | some f =>
    if srcOf f.chars ≠ e.cfg.addr then .badReply
    else
      match kindOf f.chars with
      | some .reply =>
        if f.good = false ∧ e.cfg.acceptDamaged = false then .badReply
        else if e.duplicate f.chars then .duplicate
        else .replied
      | some .nak => if f.good then .refused else .badReply
      | _ => .badReply

end Sys2Proof.Machine
end

