-- ==== Sys2Proof/Machine/Request.lean ====
section
/-! DEFINITION. A request in service: taking, checks, the action of each kind, completion, held groups (06), and the
chain reads that find records. BAD_LINK is answered to the caller as a link value (R106, R124). -/

namespace Sys2Proof.Machine

def Segment.setReq (s : Segment) (r : ReqUnit) : Segment := { s with unit := .request r }

/-! ## Completion (R112, R113) -/

/-- The reply that goes into the record, if one does (R115). -/
def Segment.replyOf (s : Segment) (r : ReqUnit) : Option RxFrame := r.buf.map s.frameIn

/-- The reply flags byte: DAMAGED, seq, HOLD_UNMET (11). -/
def replyFlags (reply : Option RxFrame) (holdUnmet : Bool) : Byte :=
  (match reply with
   | some f => (if f.good then 0 else 1) ||| (if seqOf f.chars then 2 else 0)
   | none => 0) ||| (if holdUnmet then 4 else 0)

/-- The bytes of the outcome write (R113, R156): reply bytes from 50H, 90H to 93H, 98H to 9FH. -/
def outcomeBytes (r : ReqUnit) (o : Ending) (reply : Option RxFrame) (cycle : Word) : List (Word × Byte) :=
  let payload := match reply with
    | some f => payloadOf f.chars
    | none => []
  let len := match reply with
    | some f => lenOf f.chars
    | none => 0
  placeAt (r.addr.off 0x50) payload
    ++ placeAt (r.addr.off 0x90) [o.code, BitVec.ofNat 8 r.used, len, replyFlags reply r.holdUnmet]
    ++ placeAt (r.addr.off 0x98) (wrWord cycle ++ wrWord r.result)

/-- The address a fault on the outcome write reports: its first byte. -/
def firstByte (bs : List (Word × Byte)) (dflt : Word) : Word :=
  match bs with
  | [] => dflt
  | (a, _) :: _ => a

/-- The successor read of a held group has not returned (R124). -/
def Succ.reading : Succ → Bool
  | .link | .state _ => true
  | .none | .fresh | .unmet => false

/-- R112 step 1, or the clear write of a STATION_CLEAR (R118): issued when the action is done and the successor read of
the group has returned (R124). -/
def Segment.tryComplete (s : Segment) (r : ReqUnit) : Segment :=
  if r.step = .serve ∧ r.succ.reading = false then
    match r.outcome with
    | some o =>
      let bs := outcomeBytes r o (s.replyOf r) s.cycle.number
      (s.setReq { r with step := .outcome, doneCycle := s.cycle.number }).issueUnit
        { op := .outcomeWrite, addr := firstByte bs r.addr, len := 0, bytes := bs }
    | none =>
      if r.body.kind = some .stationClear then
        (s.setReq { r with step := .clear }).issueUnit
          (.write .clearWrite (slotAt s.blk.stationTable 32 r.body.target.toNat |>.off 16)
            (Status.cleared.bytes 0xFF))
      else s.setReq r
  else s.setReq r

/-- The endings that break a held group (R126). -/
def Ending.breaks : Ending → Bool
  | .framingLost | .lineStall | .lineLost | .collision => true
  | _ => false

/-- A held group is broken (R126): only one whose condition is holding, so not while its first member is being taken
(log 18). -/
def ReqEngine.breakGroup (q : ReqEngine) : ReqEngine := if q.cond = .holding then { q with cond := .breaking } else q

/-- A member with HOLD is taken: the group is held, unless it is being broken (R124). -/
def ReqEngine.holdGroup (q : ReqEngine) : ReqEngine := if q.cond = .breaking then q else { q with cond := .holding }

/-- A successor that is not ready: a first member is served as a single request (R124). -/
def ReqEngine.groupOfOne (q : ReqEngine) : ReqEngine :=
  if q.cond = .holding ∧ q.count = 1 then { q with cond := .none } else q

/-- The outcome of the request is decided. -/
def Segment.decideReq (s : Segment) (r : ReqUnit) (o : Ending) : Segment :=
  let s := { s with xact := .idle, req := if o.breaks then s.req.breakGroup else s.req }
  s.tryComplete { r with outcome := some o }

/-! ## Service (R109, R110, R115 to R123) -/

/-- R149: the sweep of the SUPPLY_SWEEP in service begins, in LOCKED; one taken in ACQUIRING or STALLED waits for the
next LOCKED (log 40). -/
def Segment.beginSweep (s : Segment) : Segment := if s.working then { s with supply := s.supply.sweepStart } else s

/-- The action of a taken request, once it is current. -/
def Segment.serveReq (s : Segment) (r : ReqUnit) : Segment :=
  if r.broken then s.decideReq r .groupBroken
  else if s.state = .stopping then s.decideReq r .aborted
  else if r.body.bad s.blk then s.decideReq r .badRequest
  else if r.body.isLine = true ∧ r.body.heavy = true ∧ s.conserve = true then s.decideReq r .supplyWeak
  else
    match r.body.kind with
    | some .pollOnce | some .set | some .announce =>
      if s.state = .locked then { (s.setReq { r with attempt := 1 }) with xact := .ready }
      else s.decideReq r s.departEnding
    | some .stationClear => s.tryComplete r
    | some .cyclePause | some .cycleResume | some .mark => s.decideReq r .ok
    | some .conserve =>
      { s with supply := { s.supply with forced := decide (r.body.arg = 1) } }.decideReq r .ok
    | some .supplySweep => s.setReq r |>.beginSweep
    | none => s.decideReq r .badRequest

/-- R108, R124: the record is current. With HOLD and fewer than eight members its successor is read at once; the eighth
is treated as last and carries HOLD_UNMET. During STOPPING no member follows, and no successor is read (R37). -/
def Segment.becomeCurrent (s : Segment) (r : ReqUnit) : Segment :=
  let count := s.req.count + 1
  let s := { s with req := { s.req with current := some r.addr, cand := none, ready := false, count := count } }
  let r := { r with step := .serve }
  if r.body.hold then
    if Config.groupMax ≤ count then s.serveReq { r with holdUnmet := true }
    else if r.last then s.serveReq r
    else
      let s := { s with req := s.req.holdGroup }
      (s.issueUnit (.read .groupLink r.addr 4)).serveReq { r with succ := .link }
  else s.serveReq r

/-! ## Accesses of a request -/

/-- The take's read has returned (R108). -/
def Segment.takeDone (s : Segment) (r : ReqUnit) (d : List Byte) : Segment :=
  if rdByte d 0x0E = fresh then
    (s.setReq { r with step := .taken, body := parseReqRecord d }).issueUnit
      (.write .takenWrite (r.addr.off 0x0E) [taken])
  else s.dropTake r.addr

/-- The TAKEN write has completed: the link-seen mark of the anchor follows, if there is one (R108). -/
def Segment.takenDone (s : Segment) (r : ReqUnit) : Segment :=
  match s.req.anchor with
  | some a => (s.setReq { r with step := .linkSeen }).issueUnit (.write .linkSeen (a.off 0x94) [1])
  | none => s.becomeCurrent r

/-- The outcome write has completed: a reply's buffer is released (R21), and the final state is written (R112). -/
def Segment.outcomeDone (s : Segment) (r : ReqUnit) (o : Ending) : Segment :=
  ((s.releaseOpt r.buf).setReq { r with step := .state, buf := none }).issueUnit
    (.write .stateWrite (r.addr.off 0x0E) [o.finalState])

/-- R112 step 3 and 4: the final state is written. -/
def Work.stateDone (w : Work) (r : ReqUnit) : Work :=
  let o := r.outcome.getD .aborted
  let station := if r.body.kind = some .pollOnce ∨ r.body.kind = some .set then r.body.target else 0
  let w := w.on fun s => { s with req := { s.req with anchor := some r.addr, current := none } }
  let w :=
    if r.body.notify then
      { w with notices := w.notices ++
          [{ kind := .requestDone, seg := segByte w.k, station := 0xFF, addr := station, detail := o.code,
             cycle := r.doneCycle, ref := r.addr }] }
    else w
  w.on fun s =>
    let s :=
      if o = .ok then
        match r.body.kind with
        | some .cyclePause => s.pauseCycle
        | some .cycleResume => s.resumeCycle
        | _ => s
      else s
    if r.last = false ∧ r.succ = .fresh then s.startTake else s.endUnit

/-- The link of a group member has been read (R124); a misaligned link is a fault that the caller takes. -/
def Segment.groupLinkDone (s : Segment) (r : ReqUnit) (link : Word) : Segment :=
  if link = 0 then
    { s with req := s.req.groupOfOne }.tryComplete
      { r with succ := .unmet, holdUnmet := true }
  else (s.setReq { r with succ := .state link }).issueUnit (.read .groupState (link.off 0x0E) 1)

/-- The state of a group member's successor has been read (R124). -/
def Segment.groupStateDone (s : Segment) (r : ReqUnit) (state : Byte) : Segment :=
  match r.succ with
  | .state a =>
    if state = fresh then (s.candidate a).tryComplete { r with succ := .fresh }
    else
      { s with req := s.req.groupOfOne }.tryComplete
        { r with succ := .unmet, holdUnmet := true }
  | .none | .link | .fresh | .unmet => s

/-- An access of the request in service has completed; the link of a group is looked at before (R124). -/
def Work.reqDone (w : Work) (r : ReqUnit) (op : Op) (d : List Byte) : Work :=
  match op with
  | .takeRead => w.on fun s => s.takeDone r d
  | .takenWrite => w.on fun s => s.takenDone r
  | .linkSeen => w.on fun s => s.becomeCurrent r
  | .clearWrite => w.on fun s => s.tryComplete { r with step := .serve, outcome := some .ok }
  | .outcomeWrite => w.on fun s => s.outcomeDone r (r.outcome.getD .aborted)
  | .stateWrite => w.stateDone r
  | .groupLink => w.on fun s => s.groupLinkDone r (rdWord d 0)
  | .groupState => w.on fun s => s.groupStateDone r (rdByte d 0)
  | _ => w

/-! ## Chain reads (R105, R106) -/

/-- The state of the chain head has been read (R105). -/
def Segment.headDone (s : Segment) (state : Byte) : Segment :=
  let s := { s with req := { s.req with chain := .idle, examined := true } }
  if state = fresh then s.candidate s.blk.chainHead
  else { s with req := { s.req with anchor := some s.blk.chainHead } }.chainRequest

/-- The anchor's link has been read and is 0 or aligned (R106). -/
def Segment.chainLinkDone (s : Segment) (link : Word) : Segment :=
  if link = 0 then s.chainEnd
  else
    { s with req := { s.req with chain := .state link },
             waits := { s.waits with chain := some (.read .chainState (link.off 0x0E) 1) } }

/-- The state of the anchor's successor has been read (R106). -/
def Segment.chainStateDone (s : Segment) (state : Byte) : Segment :=
  match s.req.chain with
  | .state a => if state = fresh then (s.candidate a).chainEnd else s.chainEnd
  | .idle | .exam | .link => s

/-- A read of the chain read source has completed. -/
def Segment.chainDone (s : Segment) (op : Op) (d : List Byte) : Segment :=
  match op with
  | .headState => s.headDone (rdByte d 0)
  | .chainLink => s.chainLinkDone (rdWord d 0)
  | .chainState => s.chainStateDone (rdByte d 0)
  | _ => s

/-- A link read that is not a multiple of 16 (R106, R124). -/
def badLink (op : Op) (d : List Byte) : Bool :=
  (op == .chainLink || op == .groupLink) && !aligned16 (rdWord d 0)

/-! ## The answer to a request (R115, R116) -/

/-- R115, R116 for an awaited answer: none for a frame that was not GOOD or DAMAGED, or was dropped. -/
def ReqUnit.judge (r : ReqUnit) : Option RxFrame → Ending
  | none => .badReply
  | some f =>
    if srcOf f.chars ≠ r.body.target then .badReply
    else
      match kindOf f.chars with
      | some .reply => if r.body.kind = some .pollOnce ∧ f.good = true then .ok else .badReply
      | some .ack => if r.body.kind = some .set ∧ f.good = true then .ok else .badReply
      | some .nak => if f.good then .refused else .badReply
      | _ => .badReply

/-- R115: the REPLY is written into the record: a GOOD one that ends the request OK, or a DAMAGED one from the target
on the last attempt. -/
def ReqUnit.keeps (r : ReqUnit) (f : RxFrame) : Bool :=
  r.body.kind == some .pollOnce && kindOf f.chars == some .reply && srcOf f.chars == r.body.target
    && (f.good || decide (r.body.limit.toNat ≤ r.attempt))

end Sys2Proof.Machine
end

