-- ==== Sys2Proof/Machine/Responder.lean ====
section
/-! DEFINITION. The responder of a segment unit (07): the pending answer, the frames in hand, the inbound ring. -/

namespace Sys2Proof.Machine

/-! ## Frames in hand -/

/-- The frame waits for its answer to be sent or abandoned. -/
def Stage.answering? : Stage → Bool
  | .answering | .refused | .wantRead | .reading | .cleared => true
  | .queued | .markerDue | .markerOut | .bodyDue | .bodyOut | .markDue | .markOut => false

/-- The frame's filing is in progress: it has had its turn (R134). -/
def Stage.filing : Stage → Bool
  | .reading | .cleared | .markerDue | .markerOut | .bodyDue | .bodyOut | .markDue | .markOut => true
  | .answering | .refused | .wantRead | .queued => false

/-- Change the first hand that satisfies p. -/
def updFirst (p : Hand → Bool) (f : Hand → Hand) : List Hand → List Hand
  | [] => []
  | h :: t => if p h then f h :: t else h :: updFirst p f t

/-- Remove the first hand that satisfies p. -/
def dropFirst (p : Hand → Bool) : List Hand → List Hand
  | [] => []
  | h :: t => if p h then t else h :: dropFirst p t

def Hand.atStage (st : Stage) (h : Hand) : Bool := h.stage == st

/-- The hand of a pending answer whose frame is in buffer b. -/
def Hand.owes (b : Buf) (h : Hand) : Bool := h.buf == b && h.stage.answering?

def Segment.setHands (s : Segment) (hs : List Hand) : Segment := { s with resp := { s.resp with hands := hs } }

def Segment.setPend (s : Segment) (p : Option Pend) : Segment := { s with resp := { s.resp with pend := p } }

def Segment.stageFirst (s : Segment) (p : Hand → Bool) (st : Stage) : Segment :=
  s.setHands (updFirst p (fun h => { h with stage := st }) s.resp.hands)

/-- The inbound slot at the inbound next index (R134). -/
def Segment.inbSlot (s : Segment) : Word := slotAt s.blk.inbBase 80 s.resp.next

/-! ## Issuing accesses -/

/-- The next access of the filing in progress falls due (R152). -/
def Segment.fileDue (s : Segment) : Segment := { s with resp := { s.resp with due := s.resp.due ++ [.filing] } }

/-- The filing turn (R134): with no filing in progress, a SET or NOTICE waiting for its answer goes first. -/
def Segment.filingTurn (s : Segment) : Segment :=
  if s.resp.hands.any (fun h => h.stage.filing) then s
  else if s.resp.hands.any (Hand.atStage .wantRead) then
    let s' := s.stageFirst (Hand.atStage .wantRead) .reading
    match s'.resp.pend with
    | some p => s'.setPend (some { p with read := .owed })
    | none => s'
  else if s.resp.hands.any (Hand.atStage .queued) then (s.stageFirst (Hand.atStage .queued) .markerDue).fileDue
  else s

/-- The bytes 02H onward of an inbound slot (R135): the header without the marker, and the payload. -/
def Segment.inbBody (s : Segment) (h : Hand) : List Byte :=
  let cs := (s.frameIn h.buf).chars
  [h.kind.code, srcOf cs, destOf cs, ctrlOf cs, lenOf cs, h.given.code, 0, 0, 0, 0] ++ wrWord h.cycle ++ payloadOf cs

/-- The write of a write-back (R132): polls answered at 04H, and armed at 00H for a one-shot record. -/
def WriteBack.access (wb : WriteBack) : Access :=
  { op := .writeBack, addr := wb.addr, len := 0,
    bytes := (if wb.disarm then [(wb.addr, (0 : Byte))] else []) ++ placeAt (wb.addr.off 4) (wrWord wb.count) }

/-- The access of the filing in progress that is due is issued (R134). -/
def Segment.issueFiling (s : Segment) : Segment :=
  match s.resp.hands.find? (fun h => h.stage == .markerDue || h.stage == .bodyDue || h.stage == .markDue) with
  | none => s
  | some h =>
    match h.stage with
    | .markerDue => (s.issueResp (.read .inbMarkerRead s.inbSlot 2)).stageFirst (Hand.atStage .markerDue) .markerOut
    | .bodyDue =>
      (s.issueResp (.write .inbBody (s.inbSlot.off 2) (s.inbBody h))).stageFirst (Hand.atStage .bodyDue) .bodyOut
    | .markDue => (s.issueResp (.write .inbMarkerWrite s.inbSlot (wrHalf 1))).stageFirst (Hand.atStage .markDue) .markOut
    | _ => s

/-- The first access of the normal source that is due is issued (R152). -/
def Segment.issueDue (s : Segment) : Segment :=
  match s.resp.due with
  | [] => s
  | .writeBack wb :: rest => { s.issueResp wb.access with resp := { s.resp with due := rest } }
  | .filing :: rest => { s with resp := { s.resp with due := rest } }.issueFiling

/-- The normal source issues its accesses one at a time, in the order they fell due (R152). -/
def Work.respNormal (w : Work) : Work :=
  if w.seg.waits.responder.isSome ∨ w.busSource = some .responder then w else w.on Segment.issueDue

/-- The urgent read of the pending answer is issued when its source is free (R131, R133, log 26). -/
def Work.respUrgent (w : Work) : Work :=
  match w.seg.resp.pend with
  | some p =>
    if p.read = .owed ∧ w.seg.waits.urgent = none ∧ w.busSource ≠ some .urgent then
      w.on fun s =>
        (s.issueUrgent
          (if p.kind = .poll then .read .respRecord (slotAt s.blk.respTable 80 p.k) 80
           else .read .inbMarkerUrgent s.inbSlot 2)).setPend (some { p with read := .live })
    else w
  | none => w

/-- Everything the responder has due. -/
def Work.respDue (w : Work) : Work := (w.on Segment.filingTurn).respNormal.respUrgent

/-! ## The pending answer -/

/-- The frame of a decided answer (R5, R129). -/
def Pend.frame (p : Pend) : Tx :=
  match p.ans with
  | .reply r => ⟨buildFrame p.src p.own (ctrlByte .reply r.seq false) r.data, .reply, true⟩
  | .ack => ⟨buildFrame p.src p.own (ctrlByte .ack false false) [], .ack, true⟩
  | .nak | .undecided => ⟨buildFrame p.src p.own (ctrlByte .nak false false) [], .nak, true⟩

/-- What an inbound entry says of the answer to a POLL (R137). -/
def Ans.given (a : Ans) (sent : Bool) : Given :=
  if sent then (match a with
    | .reply _ => .reply
    | .ack => .ack
    | .nak | .undecided => .nak)
  else .none

/-- The write-back that a REPLY sent in full makes due (R132). -/
def Ans.writeBack (a : Ans) (sent : Bool) : List NormalDue :=
  match a with
  | .reply r => if sent then [.writeBack { addr := r.addr, count := r.count + 1, disarm := r.oneShot }] else []
  | .undecided | .ack | .nak => []

/-- The work of a frame whose answer has been sent in full or abandoned (R130, R132, R133, R137): a POLL is filed under
LOG_POLLS, a SET or NOTICE is filed after its ACK, and any other buffer is released. -/
def Segment.answerOver (s : Segment) (sent : Bool) : Segment :=
  match s.resp.pend with
  | none => s
  | some p =>
    let s1 : Segment :=
      { s with resp := { s.resp with pend := none, due := s.resp.due ++ p.ans.writeBack sent } }
    match p.buf with
    | none => s1
    | some b =>
      match s.resp.hands.find? (Hand.owes b) with
      | none => s1
      | some h =>
        if h.stage = .answering ∧ s.blk.logPolls = true ∧ s.blk.inbSlots ≠ 0 then
          s1.setHands (updFirst (Hand.owes b) (fun h => { h with stage := .queued, given := p.ans.given sent })
            s.resp.hands)
        else if h.stage = .cleared ∧ sent = true then
          (s1.setHands (updFirst (Hand.owes b) (fun h => { h with stage := .bodyDue, given := .ack })
            s.resp.hands)).fileDue
        else (s1.setHands (dropFirst (Hand.owes b) s.resp.hands)).release b

/-- An owed answer that has not begun is abandoned (R130). -/
def Segment.abandonAnswer (s : Segment) : Segment :=
  match s.resp.pend with
  | some p => if p.begun then s else s.answerOver false
  | none => s

/-! ## The inbound ring -/

/-- A frame in hand is dropped for a full ring: counted, its buffer released, the latch set (R136). -/
def Segment.dropHand (s : Segment) (p : Hand → Bool) (b : Buf) : Segment :=
  let s := ((s.countInbDrop).setHands (dropFirst p s.resp.hands)).release b
  { s with resp := { s.resp with full := true } }

/-- R136: a marker read that returned set drops the frame of a hand; INBOUND_FULL is raised at the first drop of a full
episode. -/
def Work.inbFull (w : Work) (p : Hand → Bool) : Work :=
  match w.seg.resp.hands.find? p with
  | none => w
  | some h =>
    let src := srcOf (w.seg.frameIn h.buf).chars
    let w' := w.on fun s => s.dropHand p h.buf
    if w.seg.resp.full then w' else w'.raise .inboundFull 0xFF src h.kind.code w.seg.inbSlot

/-- The result of the urgent read on the bus is still wanted: its answer is pending and undecided (R130, R131, R133). -/
def Segment.urgentLive (s : Segment) : Bool :=
  match s.resp.pend with
  | some p => p.read == .live && p.ans == .undecided
  | none => false

/-- The urgent read of the pending answer has returned (R131, R133); a stale read is discarded. A set marker drops the
frame and frees its buffer at once, not at the end of the NAK (log 23). -/
def Work.urgentDone (w : Work) (acc : Access) (d : List Byte) : Work :=
  match w.seg.resp.pend with
  | none => w
  | some p =>
    if p.read = .live ∧ p.ans = .undecided then
      if p.kind = .poll then
        let ans := match parseResp acc.addr d with
          | some r => Ans.reply r
          | none => .nak
        w.on fun s => s.setPend (some { p with read := .none, ans := ans })
      else if rdHalf d 0 = 0 then
        w.on fun s =>
          (s.stageFirst (Hand.atStage .reading) .cleared).setPend (some { p with read := .none, ans := .ack })
      else
        (w.inbFull (Hand.atStage .reading)).on fun s => s.setPend (some { p with read := .none, ans := .nak, buf := none })
    else w

/-- R131, R133: at the deadline an undecided answer becomes NAK; a SET or NOTICE then counts an inbound drop, and its filing
ends here, so that the next one may begin (log 41). -/
def Segment.deadline (s : Segment) : Segment :=
  match s.resp.pend with
  | some p =>
    if p.ans = .undecided then
      let s' := s.setPend (some { p with ans := .nak, read := .none })
      if p.kind = .poll then s'
      else s'.countInbDrop.stageFirst (fun h => h.stage == .wantRead || h.stage == .reading) .refused
    else s
  | none => s

/-- A normal access of the responder has completed (R134). -/
def Work.respDone (w : Work) (acc : Access) (d : List Byte) : Work :=
  match acc.op with
  | .inbMarkerRead =>
    if rdHalf d 0 = 0 then w.on fun s => (s.stageFirst (Hand.atStage .markerOut) .bodyDue).fileDue
    else w.inbFull (Hand.atStage .markerOut)
  | .inbBody =>
    match w.seg.resp.hands.find? (Hand.atStage .bodyOut) with
    | some h => w.on fun s => ((s.stageFirst (Hand.atStage .bodyOut) .markDue).release h.buf).fileDue
    | none => w
  | .inbMarkerWrite =>
    w.on fun s =>
      let s := s.setHands (dropFirst (Hand.atStage .markOut) s.resp.hands)
      { s with resp := { s.resp with next := ringNext s.resp.next s.blk.inbSlots.toNat, full := false } }
  | _ => w

/-! ## Frames taken by the responder (R22, R129, R138, R139) -/

/-- A POLL addressed to the part and stored in buffer b (R131). -/
def Segment.takePoll (s : Segment) (k : Nat) (f : RxFrame) (b : Buf) : Segment :=
  let s := s.abandonAnswer
  let p : Pend :=
    { k := k, own := destOf f.chars, src := srcOf f.chars, kind := .poll,
      ans := if s.blk.respTable = 0 then .nak else .undecided,
      read := if s.blk.respTable = 0 then .none else .owed,
      turn := false, begun := false, buf := some b }
  let h : Hand := { buf := b, kind := .pollSeen, given := .none, cycle := s.cycle.number, stage := .answering }
  (s.setPend (some p)).setHands (s.resp.hands ++ [h])

/-- A SET or NOTICE addressed to the part and stored in buffer b (R133). -/
def Segment.takeSet (s : Segment) (k : Nat) (kind : FrameKind) (f : RxFrame) (b : Buf) : Segment :=
  let s := s.abandonAnswer
  let p : Pend :=
    { k := k, own := destOf f.chars, src := srcOf f.chars, kind := kind,
      ans := if s.blk.inbSlots = 0 then .nak else .undecided,
      read := .none, turn := false, begun := false, buf := some b }
  let h : Hand :=
    { buf := b, kind := if kind = .set then .set else .notice, given := .none, cycle := s.cycle.number,
      stage := if s.blk.inbSlots = 0 then .refused else .wantRead }
  (s.setPend (some p)).setHands (s.resp.hands ++ [h])

/-- The header alone of a SET or NOTICE dropped for want of a buffer is answered NAK (R139). -/
def Segment.takeHeader (s : Segment) (k : Nat) (kind : FrameKind) (f : RxFrame) : Segment :=
  let s := s.abandonAnswer
  let p : Pend :=
    { k := k, own := destOf f.chars, src := srcOf f.chars, kind := kind, ans := .nak, read := .none, turn := false,
      begun := false, buf := none }
  s.setPend (some p)

/-- A frame handed over for filing alone (R138); with inbound slot count 0 its buffer is released at once. -/
def Segment.takeFiling (s : Segment) (kind : EntryKind) (f : RxFrame) (b : Buf) : Segment :=
  if s.blk.inbSlots = 0 then s
  else
    let s := { s with line := s.line.store b f }
    s.setHands (s.resp.hands ++ [{ buf := b, kind := kind, given := .none, cycle := s.cycle.number, stage := .queued }])

end Sys2Proof.Machine
end

