-- ==== Sys2Proof/Machine/Line.lean ====
section
/-! DEFINITION. The transmitter and the transaction machine (R13 to R17, R72 to R75, R111, R125): which frame begins, how
an attempt ends. -/

namespace Sys2Proof.Machine

/-! ## Frames the part sends (R5) -/

/-- The frame of the transaction in service: the POLL of an entry (R72), or the frame of a request (R111). -/
def Segment.workFrame (s : Segment) : Option Tx :=
  match s.unit with
  | .entry e =>
    some ⟨buildFrame e.cfg.addr s.blk.own0 (ctrlByte .poll false (e.st.lastSeq == some true))
            (e.cfg.payload.take e.cfg.payLen.toNat), .poll, false⟩
  | .request r =>
    let payload := r.body.payload.take r.body.payLen.toNat
    match r.body.kind with
    | some .pollOnce => some ⟨buildFrame r.body.target s.blk.own0 (ctrlByte .poll false (r.body.ackBit == 1)) payload, .poll, false⟩
    | some .set => some ⟨buildFrame r.body.target s.blk.own0 (ctrlByte .set false false) payload, .set, false⟩
    | some .announce => some ⟨buildFrame 0 s.blk.own0 (ctrlByte .announce false false) payload, .announce, false⟩
    | _ => none
  | .none => none

/-! ## Beginning a frame (R13, R125, R130) -/

/-- The frame of a held group after its first, while the group holds the line: it begins at the hold gap (R14, R125). -/
def ReqEngine.holdFrame (q : ReqEngine) : Bool :=
  q.sent && q.lineHeld && (decide (2 ≤ q.count) || q.cond == .holding)

def WorkUnit.isRequest : WorkUnit → Bool
  | .request _ => true
  | .none | .entry _ => false

/-- The frame of the transaction may begin now: at the hold gap for a group that holds the line, and when the tracker is
FREE for a work frame. -/
def Segment.workMayBegin (s : Segment) : Bool :=
  if s.unit.isRequest && s.req.holdFrame then s.req.gap == .reached else s.line.tracker == .free

/-- The owed answer may begin: it is decided, its turnaround is reached and it has not begun (R130). -/
def Pend.due (p : Pend) : Bool := p.turn && !p.begun && p.ans != .undecided

/-- A frame begins on the line: the tracker is BUSY and idle has ended (R12). -/
def Segment.drive (s : Segment) (t : Tx) : Segment :=
  { s with line := { s.line with tx := some t, tracker := .busy, idle := false } }

/-- The owed answer begins. -/
def Segment.beginAnswer (s : Segment) : Segment :=
  match s.resp.pend with
  | some p => if p.due then (s.drive p.frame).setPend (some { p with begun := true }) else s
  | none => s

/-- The frame of the transaction begins. -/
def Segment.beginWork (s : Segment) : Segment :=
  match s.workFrame with
  | some t =>
    let s := { s.drive t with xact := .sending }
    if s.unit.isRequest then { s with req := { s.req with sent := true, gap := .none } } else s
  | none => s

/-- What the transmitter begins: only in LOCKED, one frame at a time, an owed answer ahead of a work frame (R13, R140). -/
def Segment.tryBegin (s : Segment) : Segment :=
  if s.working = true ∧ s.line.tx = none then
    let s := s.beginAnswer
    if s.line.tx = none ∧ s.xact = .ready ∧ s.workMayBegin = true then s.beginWork else s
  else s

/-! ## The end of an attempt -/

/-- The outcome of the unit whose line work is in service is decided; p is how a poll entry's pause starts (R77). An
attempt that a departure or a stop ended has none of the results of R73 and R111 and is not counted as used (log 36). -/
def Segment.finishUnit (s : Segment) (o : Ending) (p : Pause) : Segment :=
  match s.unit with
  | .entry e => s.decideEntry e o p
  | .request r => s.decideReq r o
  | .none => { s with xact := .idle }

/-- An attempt ended with a result that ends the entry or the request (R74, R111). -/
def Segment.attemptEnds (s : Segment) (o : Ending) (p : Pause) : Segment :=
  match s.unit with
  | .entry e => s.decideEntry { e with used := e.used + 1 } o p
  | .request r => s.decideReq { r with used := r.used + 1 } o
  | .none => { s with xact := .idle }

/-- An attempt failed with o: the next attempt is made ready, or the unit ends with o (R74, R111). -/
def Segment.attemptFails (s : Segment) (o : Ending) (p : Pause) : Segment :=
  match s.unit with
  | .entry e =>
    if s.cycle.attempt < e.cfg.retry.toNat + 1 then
      { (s.setEntry { e with used := e.used + 1 }) with
        xact := .ready, cycle := { s.cycle with attempt := s.cycle.attempt + 1 } }
    else s.attemptEnds o p
  | .request r =>
    if r.attempt < r.body.limit.toNat then
      { (s.setReq { r with used := r.used + 1, attempt := r.attempt + 1 }) with xact := .ready }
    else s.attemptEnds o p
  | .none => { s with xact := .idle }

/-- The end of an exchange of a request: the hold gap is measured from here (R14). -/
def Segment.exchangeOver (s : Segment) : Segment :=
  if s.unit.isRequest then { s with req := { s.req with gap := .measuring } } else s

/-! ## The awaited answer (R15, R73, R115, R116) -/

/-- A frame to be stored finds no free buffer: it is dropped and counted (R21). -/
def Segment.dropFrame (s : Segment) : Segment := s.countInbDrop

/-- The reply that goes into the record keeps its buffer (R115). -/
def Segment.keepReply (s : Segment) (r : ReqUnit) (f : Option RxFrame) (b : Option Buf) : Segment :=
  match f, b with
  | some fr, some b =>
    if r.keeps fr then { s with line := s.line.store b fr }.setReq { r with buf := some b } else s
  | _, _ => s

/-- The awaited answer has been reported: judged, and its buffer kept while the capture or the record needs it. f is
none for a class other than GOOD and DAMAGED. -/
def Segment.answerReported (s : Segment) (f : Option RxFrame) : Segment :=
  let b := s.line.freeBuf
  let lost := f.isSome && b.isNone
  let s := if lost then s.dropFrame else s
  let f := if lost then none else f
  let s := s.exchangeOver
  match s.unit with
  | .entry e =>
    let o := e.judge f
    match o, f, b with
    | .replied, some fr, some b =>
      ({ s with line := s.line.store b fr }.setEntry { e with buf := some b, seq := seqOf fr.chars }).attemptEnds o .running
    | .duplicate, _, _ => s.attemptEnds o .running
    | .refused, _, _ => s.attemptEnds o .running
    | _, _, _ => s.attemptFails o .running
  | .request r =>
    let o := r.judge f
    let s := s.keepReply r f b
    if o = .ok ∨ o = .refused then s.attemptEnds o .running else s.attemptFails o .running
  | .none => { s with xact := .idle }

/-- W expired with no reply start (R15): the attempt ends NO_REPLY, and the exchange of a group ends here (R14). -/
def Segment.noReply (s : Segment) : Segment :=
  if s.xact = .waiting then s.exchangeOver.attemptFails .noReply .running else s

/-! ## Cut frames (R16, R17, R75, R111) -/

/-- The losses of the entry or request in service (R75, R111). -/
def Segment.countLoss (s : Segment) : Segment :=
  match s.unit with
  | .entry _ => { s with cycle := { s.cycle with losses := s.cycle.losses + 1 } }
  | .request _ => { s with req := { s.req with losses := s.req.losses + 1, lineHeld := false } }
  | .none => s

def Segment.lossCount (s : Segment) : Nat :=
  match s.unit with
  | .entry _ => s.cycle.losses
  | .request _ => s.req.losses
  | .none => 0

/-- The part leaves the line at character position pos of the frame it sends, and receives the rest (R16, R17). After a
mismatch in a start bit (start) no character follows, and idle is measured from the part's last one (R3, R11, log 33). -/
def Segment.leaveLine (s : Segment) (t : Tx) (pos : Nat) (start : Bool) : Segment :=
  { s with line := { s.line with tx := none, asm := some (assembleOwn t.chars pos), idle := s.line.idle || start } }

/-- A work frame lost arbitration: it is pending again, or the unit ends LINE_LOST after the winner's frame and an
answer owed to it (R16, R75, R141, log 16). A frame driven to the end of a unit already ended counts its loss too, and
no attempt (log 36). -/
def Segment.workLost (s : Segment) : Segment :=
  match s.xact with
  | .sending =>
    let s := s.countLoss
    if s.blk.arbLimit.toNat < s.lossCount then { s with xact := .lostReport } else { s with xact := .ready }
  | .ending o => s.countLoss.finishUnit o .none
  | .idle | .ready | .waiting | .started | .lostReport | .lostAnswer => s

/-- A work frame met a collision: the attempt fails (R17). The gap of a group, and the pause of an entry, run from the
report of the frame that follows (R77, log 17). For a unit already ended no further attempt is counted (log 36). -/
def Segment.workCollided (s : Segment) : Segment :=
  match s.xact with
  | .sending =>
    let s := if s.unit.isRequest then { s with req := { s.req with gap := .afterReport } } else s
    s.attemptFails .collision .awaiting
  | .ending o => s.finishUnit o .none
  | .idle | .ready | .waiting | .started | .lostReport | .lostAnswer => s

/-- A work frame reached its end: an ANNOUNCE is done, a POLL or SET awaits its answer (R15, R111, R117). -/
def Segment.workSent (s : Segment) (t : Tx) : Segment :=
  match s.xact with
  | .sending =>
    if t.kind = .announce then s.exchangeOver.attemptEnds .ok .none else { s with xact := .waiting }
  | .ending o => s.finishUnit o .none
  | .idle | .ready | .waiting | .started | .lostReport | .lostAnswer => s

/-- The pause-after of an entry that ends LINE_LOST starts: at the report of the last winner's frame, and again at the end
of the owed answer sent after it (R77). -/
def Segment.lostPause (s : Segment) : Segment :=
  match s.unit with
  | .entry _ => if s.xact = .lostAnswer then { s with cycle := { s.cycle with pause := .running } } else s
  | .none | .request _ => s

/-- LINE_LOST is written once the owed answer has ended or been abandoned (R75, R141); the pause-after runs on (R77). -/
def Segment.lostDue (s : Segment) : Segment :=
  if s.xact = .lostAnswer ∧ s.resp.pend = none then s.finishUnit .lineLost s.cycle.pause else s

/-! ## Hand-over (R21, R22, R23) -/

/-- Whether the responder takes the frame for filing alone, and as what (R22, R138). -/
def Segment.filingKind (s : Segment) (cs : List Byte) (kind : FrameKind) : Option EntryKind :=
  if destOf cs = 0 then
    match kind with
    | .announce => if s.blk.acceptBroadcast then some .announce else none
    | .reply | .ack | .nak => if s.blk.monitor then some .monitored else none
    | .poll | .set | .notice => none
  else if s.blk.monitor then some .monitored
  else none

/-- A stray (R23). -/
def Segment.countStray (s : Segment) : Segment :=
  { s with counters := { s.counters with strays := s.counters.strays + 1 } }

/-- A GOOD frame that is not the awaited answer: to the responder, the stray count, the inbound ring, or nobody. -/
def Segment.handGood (s : Segment) (f : RxFrame) (kind : FrameKind) : Segment :=
  match s.blk.ownIndex (destOf f.chars) with
  | some k =>
    match kind with
    | .poll =>
      match s.line.freeBuf with
      | some b => { s with line := s.line.store b f }.takePoll k f b
      | none => s.dropFrame
    | .set | .notice =>
      match s.line.freeBuf with
      | some b => { s with line := s.line.store b f }.takeSet k kind f b
      | none => s.dropFrame.takeHeader k kind f
    | .reply | .ack | .nak => s.countStray
    | .announce => s
  | none =>
    if destOf f.chars = 0 ∧ kind.reserves = true then s.countStray
    else
      match s.filingKind f.chars kind with
      | some ek =>
        match s.line.freeBuf with
        | some b => s.takeFiling ek f b
        | none => s.dropFrame
      | none => s

/-- R22: the taker of a frame reported in LOCKED. The awaited answer goes to the transaction machine, whatever it is. -/
def Segment.handOver (s : Segment) (c : Class) (f : RxFrame) : Segment :=
  let whole := c = .good ∨ c = .damaged
  if s.xact = .started then s.answerReported (if whole then some f else none)
  else if c = .good then
    match kindOf f.chars with
    | some kind => s.handGood f kind
    | none => s
  else s

end Sys2Proof.Machine
end

