-- ==== Sys2Proof/Machine/Control.lean ====
section
/-! DEFINITION. The segment controller (02): start, lock, departure from LOCKED, stopping, faults, and the epilogue that
lets a segment unit do whatever an event has made due. -/

namespace Sys2Proof.Machine

/-! ## Entry to STOPPED and FAULTED -/

/-- Line interface values at the entry to STOPPED and to FAULTED (01, the closing table). -/
def Line.off : Line := Line.reset

/-- Request engine values after a stop or fault (R104). -/
def ReqEngine.afterStop (q : ReqEngine) : ReqEngine :=
  { q with cand := none, ready := false, current := none, chain := .idle, more := false, scanTimer := .stopped, count := 0,
           cond := .none, losses := 0, lineHeld := true, sent := false, gap := .none }

/-- Supply monitor values after a stop or fault (R144): the sweep is over and the timer stopped. -/
def Segment.supplyOff (s : Segment) : Segment :=
  let s := s.sweepOff
  { s with supply := { s.supply with timer := .stopped, deferred := false } }

/-- What stops at a fault and at the entry to STOPPED: timers, unit, answers, filings (R40, R68, R104, R128, R144). -/
def Segment.workOff (s : Segment) : Segment :=
  let s := s.supplyOff
  { s with
    cycle := { s.cycle with timer := .stopped, attempt := 0, pause := .none, held := false },
    req := s.req.afterStop, unit := .none, xact := .idle,
    resp := { s.resp with pend := none, hands := [], due := [] } }

/-- Entry to STOPPED (R38, R41): SEG_STOP is set. The values of the run are kept. -/
def Work.enterStopped (w : Work) : Work :=
  { w.on (fun s => { s.workOff with
      state := .stopped, line := .off, waits := .empty, stopWrite := false, stopOwed := false, faultOwed := none,
      faultHeld := none, prWait := [], prBus := [], prFault := false, prEnded := none }) with segStop := true }

/-- The segment's progress record write waits or is on the bus. -/
def Work.progressPending (w : Work) : Bool := w.seg.waits.control.isSome || w.seg.faultOwed.isSome

/-- R41: a FAULTED segment moves to STOPPED, once its fault's record write has ended and SEGMENT_FAULT is raised or
withheld. -/
def Work.faultedToStopped (w : Work) : Work :=
  if w.progressPending then w.on fun s => { s with stopOwed := true } else w.enterStopped

/-- Entry to FAULTED from a state other than STOPPED (R40): one progress record write, and SEGMENT_FAULT at its end.
During a device-wide stop the segment then moves on to STOPPED (R45). -/
def Work.enterFaulted (w : Work) (ref : Word) : Work :=
  w.on fun s =>
    { { s with state := .faulted, line := .off, faultHeld := none, faultOwed := some ref, stopWrite := false,
               stopOwed := s.stopOwed || w.wide }.reqProgress [] with prFault := false }

/-- The notice of a segment fault (R40, R177). -/
def Work.raiseFault (w : Work) (ref : Word) : Work :=
  if w.mute then w else w.raiseSeg .segmentFault (BitVec.ofNat 8 w.seg.fault.code) ref

/-- R40: a fault of a segment that runs or is STOPPING. Waiting accesses but the progress record write are withdrawn, the
result of the access on the bus is discarded, work stops where it is, and the segment enters FAULTED when a frame it
drives has ended. A record write that already waits may be granted before that entry, which requests one of its own
(R43, R158: the model's choice, log 46). A second fault changes nothing. -/
def Work.takeFault (w : Work) (code : FaultCode) (ref : Word) : Work :=
  if w.seg.live then
    let w := (w.discard (fun op => op != .progress)).on fun s =>
      { s.workOff with
        fault := code, stopWrite := false,
        waits := { Waits.empty with control := s.waits.control } }
    if w.seg.line.tx.isSome then w.on fun s => { s with faultHeld := some ref } else w.enterFaulted ref
  else w

/-- The frame of a segment that has taken a fault has ended: it enters FAULTED (R40). -/
def Work.heldFault (w : Work) : Work :=
  match w.seg.faultHeld with
  | some ref => if w.seg.line.tx.isNone then w.enterFaulted ref else w
  | none => w

/-! ## Start (R25 to R27) -/

/-- R26: a start that faults enters FAULTED with no progress record and raises SEGMENT_FAULT at once. -/
def Work.startFault (w : Work) (code : FaultCode) (check : Byte) (ref : Word) : Work :=
  let w := w.on fun s => { s with state := .faulted, starting := false, fault := code }
  w.raise .segmentFault check 0 (BitVec.ofNat 8 code.code) ref

/-- R26: a start begins; with pointer 0 it ends at once with BAD_BLOCK, check 0. -/
def Work.beginStart (w : Work) : Work :=
  if w.seg.blockPtr = 0 then w.startFault .badBlock 0 0
  else
    w.on fun s =>
      { s with starting := true, waits := { s.waits with control := some (.read .segBlock s.blockPtr 128) } }

/-- R25, R159: a start in progress is cancelled: the read is withdrawn, or its result discarded. -/
def Work.cancelStart (w : Work) : Work :=
  (w.discard (fun op => op == .segBlock)).on fun s =>
    { s with starting := false, waits := { s.waits with control := none } }

/-- R27: the values of a segment unit at its entry to SETTLING with block b. -/
def Segment.started (s : Segment) (b : SegBlock) : Segment :=
  { Segment.reset with
    blockPtr := s.blockPtr, scanInterval := s.scanInterval, run := some b, state := .settling,
    line := { Line.reset with idle := true },
    supply := { Supply.reset with lowCmp := b.lowStep.toNat, weakCmp := b.weakStep.toNat } }

/-- R26: the segment block has been read. -/
def Work.segBlockDone (w : Work) (d : List Byte) : Work :=
  let b := parseSegBlock d
  match segCheck w.low w.high b with
  | some n => w.startFault .badBlock (BitVec.ofNat 8 n) w.seg.blockPtr
  | none => w.on fun s => (s.started b).reqProgress []

/-! ## LOCKED and its departure (R29 to R35) -/

/-- R69, R85: a begin that a CYCLE_RESUME left held is made at the entry to LOCKED though members of its group are still
served. -/
def Segment.beginHeld (s : Segment) : Segment :=
  if s.cycle.held = true ∧ s.cycle.state = .paused ∧ s.unit.isRequest = true then s.beginCycle else s

/-- R149: the sweep of a SUPPLY_SWEEP taken outside LOCKED begins at the entry to LOCKED (log 40). -/
def Segment.beginHeldSweep (s : Segment) : Segment :=
  match s.unit with
  | .request r =>
    if r.body.kind = some .supplySweep ∧ r.step = .serve ∧ r.outcome = none ∧ s.supply.sweep = .idle then s.beginSweep
    else s
  | .none | .entry _ => s

/-- R31: entry to LOCKED. The first in a run examines the chain head and begins the first cycle; a later one makes what the
unit in service waits LOCKED for. The epilogue does what else is due. -/
def Segment.enterLocked (s : Segment) (detail : Byte) : Segment :=
  let s := { s with state := .locked, line := { s.line with framing := 0 } }.reqProgress [⟨.segmentLocked, detail⟩]
  if s.everLocked then s.beginHeld.beginHeldSweep
  else
    let s := { s with everLocked := true }.examineHead
    { s with cycle := { s.cycle with held := true } }

/-- Entry to ACQUIRING (R28, R32, R34) with the changes of its record write; acquisition count 0 locks at once (R30). -/
def Segment.enterAcquiring (s : Segment) (changes : List Change) : Segment :=
  let s := { s with state := .acquiring, good := 0, line := { s.line with framing := 0 } }.reqProgress changes
  if s.blk.acq = 0 then s.enterLocked 0 else s

/-- R35: the segment leaves LOCKED. An answer not begun is abandoned; a transaction in service ends with the cause, after
the frame on the line; a held group is broken from its next member on, unless its first member is still being taken
(log 18). The attempt that ends so is not counted as used (log 36). -/
def Segment.depart (s : Segment) (cause : Departure) : Segment :=
  let s := { s.abandonAnswer with departed := cause }
  let s := match s.unit with
    | .request _ => { s with req := s.req.breakGroup }
    | .none | .entry _ => s
  match s.xact with
  | .ready | .waiting | .started => s.finishUnit s.departEnding .none
  | .sending => { s with xact := .ending s.departEnding }
  | .idle | .ending _ | .lostReport | .lostAnswer => s

/-- R32: lock loss. -/
def Segment.lockLoss (s : Segment) : Segment := (s.depart .lockLoss).enterAcquiring [⟨.lockLost, 0⟩]

/-- R33: a segment in ACQUIRING or LOCKED enters STALLED. -/
def Segment.enterStalled (s : Segment) : Segment :=
  let s := if s.state = .locked then s.depart .stall else s
  { s with state := .stalled, good := 0, line := { s.line with framing := 0 } }.reqProgress [⟨.lineStall, 0⟩]

/-! ## Stopping (R36, R37) -/

/-- R37 for a poll entry in service at a stop. A POLL that a departure left on the line has no outcome decided yet: the stop
ends its entry ABORTED (R60, R86, log 35). -/
def Segment.stopEntry (s : Segment) (e : EntryUnit) : Segment :=
  match e.step with
  | .polling =>
    match s.xact with
    | .sending | .ending _ => { s with xact := .ending .aborted }
    | .lostReport | .lostAnswer => { s with xact := .lostAnswer }
    | .idle | .ready | .waiting | .started => s.decideEntry e .aborted .none
  | .entryRead | .stationRead | .capMarker | .capBody | .capMark | .status => s

/-- The pieces a request unit reads whose results a stop discards (R36, R126, R159), and those of a chain read (R106), the
examination of the head included (log 42). -/
def Op.stopDrops (op : Op) : Bool :=
  op == .takeRead || op == .groupLink || op == .groupState || op == .chainLink || op == .chainState || op == .headState

/-- R36, R37 for a request in service at a stop: a take without its TAKEN write is abandoned, an undecided outcome
becomes ABORTED, a decided one is written; no member follows. A frame that a departure left on the line decides nothing
before its end: the stop ends its request ABORTED (log 35). -/
def Segment.stopReq (s : Segment) (r : ReqUnit) : Segment :=
  let r := { r with last := true, succ := if r.succ.reading then .none else r.succ }
  match r.step with
  | .takeRead => s.clearUnit
  | .serve =>
    if r.outcome.isSome then s.tryComplete r
    else
      match s.xact with
      | .sending | .ending _ => { s.setReq r with xact := .ending .aborted }
      | .lostReport | .lostAnswer => { s.setReq r with xact := .lostAnswer }
      | .idle | .ready | .waiting | .started => s.decideReq r .aborted
  | .taken | .linkSeen | .clear | .outcome | .state => s.setReq r

/-- A waiting access whose result a stop discards is withdrawn (R159). -/
def withdrawIf (p : Op → Bool) (a : Option Access) : Option Access :=
  match a with
  | some acc => if p acc.op then none else some acc
  | none => none

/-- R36, R130: the entry to STOPPING, the unit in service and the sweep apart: the record write is requested, an answer not
begun is abandoned, and what the stop withdraws or stops is withdrawn or stopped. -/
def Segment.beginStop (s : Segment) : Segment :=
  let s := { s with state := .stopping, line := { s.line with framing := 0 } }.reqProgress []
  let s := s.abandonAnswer
  { s with
    waits := { s.waits with unit := withdrawIf Op.stopDrops s.waits.unit, chain := none },
    cycle := { s.cycle with timer := .stopped, held := false, pause := .none },
    req := { s.req with scanTimer := .stopped, chain := .idle, more := false } }

/-- R37 for the unit in service at a stop. -/
def Segment.stopUnit (s : Segment) : Segment :=
  match s.unit with
  | .none => { s with xact := .idle }
  | .entry e => s.stopEntry e
  | .request r => s.stopReq r

/-- R36: a running segment enters STOPPING. -/
def Work.enterStopping (w : Work) : Work :=
  ((w.discard Op.stopDrops).on Segment.beginStop).sweepStop.on Segment.stopUnit

/-- R38: what STOPPING waits for has ended: the frame on the line, answers and filings, the unit's writes, and every
access but a progress record write that waits, which the STOPPED record merges with (log 21). -/
def Work.stopReady (w : Work) : Bool :=
  let s := w.seg
  s.state == .stopping && !s.stopWrite && s.faultHeld.isNone && s.line.tx.isNone && s.unit == .none
    && s.resp.pend.isNone && s.resp.hands.isEmpty && s.resp.due.isEmpty
    && s.waits.urgent.isNone && s.waits.responder.isNone && s.waits.unit.isNone && s.waits.chain.isNone
    && w.busSource.isNone

/-- R38 step 1, R145: the sample timer stops and the record write that carries STOPPED is requested. -/
def Work.stopCheck (w : Work) : Work :=
  if w.stopReady then
    w.on fun s =>
      { s with stopWrite := true, supply := { s.supply with timer := .stopped } }.reqProgress []
  else w

/-! ## The RUN bit and the device-wide stop (R25, R45) -/

/-- R25, R40, R45: the segment acts on a RUN write of 0: a start is in progress, it runs and holds no fault back, or it is
FAULTED. Any other ignores it; a device-wide stop acts on a segment that holds a fault back at its entry to FAULTED, which
Work.enterFaulted does. -/
def Segment.takesRunClear (s : Segment) : Bool :=
  match s.state with
  | .stopped => s.starting
  | .settling | .acquiring | .locked | .stalled => s.faultHeld.isNone
  | .stopping => false
  | .faulted => true

/-- What a RUN write of 0 does to a segment that acts on it (R25, R36, R41). -/
def Work.runClear (w : Work) : Work :=
  match w.seg.state with
  | .stopped => w.cancelStart
  | .settling | .acquiring | .locked | .stalled => w.enterStopping
  | .stopping => w
  | .faulted => w.faultedToStopped

/-! ## Progress record writes (R40, R43) -/

/-- The notices of the changes that the record write on the bus covers, in order (R43), with the cycle number held when
they are raised (log 20). -/
def Work.raiseChanges (w : Work) : Work :=
  { w with
    notices := w.notices ++ w.seg.prBus.map fun c =>
      { kind := c.kind, seg := segByte w.k, station := 0xFF, addr := 0, detail := c.detail,
        cycle := w.seg.cycle.number, ref := 0 },
    seg := { w.seg with prBus := [] } }

/-- The record write that follows the entry to FAULTED has ended, in whatever way (R40): SEGMENT_FAULT, then a move to
STOPPED that waited (R41). -/
def Work.faultRecordEnded (w : Work) : Work :=
  match w.seg.faultOwed with
  | some ref =>
    let w := (w.raiseFault ref).on fun s => { s with faultOwed := none, prFault := false }
    if w.seg.stopOwed then w.enterStopped else w
  | none => w

/-- A progress record write has completed (R38, R43). -/
def Work.progressDone (w : Work) : Work :=
  let w := w.raiseChanges
  if w.seg.prFault then w.faultRecordEnded
  else if w.seg.stopWrite then
    (if w.mute then w else w.raiseSeg .segmentStopped 0 0).enterStopped
  else w

/-- A progress record write met an error response or a refusal (R40, R43): the notices that waited on it are raised; the
one made after a fault is dropped, any other is a fault. -/
def Work.progressFailed (w : Work) (code : FaultCode) (ref : Word) : Work :=
  let w := w.raiseChanges
  if w.seg.prFault then w.faultRecordEnded else w.takeFault code ref

/-! ## What an event has made due -/

/-- The epilogue of every event of a segment unit: a fault held for a frame's end, LINE_LOST after an owed answer, the
next unit of work, the responder's accesses, the next frame, the end of STOPPING. -/
def Work.finish (w : Work) : Work :=
  let w := w.heldFault
  let w := if w.seg.live then (w.on fun s => s.lostDue.kick).respDue.on Segment.tryBegin else w
  w.stopCheck

end Sys2Proof.Machine
end

