-- ==== Sys2Proof/Machine/Device.lean ====
section
/-! DEFINITION. Device control and the notice writer (R162 to R171), and how an event of a segment unit is carried into
the state of the whole block. -/

namespace Sys2Proof.Machine

/-! ## The notice queue (R168) -/

/-- A device progress record write is requested (R171): in READY alone, merging with one that waits. -/
def State.requestRecord (s : State) : State :=
  if s.dev.state ≠ .ready then s
  else
    match s.port.notice with
    | some a => if a.op = .devProgress then s else { s with nw := { s.nw with recWaiting := true } }
    | none => { s with nw := { s.nw with recWaiting := true } }

/-- A notice is dropped: counted, and NOTICE_LOST set (R168, R169). -/
def State.dropNotice (s : State) : State :=
  ({ s with nw := { s.nw with dropped := s.nw.dropped + 1 } }.setCause .noticeLost).requestRecord

/-- A notice is raised (R168). -/
def State.raise (s : State) (n : Notice) : State :=
  if s.nw.lost = true ∨ Config.queueDepth ≤ s.nw.queue.length then s.dropNotice
  else { s with nw := { s.nw with queue := s.nw.queue ++ [n] } }

def State.raiseAll (s : State) : List Notice → State
  | [] => s
  | n :: ns => (s.raise n).raiseAll ns

/-! ## Events of a segment unit -/

/-- The working copy of segment k. -/
def State.work (s : State) (k : Seg) : Work :=
  { k := k, low := s.port.windowLow, high := s.port.windowHigh,
    mute := s.dev.state == .faulted, wide := s.dev.state == .faulted || s.dev.disabling,
    free := Config.freeSupply s.draws, bus := s.port.busy, seg := s.segs.get k, notices := [], drop := false,
    segStop := false, drew := false }

/-- A granted access whose result is discarded (R159, R160). -/
def Busy.discarded (b : Busy) : Busy := { b with discard := true }

/-- Segment unit k withdraws the request of r by taking the value g (R159). -/
def State.withdraws (s : State) (k : Seg) (g : Segment) : Requester → Bool
  | .segment j src => j == k && ((s.segs.get k).waits.access src).isSome && (g.waits.access src).isNone
  | .notice | .device => false

/-- The requesters noted at the last response that still wait once segment unit k takes the value g. -/
def State.waitedAfter (s : State) (k : Seg) (g : Segment) : List Requester :=
  s.port.waited.filter fun r => !s.withdraws k g r

/-- The working copy of segment k is carried back: the segment unit, the withdrawn requests, the discard mark, the notices in
order, SEG_STOP. -/
def State.commit (s : State) (k : Seg) (w : Work) : State :=
  let s1 : State :=
    { s with segs := s.segs.put k w.seg,
             port := { s.port with
               busy := if w.drop then s.port.busy.map Busy.discarded else s.port.busy, waited := s.waitedAfter k w.seg },
             draws := if w.drew then s.draws + 1 else s.draws }
  let s2 := s1.raiseAll w.notices
  if w.segStop then s2.setCause (.segStop k) else s2

/-- An event of segment k, with what it makes due in the segment unit. -/
def State.onSeg (s : State) (k : Seg) (f : Work → Work) : State := s.commit k (f (s.work k)).finish

/-- A segment takes a RUN write of 0, or ignores it and nothing changes (R25, R40, R45). -/
def State.stopSeg (s : State) (k : Seg) : State :=
  if (s.segs.get k).takesRunClear then s.onSeg k Work.runClear else s

/-- A device-wide stop acts on every segment as a RUN write of 0 (R45), lowest number first; the notices raised together
enter the queue in that order (R168, log 44). -/
def State.stopAll (s : State) : State := Seg.all.foldl State.stopSeg s

/-- Every segment is STOPPED with no start in progress. -/
def State.allAtRest (s : State) : Bool := s.segs.all Segment.atRest

/-! ## The notice writer (R169, R171) -/

/-- The slot at the notice next index. -/
def State.noticeSlot (s : State) : Word := slotAt s.nw.ringBase 16 s.nw.next

/-- The access the oldest notice needs next (R169). -/
def State.noticeAccess (s : State) (n : Notice) : Access :=
  match s.nw.step with
  | .marker => .read .noticeMarkerRead s.noticeSlot 2
  | .body => .write .noticeBody (s.noticeSlot.off 2) n.bytes
  | .mark => .write .noticeMarkerWrite s.noticeSlot (wrHalf 1)

/-- The end of the drain (R165): the segments have stopped under ENABLE clear and the queue is empty. -/
def State.drained (s : State) : Bool := s.dev.disabling && s.allAtRest && s.nw.queue.isEmpty

/-- The device progress record (11): it carries DISABLED at the end of the drain (R165, R171). -/
def State.recordBytes (s : State) : List Byte :=
  [BitVec.ofNat 8 (if s.drained then DevState.disabled.code else s.dev.state.code), BitVec.ofNat 8 s.dev.fault.code]
    ++ wrHalf (BitVec.ofNat 16 s.nw.next) ++ wrWord s.nw.dropped ++ [0, 0, 0, 0, 0, 0, 0, 0]

/-- The notice writer has an access on the bus. -/
def State.noticeOnBus (s : State) : Bool :=
  match s.port.busy with
  | some b => b.req == .notice && !b.discard
  | none => false

/-- The notice writer issues what it has due: a record write ahead of the next ring access (R171). A ring access that waits
for its grant counts as in progress, and the record write goes after it (the model's choice, log 48). -/
def State.noticeDue (s : State) : State :=
  if s.dev.state = .ready ∧ s.port.notice = none ∧ s.noticeOnBus = false then
    if s.nw.recWaiting = true ∨ s.drained = true then
      { s with port := { s.port with notice := some ⟨.devProgress, s.nw.record, 0, []⟩ },
               nw := { s.nw with recWaiting := false } }
    else
      match s.nw.queue with
      | [] => s
      | n :: _ => { s with port := { s.port with notice := some (s.noticeAccess n) } }
  else s

/-! ## Device states (R162 to R165) -/

def Four.map {α β : Type} (f : Four α) (g : α → β) : Four β := ⟨g f.v0, g f.v1, g f.v2, g f.v3⟩

def Throttle.stop (t : Throttle) : Throttle := { t with timer := .stopped }

/-- The notice writer's waiting access is withdrawn (R159). -/
def Port.noNotice (p : Port) : Port := { p with notice := none, waited := p.waited.filter (· != .notice) }

/-- Entry to DISABLED (R165, R166): throttle timers stop, the fault code and the notice writer's index and count are
kept. -/
def State.enterDisabled (s : State) : State :=
  { s with
    dev := { s.dev with state := .disabled, enable := false, disabling := false, disableAsked := false },
    nw := { s.nw with queue := [], step := .marker, recWaiting := false, loadedOwed := false, finalRec := false },
    port := { s.port.noNotice with throttle := s.port.throttle.map Throttle.stop } }

/-- R165: in FAULTED, ENABLE 0 takes the device to DISABLED once every segment is STOPPED. -/
def State.disableDue (s : State) : State :=
  if s.dev.state = .faulted ∧ s.dev.disableAsked = true ∧ s.allAtRest = true then s.enterDisabled else s

/-- What an event has made due in device control and the notice writer. -/
def State.settle (s : State) : State := s.disableDue.noticeDue

/-- The entry of the device to FAULTED (R164, R167). -/
def State.deviceFault (s : State) (code : DevFault) (addr : Word) : State :=
  { s with dev := { s.dev with state := .faulted, fault := code, faultAddr := addr, disabling := false,
                               disableAsked := false } }.setCause .deviceFault

/-- R170: a notice writer fault. Every queued notice is dropped and counted, the notice-lost condition is set, the record
write that waits is withdrawn, and every segment is stopped (R45). -/
def State.noticeFault (s : State) (addr : Word) : State :=
  let n := s.nw.queue.length
  let s1 := s.deviceFault .noticeFault addr
  let s2 : State :=
    { s1 with
      nw := { s1.nw with queue := [], dropped := s1.nw.dropped + BitVec.ofNat 32 n, lost := true, step := .marker,
                         recWaiting := false, loadedOwed := false, finalRec := false },
      port := s1.port.noNotice }
  let s3 := if n = 0 then s2 else s2.setCause .noticeLost
  s3.stopAll

/-! ## The load (R163, R164, R174) -/

/-- R163: the values of a control block that passed its checks go to their owners. -/
def State.takeControlBlock (s : State) (d : List Byte) : State :=
  let seg := fun (k : Seg) (g : Segment) =>
    { g with blockPtr := rdWord d (0x20 + 4 * k.toNat), scanInterval := rdByte d 0x12 }
  let thr := fun (k : Seg) (t : Throttle) => { t with interval := rdByte d (0x14 + k.toNat) }
  { s with
    segs := ⟨seg .s0 s.segs.v0, seg .s1 s.segs.v1, seg .s2 s.segs.v2, seg .s3 s.segs.v3⟩,
    port := { s.port with
      windowLow := rdWord d 0x04, windowHigh := rdWord d 0x08,
      throttle := ⟨thr .s0 s.port.throttle.v0, thr .s1 s.port.throttle.v1, thr .s2 s.port.throttle.v2,
        thr .s3 s.port.throttle.v3⟩ },
    nw := { s.nw with ringBase := rdWord d 0x0C, slots := rdHalf d 0x10, record := rdWord d 0x18, next := 0, dropped := 0,
                      lost := false, step := .marker } }

/-- The DEVICE_FAULT notice of a load that follows a device fault (R164). -/
def Device.faultNotice (v : Device) : Notice :=
  { kind := .deviceFault, seg := 0xFF, station := 0xFF, addr := 0, detail := BitVec.ofNat 8 v.fault.code, cycle := 0,
    ref := v.faultAddr }

/-- R163, R164: entry to READY: a record write is requested, LOADED is owed to it, and an earlier device fault is reported
and forgotten. -/
def State.enterReady (s : State) : State :=
  let old := s.dev
  let s1 : State :=
    { s with dev := { s.dev with state := .ready, fault := .none, faultAddr := 0 },
             nw := { s.nw with recWaiting := true, loadedOwed := true } }
  if old.fault = .none then s1 else s1.raise old.faultNotice

/-- The control block read has completed (R163, R174). -/
def State.loadDone (s : State) (d : List Byte) : State :=
  match controlCheck s.block d with
  | some code => s.deviceFault code s.block
  | none => (s.takeControlBlock d).enterReady

/-! ## Completion of the notice writer's accesses (R169, R171) -/

/-- The oldest notice leaves the queue. -/
def NoticeWriter.pop (n : NoticeWriter) : NoticeWriter := { n with queue := n.queue.tail, step := .marker }

/-- An access of the notice writer has completed. -/
def State.noticeDone (s : State) (op : Op) (d : List Byte) : State :=
  match op with
  | .noticeMarkerRead =>
    if rdHalf d 0 = 0 then { s with nw := { s.nw with step := .body } }
    else { s with nw := s.nw.pop }.dropNotice
  | .noticeBody => { s with nw := { s.nw with step := .mark } }
  | .noticeMarkerWrite =>
    { s with nw := { s.nw.pop with next := ringNext s.nw.next s.nw.slots.toNat } }.setCause .notice
  | .devProgress =>
    let s1 := if s.nw.loadedOwed then s.setCause .loaded else s
    let s2 : State := { s1 with nw := { s1.nw with loadedOwed := false, finalRec := false } }
    if s.nw.finalRec then s2.enterDisabled else s2
  | _ => s

end Sys2Proof.Machine
end

