-- ==== Sys2Proof/Machine/Events.lean ====
section
/-! DEFINITION. The events of the line, of the line time and of the timers of a segment unit (01, 02, 04, 06, 07, 08).
An event that cannot arise in the state it finds changes nothing (log 3). -/

namespace Sys2Proof.Machine

def Segment.setLine (s : Segment) (l : Line) : Segment := { s with line := l }

/-! ## Characters and frames (R3, R8, R12, R20 to R22, R29) -/

/-- CHARACTER_COMPLETE: the character joins the frame in assembly; idle is measured from its end (R3, R11). The part's
own characters are read back for the transmitter alone. -/
def Segment.character (s : Segment) (c : Byte) (parity stop : Bool) : Segment :=
  if s.receiverOn = true ∧ s.line.tx = none then
    s.setLine { s.line with asm := some (assemble s.line.asm c (parityOk c parity) stop), idle := true }
  else s

/-- R12: a frame that ends reserves the line by its kind, when it is GOOD or DAMAGED. -/
def Line.frameEnd (l : Line) (c : Class) (chars : List Byte) : Line :=
  if l.tracker = .busy ∧ (c = .good ∨ c = .damaged) ∧ (kindOf chars).any FrameKind.reserves = true then
    { l with tracker := .reserved }
  else l

/-- R29: the good-frame count in ACQUIRING. -/
def Segment.acquire (s : Segment) (good : Bool) : Segment :=
  if good then
    let s : Segment := { s with good := s.good + 1 }
    if s.blk.acq.toNat ≤ s.good then s.enterLocked 1 else s
  else { s with good := 0 }

/-- R20: the consecutive count and the counter at a report in LOCKED; the third fault in a row is a lock loss. -/
def Segment.countFraming (s : Segment) (fault good : Bool) : Segment :=
  if fault then
    let s : Segment :=
      { s with line := { s.line with framing := s.line.framing + 1 },
               counters := { s.counters with framingFaults := s.counters.framingFaults + 1 } }
    if 3 ≤ s.line.framing then s.lockLoss else s
  else if good then s.setLine { s.line with framing := 0 }
  else s

/-- What the segment controller does with a report (R28, R29, R20, R32). -/
def Segment.controllerReport (s : Segment) (fault good : Bool) : Segment :=
  match s.state with
  | .acquiring => s.acquire good
  | .locked => s.countFraming fault good
  | .stopped | .settling | .stalled | .stopping | .faulted => s

/-- A whole frame, GOOD or DAMAGED, whose DEST is an own address of the part. -/
def Segment.addressed (s : Segment) (a : Assembly) : Bool :=
  (a.cls == .good || a.cls == .damaged) && (s.blk.ownIndex (destOf a.chars)).isSome

/-- What waited for the report of frame a: the hold gap and the pause after a collision (R14, R77, log 17). Another device
has started a frame that is addressed to the part, and this ends the group's hold on the line (R140). -/
def Segment.afterCollision (s : Segment) (a : Assembly) : Segment :=
  { s with
    req := { s.req with
      gap := if s.req.gap = .afterReport then .measuring else s.req.gap,
      lineHeld := if s.req.gap = .afterReport ∧ s.addressed a = true then false else s.req.lineHeld },
    cycle := { s.cycle with pause := if s.cycle.pause = .awaiting then .running else s.cycle.pause } }

/-- A unit that is to end LINE_LOST has the report of the winner's frame: its pause-after starts, and it waits for the
answer owed to that frame (R75, R77, log 16). -/
def Segment.winnerReported (s : Segment) : Segment :=
  if s.xact = .lostReport then { s with xact := .lostAnswer }.lostPause else s

/-- What waited for the report of frame a. -/
def Segment.afterReport (s : Segment) (a : Assembly) : Segment := (s.afterCollision a).winnerReported

/-- FRAME_REPORT: the frame in assembly is reported to the segment controller and then, when the segment is LOCKED
before and after, handed over (R8, R22, log 14). -/
def Segment.report (s : Segment) : Segment :=
  match s.line.asm with
  | none => s
  | some a =>
    if s.live then
      let c := a.cls
      let s1 := s.setLine ({ s.line with asm := none }.frameEnd c a.chars)
      let s2 := s1.controllerReport a.framingFault (c == .good)
      let s3 := if s.state = .locked ∧ s2.state = .locked then s2.handOver c a.frame else s2
      s3.afterReport a
    else s

/-- START_BIT_TAKEN: the tracker is BUSY and idle ends (R12). A start bit of another device is the reply start (R15),
abandons an owed answer not begun (R130) and ends a group's hold on the line (R14, R125). -/
def Segment.startBit (s : Segment) : Segment :=
  if s.receiverOn then
    let s1 := s.setLine { s.line with tracker := .busy, idle := false }
    if s.line.tx.isSome then s1
    else
      let s2 : Segment := { s1.abandonAnswer with xact := if s.xact = .waiting then .started else s.xact }
      if s.req.gap = .measuring ∨ s.req.gap = .reached then { s2 with req := { s2.req with lineHeld := false } } else s2
  else s

/-! ## Ends of the part's own frames (R13, R15 to R17) -/

/-- ARBITRATION_LOSS (R16). -/
def Segment.arbitrationLoss (s : Segment) (pos : Nat) (start : Bool) : Segment :=
  match s.line.tx with
  | none => s
  | some t =>
    let s := s.leaveLine t pos start
    let s : Segment := { s with counters := { s.counters with arbLosses := s.counters.arbLosses + 1 } }
    if t.answer then s.answerOver false else s.workLost

/-- COLLISION (R17). -/
def Segment.collision (s : Segment) (pos : Nat) (start : Bool) : Segment :=
  match s.line.tx with
  | none => s
  | some t =>
    let s := s.leaveLine t pos start
    if t.answer then s.answerOver false else s.workCollided

/-- TRANSMIT_END (R12, R13, R15). -/
def Segment.transmitEnd (s : Segment) : Segment :=
  match s.line.tx with
  | none => s
  | some t =>
    let s := s.setLine
      { s.line with tx := none, idle := true, tracker := if t.kind.reserves then .reserved else s.line.tracker }
    if t.answer then (s.answerOver true).lostPause else s.workSent t

/-! ## Line time (R12, R14, R15, R30, R130, R131) -/

/-- FRAME_GAP (R12). -/
def Segment.frameGap (s : Segment) : Segment :=
  if s.receiverOn = true ∧ s.line.tracker = .busy ∧ s.line.idle = true then s.setLine { s.line with tracker := .free } else s

/-- RESERVATION_EXPIRY (R12). -/
def Segment.reservationExpiry (s : Segment) : Segment :=
  if s.line.tracker = .reserved ∧ s.line.idle = true then s.setLine { s.line with tracker := .free } else s

/-- HOLD_GAP (R14). -/
def Segment.holdGap (s : Segment) : Segment :=
  if s.req.gap = .measuring then { s with req := { s.req with gap := .reached } } else s

/-- ANSWER_TURNAROUND (R130). -/
def Segment.turnaround (s : Segment) : Segment :=
  match s.resp.pend with
  | none => s
  | some p => s.setPend (some { p with turn := true })

/-- QUIET_INTERVAL (R30). -/
def Segment.quiet (s : Segment) : Segment :=
  if s.live = true ∧ s.state = .acquiring ∧ s.line.idle = true then s.enterLocked 2 else s

/-! ## Stall and settling (R18, R28, R33, R34) -/

/-- STALL_REPORT: the frame in progress is reported, and then the stall is taken (R18, log 15). The line is dominant:
idle has ended (log 34). -/
def Segment.stallReport (s : Segment) : Segment :=
  if s.live = true ∧ s.line.stalled = false then
    let s := s.report
    let s := s.setLine { s.line with stalled := true, idle := false }
    match s.state with
    | .acquiring | .locked => s.enterStalled
    | .stopped | .settling | .stalled | .stopping | .faulted => s
  else s

/-- STALL_END (R34): idle is measured from here (log 34). -/
def Segment.stallEnd (s : Segment) : Segment :=
  if s.live = true ∧ s.line.stalled = true then
    let s := s.setLine { s.line with stalled := false, idle := true }
    if s.state = .stalled then s.enterAcquiring [] else s
  else s

/-- R28: the segment leaves SETTLING. -/
def Segment.leaveSettling (s : Segment) : Segment :=
  if s.line.stalled then s.enterStalled
  else if s.blk.acq = 0 then s.enterLocked 0
  else s.enterAcquiring []

/-- SETTLE_EXPIRY: the first sample is taken and the sample timer started; then the segment leaves SETTLING (R28,
R145). -/
def Work.settleExpiry (w : Work) (mv : Nat) : Work :=
  if w.seg.live = true ∧ w.seg.state = .settling then
    (w.sampleAt mv).on fun s => { s with supply := s.supply.loadTimer }.leaveSettling
  else w

/-! ## Timers (R77, R81, R82, R105, R145, R149, R150) -/

/-- CYCLE_TIMER_EXPIRY: in RUNNING an overrun; in WAITING the next cycle begins once no unit is in service and the
segment is LOCKED (R81). -/
def Work.cycleExpiry (w : Work) : Work :=
  match w.seg.cycle.timer with
  | .stopped => w
  | .running _ =>
    let w' := w.on fun s => { s with cycle := { s.cycle with timer := .stopped, expired := true } }
    match w.seg.cycle.state with
    | .running =>
      (w'.on fun s => { s with counters := { s.counters with overruns := s.counters.overruns + 1 } }).raiseSeg
        .cycleOverrun (BitVec.ofNat 8 w.seg.cycle.index) 0
    | .waiting | .paused => w'

/-- SCAN_TIMER_EXPIRY: a chain read is requested, and the timer loads itself again (R105). -/
def Segment.scanExpiry (s : Segment) : Segment :=
  match s.req.scanTimer with
  | .stopped => s
  | .running _ => s.chainRequest

/-- SAMPLE_TIMER_EXPIRY: a sample, or a deferred one during a sweep; the timer is loaded again (R145, R150). -/
def Work.sampleExpiry (w : Work) (mv : Nat) : Work :=
  match w.seg.supply.timer with
  | .stopped => w
  | .running _ =>
    let w := w.on fun s => { s with supply := s.supply.loadTimer }
    match w.seg.supply.sweep with
    | .sweeping _ _ => w.on fun s => { s with supply := { s.supply with deferred := true } }
    | .idle => w.sampleAt mv

/-- The sweep hands its result to the request in service (R149). -/
def Segment.sweepOver (s : Segment) (best : Option Nat) : Segment :=
  let s := s.sweepOff
  match s.unit with
  | .request r => s.decideReq { r with result := sweepResult best } .ok
  | .none | .entry _ => s

/-- SWEEP_STEP: the WEAK comparator, set to the step under test, is read; then the next step, or the end of the sweep and a
deferred sample (R143, R149, R150). -/
def Work.sweepStep (w : Work) (mv next : Nat) : Work :=
  match w.seg.supply.sweep with
  | .idle => w
  | .sweeping step best =>
    let best := if (w.seg.supply.read mv).weak then some step else best
    if step < 7 then
      w.on fun s => { s with supply := { s.supply with sweep := .sweeping (step + 1) best, weakCmp := step + 1 } }
    else (w.on fun s => s.sweepOver best).deferredSample next

/-- PAUSE_AFTER_END (R77). -/
def Segment.pauseEnd (s : Segment) : Segment :=
  if s.cycle.pause = .running then { s with cycle := { s.cycle with pause := .none } } else s

/-! ## The commands -/

/-- An event that acts on the segment unit alone. -/
def State.segEvent (s : State) (k : Seg) (f : Segment → Segment) : Host.Outcome State Fault Refusal :=
  .next (s.onSeg k fun w => w.on f).settle

/-- An event that may raise notices at once. -/
def State.workEvent (s : State) (k : Seg) (f : Work → Work) : Host.Outcome State Fault Refusal :=
  .next (s.onSeg k f).settle

/-- FRAME_REPORT (R8). -/
def execFrameReport (k : Seg) (s : State) : Host.Outcome State Fault Refusal := s.segEvent k Segment.report

/-- START_BIT_TAKEN (R12). -/
def execStartBitTaken (k : Seg) (s : State) : Host.Outcome State Fault Refusal := s.segEvent k Segment.startBit

/-- ARBITRATION_LOSS (R16). -/
def execArbitrationLoss (k : Seg) (pos : Nat) (s : State) (start : Bool := false) : Host.Outcome State Fault Refusal :=
  s.segEvent k fun g => g.arbitrationLoss pos start

/-- COLLISION (R17). -/
def execCollision (k : Seg) (pos : Nat) (s : State) (start : Bool := false) : Host.Outcome State Fault Refusal :=
  s.segEvent k fun g => g.collision pos start

/-- TRANSMIT_END (R13). -/
def execTransmitEnd (k : Seg) (s : State) : Host.Outcome State Fault Refusal := s.segEvent k Segment.transmitEnd

/-- FRAME_GAP (R12). -/
def execFrameGap (k : Seg) (s : State) : Host.Outcome State Fault Refusal := s.segEvent k Segment.frameGap

/-- RESERVATION_EXPIRY (R12). -/
def execReservationExpiry (k : Seg) (s : State) : Host.Outcome State Fault Refusal := s.segEvent k Segment.reservationExpiry

/-- W_EXPIRY (R15). -/
def execWExpiry (k : Seg) (s : State) : Host.Outcome State Fault Refusal := s.segEvent k Segment.noReply

/-- HOLD_GAP (R14). -/
def execHoldGap (k : Seg) (s : State) : Host.Outcome State Fault Refusal := s.segEvent k Segment.holdGap

/-- ANSWER_TURNAROUND (R130). -/
def execAnswerTurnaround (k : Seg) (s : State) : Host.Outcome State Fault Refusal := s.segEvent k Segment.turnaround

/-- RESPONDER_DEADLINE (R131). -/
def execResponderDeadline (k : Seg) (s : State) : Host.Outcome State Fault Refusal := s.segEvent k Segment.deadline

/-- STALL_REPORT (R18). -/
def execStallReport (k : Seg) (s : State) : Host.Outcome State Fault Refusal := s.segEvent k Segment.stallReport

/-- STALL_END (R34). -/
def execStallEnd (k : Seg) (s : State) : Host.Outcome State Fault Refusal := s.segEvent k Segment.stallEnd

/-- SETTLE_EXPIRY (R28). -/
def execSettleExpiry (k : Seg) (mv : Nat) (s : State) : Host.Outcome State Fault Refusal :=
  s.workEvent k fun w => w.settleExpiry mv

/-- QUIET_INTERVAL (R30). -/
def execQuietInterval (k : Seg) (s : State) : Host.Outcome State Fault Refusal := s.segEvent k Segment.quiet

/-- CYCLE_TIMER_EXPIRY (R81). -/
def execCycleTimerExpiry (k : Seg) (s : State) : Host.Outcome State Fault Refusal := s.workEvent k Work.cycleExpiry

/-- SCAN_TIMER_EXPIRY (R105). -/
def execScanTimerExpiry (k : Seg) (s : State) : Host.Outcome State Fault Refusal := s.segEvent k Segment.scanExpiry

/-- SAMPLE_TIMER_EXPIRY (R145). -/
def execSampleTimerExpiry (k : Seg) (mv : Nat) (s : State) : Host.Outcome State Fault Refusal :=
  s.workEvent k fun w => w.sampleExpiry mv

/-- SWEEP_STEP (R149). -/
def execSweepStep (k : Seg) (mv next : Nat) (s : State) : Host.Outcome State Fault Refusal :=
  s.workEvent k fun w => w.sweepStep mv next

/-- PAUSE_AFTER_END (R77). -/
def execPauseAfterEnd (k : Seg) (s : State) : Host.Outcome State Fault Refusal := s.segEvent k Segment.pauseEnd

/-- CHARACTER_COMPLETE (R3). -/
def execCharacterComplete (k : Seg) (c : Byte) (parity stop : Bool) (s : State) : Host.Outcome State Fault Refusal :=
  s.segEvent k fun g => g.character c parity stop

end Sys2Proof.Machine
end

