-- ==== Sys2Proof/Machine/Port.lean ====
section
/-! DEFINITION. The memory port (09): the grant, the write window, completions and error responses, throttling. -/

namespace Sys2Proof.Machine

/-! ## Choosing (R153, R154) -/

/-- R153 lines 2 to 5: the normal source whose access is taken. -/
def Waits.normalSource (v : Waits) : Option Source :=
  if v.control.isSome then some .control
  else if v.responder.isSome then some .responder
  else if v.unit.isSome then some .unit
  else if v.chain.isSome then some .chain
  else none

/-- The access of a source is taken from those waiting. -/
def Waits.take (v : Waits) : Source → Waits
  | .urgent => { v with urgent := none }
  | .control => { v with control := none }
  | .responder => { v with responder := none }
  | .unit => { v with unit := none }
  | .chain => { v with chain := none }

def Timer.isRunning : Timer → Bool
  | .stopped => false
  | .running _ => true

/-- The segment has a normal request and its throttle timer is as asked. -/
def State.wantsNormal (s : State) (throttled : Bool) (k : Seg) : Bool :=
  (s.segs.get k).waits.normalSource.isSome && (s.port.throttle.get k).timer.isRunning == throttled

def State.wantsUrgent (s : State) (k : Seg) : Bool := (s.segs.get k).waits.urgent.isSome

/-- The normal request of segment k (R153). -/
def State.normalOf (s : State) (k : Seg) : Requester :=
  .segment k ((s.segs.get k).waits.normalSource.getD .control)

/-- R154: the requester that is served. -/
def State.chooseRequester (s : State) : Option Requester :=
  match Seg.all.find? s.wantsUrgent with
  | some k => some (.segment k .urgent)
  | none =>
    if s.port.device.isSome then some .device
    else if s.port.notice.isSome then some .notice
    else
      match Seg.all.find? (s.wantsNormal false) with
      | some k => some (s.normalOf k)
      | none =>
        match Seg.all.find? (s.wantsNormal true) with
        | some k => some (s.normalOf k)
        | none => none

/-! ## Requests that arrive after the grant (R151, log 32) -/

/-- The requesters with an access waiting. -/
def State.waiting (s : State) : List Requester :=
  (Seg.all.flatMap fun k =>
      (Source.all.filter fun src => ((s.segs.get k).waits.access src).isSome).map (Requester.segment k))
    ++ (if s.port.notice.isSome then [.notice] else []) ++ (if s.port.device.isSome then [.device] else [])

/-- The grant made at the last response, or after the last refusal, is owed: a request that had arrived by then waits. -/
def State.grantOwed (s : State) : Bool := s.port.waited.any s.waiting.contains

/-- The block as the arbiter sees it before the request of r has arrived. -/
def State.without (s : State) (r : Requester) : State :=
  match r with
  | .segment k src =>
    { s with segs := s.segs.put k { s.segs.get k with waits := (s.segs.get k).waits.take src } }
  | .notice => { s with port := { s.port with notice := none } }
  | .device => { s with port := { s.port with device := none } }

/-- The block as the arbiter sees it. At the grant owed to a response it is without the late requests, of which none had
arrived when that response returned. At any other grant every request that waits is seen: requests that arrive together at
an IDLE port are all in the grant made at once (R154). -/
def State.seen (s : State) (late : List Requester) : State :=
  if s.grantOwed then (late.filter fun r => !s.port.waited.contains r).foldl State.without s else s

/-- The requester granted: by R154 among those the arbiter sees. -/
def State.granted (s : State) (late : List Requester) : Option Requester := (s.seen late).chooseRequester

/-! ## Granting (R151, R155, R157) -/

def Throttle.load (t : Throttle) : Throttle :=
  if t.interval = 0 then t else { t with timer := .running t.interval.toNat }

/-- R155: a normal grant to segment k loads its throttle timer. -/
def State.throttleLoad (s : State) (k : Seg) : State :=
  { s with port := { s.port with throttle := s.port.throttle.put k (s.port.throttle.get k).load } }

/-- The access is issued to the bus. -/
def State.issue (s : State) (r : Requester) (a : Access) : State :=
  { s with port := { s.port with busy := some ⟨r, a, false⟩ } }

/-- R43, R79: a progress record write takes the values held at its grant, the changes it covers and the ended cycle. -/
def Segment.grantProgress (g : Segment) : Segment × Access :=
  ({ g with prBus := g.prWait, prWait := [], prFault := g.faultOwed.isSome, prEnded := none },
   .write .progress g.blk.progress g.progressBytes)

/-- A segment's access leaves its source; a progress record is filled in. -/
def Segment.grant (g : Segment) (src : Source) (a : Access) : Segment × Access :=
  let g := { g with waits := g.waits.take src }
  if a.op = .progress then g.grantProgress else (g, a)

/-- The reference word of a segment fault for a refused write: the address of the write, which for a capture body is
that of its slot (R40, R101). -/
def Access.refusedRef (a : Access) : Word := if a.op = .capBody then a.addr else firstByte a.bytes a.addr

/-- What a segment does at a refused write of its own (R157, R40). -/
def Work.refused (w : Work) (a : Access) : Work :=
  if a.op = .progress then w.progressFailed .writeRefused a.refusedRef else w.takeFault .writeRefused a.refusedRef

/-- A write is refused: the port is IDLE again at once, and the requests that wait are in its next grant (R157, R154). What
the refusal makes due may come later than that grant (log 32). -/
def State.refusal (s : State) : State := { s with port := { s.port with waited := s.waiting } }

/-- R157: a refused write of segment k: the port raises WRITE_REFUSED, and the segment faults. WRITE_REFUSED stands in the
queue ahead of the notices that a refused progress record write raises (R43, log 43). -/
def State.refuseSegment (s : State) (k : Seg) (a : Access) : State :=
  s.onSeg k fun w => (w.raiseSeg .writeRefused 0 (firstByte a.bytes a.addr)).refused a

/-- A grant to source src of segment k. -/
def State.grantSegment (s : State) (k : Seg) (src : Source) : State :=
  match (s.segs.get k).waits.access src with
  | none => s
  | some a =>
    let (g, a) := (s.segs.get k).grant src a
    let s : State := { s with segs := s.segs.put k g }
    let s := if src = .urgent then s else s.throttleLoad k
    if a.op.isWrite && !a.inWindow s.port.windowLow s.port.windowHigh then s.refusal.refuseSegment k a
    else s.issue (.segment k src) a

/-- A grant to the notice writer; a device progress record is filled in (R171). -/
def State.grantNotice (s : State) : State :=
  match s.port.notice with
  | none => s
  | some a =>
    let final := a.op == .devProgress && s.drained
    let a := if a.op = .devProgress then .write .devProgress s.nw.record s.recordBytes else a
    let s : State :=
      { s with port := { s.port with notice := none }, nw := { s.nw with finalRec := final } }
    if a.op.isWrite && !a.inWindow s.port.windowLow s.port.windowHigh then s.refusal.noticeFault (firstByte a.bytes a.addr)
    else s.issue .notice a

/-- A grant to device control. -/
def State.grantDevice (s : State) : State :=
  match s.port.device with
  | none => s
  | some a => { s with port := { s.port with device := none } }.issue .device a

/-- R154: one grant of an IDLE port; nothing when the port is BUSY or nothing waits. -/
def State.grant (s : State) (late : List Requester) : State :=
  if s.port.busy.isSome then s
  else
    match s.granted late with
    | some (.segment k src) => s.grantSegment k src
    | some .notice => s.grantNotice
    | some .device => s.grantDevice
    | none => s

/-! ## Responses (R151, R158, R159) -/

/-- A segment's access has completed with data d. -/
def Work.accessDone (w : Work) (a : Access) (d : List Byte) : Work :=
  match a.op with
  | .segBlock => w.segBlockDone d
  | .progress => w.progressDone
  | .respRecord | .inbMarkerUrgent => w.urgentDone a d
  | .writeBack | .inbMarkerRead | .inbBody | .inbMarkerWrite => w.respDone a d
  | .headState | .chainLink | .chainState =>
    if badLink a.op d then w.takeFault .badLink (rdWord d 0) else w.on fun s => s.chainDone a.op d
  | .entryRead | .stationRead | .statusWrite | .capMarkerRead | .capBody | .capMarkerWrite =>
    match w.seg.unit with
    | .entry e => w.entryDone e a.op d
    | .none | .request _ => w
  | .takeRead | .takenWrite | .linkSeen | .outcomeWrite | .stateWrite | .groupLink | .groupState | .clearWrite =>
    match w.seg.unit with
    | .request r => if badLink a.op d then w.takeFault .badLink (rdWord d 0) else w.reqDone r a.op d
    | .none | .entry _ => w
  | .controlBlock | .noticeMarkerRead | .noticeBody | .noticeMarkerWrite | .devProgress => w

/-- The response of the access would be discarded, so that an error on it has no effect (R159, log 38): an urgent read whose
answer is decided or abandoned (R130, R131, R133). -/
def Segment.readUnwanted (s : Segment) (op : Op) : Bool :=
  match op with
  | .respRecord | .inbMarkerUrgent => !s.urgentLive
  | _ => false

/-- A segment's access met an error response (R26, R39, R40, R43, R88, R158, R159). -/
def Work.accessError (w : Work) (a : Access) : Work :=
  if w.seg.readUnwanted a.op then w
  else
    match a.op with
    | .segBlock => w.startFault .memoryFault 0xFF w.seg.blockPtr
    | .progress => w.progressFailed .memoryFault a.addr
    | _ => w.takeFault .memoryFault a.addr

/-- The requests that have arrived when the response of the access on the bus returns (R151). What its own source has asked
for meanwhile is not one of them: a source issues its next access when its previous one has completed (R152, R43, log 32). -/
def State.arrived (s : State) : List Requester := s.waiting.filter fun r => s.port.busy.all fun b => b.req != r

/-- The port is IDLE again; the requests that have arrived by this moment take part in the next grant (R151). -/
def State.freePort (s : State) : State := { s with port := { s.port with busy := none, waited := s.arrived } }

/-- The response of the granted access returns (R151): the requester acts on it, unless its result is discarded. -/
def State.complete (s : State) (d : List Byte) : State :=
  match s.port.busy with
  | none => s
  | some b =>
    let s := s.freePort
    match b.req with
    | .segment k _ => s.onSeg k fun w => if b.discard then w else w.accessDone b.acc d
    | .notice => if b.discard then s else s.noticeDone b.acc.op d
    | .device => if b.discard then s else s.loadDone d

/-- The bus reports the access as failed (R158). -/
def State.errorResponse (s : State) : State :=
  match s.port.busy with
  | none => s
  | some b =>
    let s := s.freePort
    match b.req with
    | .segment k _ => s.onSeg k fun w => if b.discard then w else w.accessError b.acc
    | .notice => if b.discard then s else s.noticeFault b.acc.addr
    | .device => if b.discard then s else s.deviceFault .loadFault s.block

/-! ## The commands -/

/-- MEMORY_GRANT (R154). -/
def execMemoryGrant (s : State) (late : List Requester := []) : Host.Outcome State Fault Refusal :=
  .next (s.grant late).settle

/-- ACCESS_COMPLETE (R151). -/
def execAccessComplete (data : List Byte) (s : State) : Host.Outcome State Fault Refusal := .next (s.complete data).settle

/-- ERROR_RESPONSE (R158). -/
def execErrorResponse (s : State) : Host.Outcome State Fault Refusal := .next s.errorResponse.settle

/-- THROTTLE_EXPIRY (R155): the timer stops. -/
def execThrottleExpiry (k : Seg) (s : State) : Host.Outcome State Fault Refusal :=
  .next { s with port := { s.port with throttle := s.port.throttle.put k (s.port.throttle.get k).stop } }.settle

end Sys2Proof.Machine
end

