-- ==== Sys2Proof/Machine/Window.lean ====
section
/-! DEFINITION. The commands of the host (10): resets, CONTROL writes, and accesses of the other registers. -/

namespace Sys2Proof.Machine

/-- The commands that one write to CONTROL is (R162, R25, log 4): with RESET 1 a soft reset alone; with ENABLE 0 an
ENABLE clear alone, its RUN values ignored; else ENABLE 1 and a RUN write to each segment, lowest number first. -/
def controlWrite (v : Word) : List Instr :=
  if v.getLsbD 1 then [.softReset]
  else if v.getLsbD 0 then
    .enableSet :: Seg.all.map fun k => if v.getLsbD (4 + k.toNat) then .runSet k else .runClear k
  else [.enableClear]

/-- The commands that a write to a register is (R161). -/
def Register.writeCommands (r : Register) (v : Word) : List Instr :=
  match r with
  | .control => controlWrite v
  | .block => [.registerWrite .block v]
  | .scan => [.scan v]
  | .attention => [.registerWrite .attention v]
  | .mask => [.attentionMaskWrite v]
  | .state => [.registerWrite .state v]

/-- The commands that a read of a register is: a read of ATTENTION clears it, and the others change nothing (R161). -/
def Register.readCommands : Register → List Instr
  | .attention => [.attentionRead]
  | .control | .block | .scan | .mask | .state => []

/-- The commands that a host's write at an offset of the window is (R161). -/
def windowWrite (offset : Nat) (v : Word) : Option (List Instr) := (registerAt offset).map fun r => r.writeCommands v

/-! ## Resets (R44, R160, R166) -/

/-- R166: the block at pin reset; the commands that wait are not the part's, and free values are not drawn again. -/
def State.pinReset (s : State) : State := { State.reset with pending := s.pending, draws := s.draws }

/-- The access on the bus at a soft reset completes, and its result is discarded (R160, R166). -/
def Port.afterSoftReset (p : Port) : Port := { Port.reset with busy := p.busy.map Busy.discarded }

/-- R166: as pin reset, but BLOCK and ATTENTION MASK are kept and the access on the bus completes. -/
def State.softReset (s : State) : State :=
  { s.pinReset with block := s.block, mask := s.mask, readData := s.readData, port := s.port.afterSoftReset }

/-! ## ENABLE and RUN (R162, R25) -/

/-- R163: LOADING begins with the read of the control block. -/
def State.beginLoad (s : State) : State :=
  { s with dev := { s.dev with state := .loading, enable := true },
           port := { s.port with device := some (.read .controlBlock s.block 64) } }

/-- R162, ENABLE written 1: only a DISABLED device acts on it. -/
def State.enableSet (s : State) : State :=
  match s.dev.state with
  | .disabled => s.beginLoad
  | .loading | .ready | .faulted => s

/-- R162, ENABLE written 0. -/
def State.enableClear (s : State) : State :=
  match s.dev.state with
  | .disabled | .loading => s
  | .ready =>
    if s.dev.disabling then s
    else { s with dev := { s.dev with enable := false, disabling := true } }.stopAll
  | .faulted => { s with dev := { s.dev with enable := false, disableAsked := true } }

/-- R25, R162: segments take RUN writes in a READY device that is not disabling. -/
def State.takesRun (s : State) : Bool := s.dev.state == .ready && !s.dev.disabling

/-- R25: a RUN write of 1 begins a start of a segment that is STOPPED with none in progress; any other ignores it. -/
def State.runSet (s : State) (k : Seg) : State :=
  if s.takesRun && (s.segs.get k).atRest then s.onSeg k Work.beginStart else s

/-- R25: a RUN write of 0. -/
def State.runClear (s : State) (k : Seg) : State := if s.takesRun then s.stopSeg k else s

/-! ## SCAN (R106, R161) -/

/-- A SCAN write with the segment's bit set: a chain read is requested of a segment that is running or STOPPING, has a
chain and has examined its head. -/
def Segment.scanned (s : Segment) : Segment :=
  if s.live = true ∧ s.blk.chainHead ≠ 0 ∧ s.req.examined = true then s.chainRequest else s

/-- One bit of a SCAN write. -/
def State.scanSeg (value : Word) (s : State) (k : Seg) : State :=
  if value.getLsbD k.toNat then s.onSeg k fun w => w.on Segment.scanned else s

def State.scan (s : State) (value : Word) : State := Seg.all.foldl (State.scanSeg value) s

/-! ## The other registers (R161, R167) -/

/-- R167: a read of ATTENTION returns the causes set and clears them. -/
def State.attentionRead (s : State) : State := { s with readData := s.attentionView, attention := 0 }

/-- R161: BLOCK is taken while the device is DISABLED; a write to a read-only register has no effect. -/
def State.registerWrite (s : State) (reg : PlainReg) (value : Word) : State :=
  match reg with
  | .block => if s.dev.state = .disabled then { s with block := value } else s
  | .attention | .state => s

/-! ## The commands -/

/-- PIN_RESET (R166). -/
def execPinReset (s : State) : Host.Outcome State Fault Refusal := .next s.pinReset

/-- SOFT_RESET (R166). -/
def execSoftReset (s : State) : Host.Outcome State Fault Refusal := .next s.softReset

/-- ENABLE_SET (R162). -/
def execEnableSet (s : State) : Host.Outcome State Fault Refusal := .next s.enableSet.settle

/-- ENABLE_CLEAR (R162). -/
def execEnableClear (s : State) : Host.Outcome State Fault Refusal := .next s.enableClear.settle

/-- RUN_SET (R25). -/
def execRunSet (k : Seg) (s : State) : Host.Outcome State Fault Refusal := .next (s.runSet k).settle

/-- RUN_CLEAR (R25). -/
def execRunClear (k : Seg) (s : State) : Host.Outcome State Fault Refusal := .next (s.runClear k).settle

/-- SCAN (R106). -/
def execScan (value : Word) (s : State) : Host.Outcome State Fault Refusal := .next (s.scan value).settle

/-- ATTENTION_READ (R167). -/
def execAttentionRead (s : State) : Host.Outcome State Fault Refusal := .next s.attentionRead

/-- ATTENTION_MASK_WRITE (R167): the bits of the table are stored. -/
def execAttentionMaskWrite (value : Word) (s : State) : Host.Outcome State Fault Refusal :=
  .next { s with mask := value.extractLsb' 0 8 }

/-- REGISTER_WRITE (R161). -/
def execRegisterWrite (reg : PlainReg) (value : Word) (s : State) : Host.Outcome State Fault Refusal :=
  .next (s.registerWrite reg value)

end Sys2Proof.Machine
end

