-- ==== Sys2Proof/Machine/Dispatch.lean ====
section
/-! DEFINITION. Dispatch: one arm per command. -/

namespace Sys2Proof.Machine

/-- The effect of a command on everything but the queue. -/
def exec (i : Instr) (s : State) : Host.Outcome State Fault Refusal :=
  match i with
  | .pinReset => Sys2Proof.Machine.execPinReset s
  | .softReset => Sys2Proof.Machine.execSoftReset s
  | .enableSet => Sys2Proof.Machine.execEnableSet s
  | .enableClear => Sys2Proof.Machine.execEnableClear s
  | .runSet k => Sys2Proof.Machine.execRunSet k s
  | .runClear k => Sys2Proof.Machine.execRunClear k s
  | .scan v => Sys2Proof.Machine.execScan v s
  | .attentionRead => Sys2Proof.Machine.execAttentionRead s
  | .attentionMaskWrite v => Sys2Proof.Machine.execAttentionMaskWrite v s
  | .registerWrite reg v => Sys2Proof.Machine.execRegisterWrite reg v s
  | .memoryGrant late => Sys2Proof.Machine.execMemoryGrant s late
  | .accessComplete data => Sys2Proof.Machine.execAccessComplete data s
  | .errorResponse => Sys2Proof.Machine.execErrorResponse s
  | .throttleExpiry k => Sys2Proof.Machine.execThrottleExpiry k s
  | .frameReport k => Sys2Proof.Machine.execFrameReport k s
  | .startBitTaken k => Sys2Proof.Machine.execStartBitTaken k s
  | .arbitrationLoss k pos start => Sys2Proof.Machine.execArbitrationLoss k pos s start
  | .collision k pos start => Sys2Proof.Machine.execCollision k pos s start
  | .transmitEnd k => Sys2Proof.Machine.execTransmitEnd k s
  | .frameGap k => Sys2Proof.Machine.execFrameGap k s
  | .reservationExpiry k => Sys2Proof.Machine.execReservationExpiry k s
  | .wExpiry k => Sys2Proof.Machine.execWExpiry k s
  | .holdGap k => Sys2Proof.Machine.execHoldGap k s
  | .answerTurnaround k => Sys2Proof.Machine.execAnswerTurnaround k s
  | .responderDeadline k => Sys2Proof.Machine.execResponderDeadline k s
  | .stallReport k => Sys2Proof.Machine.execStallReport k s
  | .stallEnd k => Sys2Proof.Machine.execStallEnd k s
  | .settleExpiry k mv => Sys2Proof.Machine.execSettleExpiry k mv s
  | .quietInterval k => Sys2Proof.Machine.execQuietInterval k s
  | .cycleTimerExpiry k => Sys2Proof.Machine.execCycleTimerExpiry k s
  | .scanTimerExpiry k => Sys2Proof.Machine.execScanTimerExpiry k s
  | .sampleTimerExpiry k mv => Sys2Proof.Machine.execSampleTimerExpiry k mv s
  | .sweepStep k mv next => Sys2Proof.Machine.execSweepStep k mv next s
  | .pauseAfterEnd k => Sys2Proof.Machine.execPauseAfterEnd k s
  | .characterComplete k c parity stop => Sys2Proof.Machine.execCharacterComplete k c parity stop s

end Sys2Proof.Machine
end

