-- ==== Sys2Proof/Safety.lean ====
section
/-! DEFINITION. The conditions that statements about the block are made under, and the invariants of the block. -/

namespace Sys2Proof.Machine

/-! ## Conditions -/

/-- Nothing is due in device control and the notice writer: every command leaves the block so. -/
def State.settled (s : State) : Prop := s.settle = s

/-- Nothing is owed by the responder of the segment. -/
def Responder.quiet (r : Responder) : Prop := r.pend = none ∧ r.hands = [] ∧ r.due = []

/-- No write-back of a responder record is owed: none is due and not yet issued (R132, R152). -/
def Responder.owesNoWrite (r : Responder) : Prop := ∀ wb, NormalDue.writeBack wb ∉ r.due

/-- Nothing is due in the segment unit: no fault waits for a frame's end, no frame is ready, a unit is in service while
the segment is LOCKED, the responder owes nothing, and the segment is not STOPPING. -/
def Segment.calm (g : Segment) : Prop :=
  g.faultHeld = none ∧ g.state ≠ .stopping ∧ g.xact ≠ .ready ∧ g.xact ≠ .lostAnswer
    ∧ (g.state = .locked → g.unit ≠ .none) ∧ g.resp.quiet

/-- The block with segment unit k replaced. -/
def State.putSeg (s : State) (k : Seg) (g : Segment) : State := { s with segs := s.segs.put k g }

/-- Segment unit k takes the value g, and the requests that it withdraws by this wait no longer (R159, log 32). -/
def State.takeSeg (s : State) (k : Seg) (g : Segment) : State :=
  { s.putSeg k g with port := { s.port with waited := s.waitedAfter k g } }

/-- Segment unit k takes the value g, the notices ns are raised, and then everything this makes due is done. -/
def State.afterEvent (s : State) (k : Seg) (g : Segment) (ns : List Notice) : State :=
  (s.onSeg k fun w => { w with seg := g, notices := ns }).settle

/-- A notice of segment k with its current cycle number, station index FFH and station address 0 (R177). -/
def State.segNotice (s : State) (k : Seg) (kind : NoticeKind) (detail : Byte) : Notice :=
  { kind := kind, seg := BitVec.ofNat 8 k.toNat, station := 0xFF, addr := 0, detail := detail,
    cycle := (s.segs.get k).cycle.number, ref := 0 }

/-- The access on the bus is a of source src of segment k, and its result is not discarded. -/
def State.serves (s : State) (k : Seg) (src : Source) (a : Access) : Prop := s.port.busy = some ⟨.segment k src, a, false⟩

/-- The segment takes RUN writes and holds no fault back: RUN writes are taken in a READY device that is not disabling
(R25, R162), and by a segment that is not waiting for a frame's end after a fault (R40). -/
def State.runTaken (s : State) (k : Seg) : Prop :=
  s.dev.state = .ready ∧ s.dev.disabling = false ∧ (s.segs.get k).faultHeld = none

/-- A running state (02). -/
def SegState.running (st : SegState) : Prop := st = .settling ∨ st = .acquiring ∨ st = .locked ∨ st = .stalled

/-- A stop of the segment takes a deferred sample, and so draws a free value (R150, log 7): it runs, holds no fault back,
and a sweep has deferred its sample. -/
def Segment.samplesAtStop (g : Segment) : Bool :=
  match g.state with
  | .settling | .acquiring | .locked | .stalled => g.faultHeld.isNone && g.supply.deferred && g.supply.sweep != .idle
  | .stopped | .stopping | .faulted => false

/-- The free values drawn when a device-wide stop comes to segment k: the segments are taken lowest number first (log 44). -/
def State.drawsBefore (s : State) (k : Seg) : Nat :=
  s.draws + (Seg.all.filter fun j => decide (j.toNat < k.toNat) && (s.segs.get j).samplesAtStop).length

/-- Nothing of the segment unit waits for the report of the frame in assembly: no hold gap and no pause-after is measured
from it, and no lost unit ends after it (R14, R77, R75). -/
def Segment.awaitsNoReport (g : Segment) : Prop :=
  g.req.gap ≠ .afterReport ∧ g.cycle.pause ≠ .awaiting ∧ g.xact ≠ .lostReport

/-- A SCAN write with the segment's bit set requests nothing of it (R106, R161): it is STOPPED or FAULTED, or has taken a
fault (R40); it has no chain, or has not examined its head; its STOPPED record write is asked for, or its head is being
examined (log 19); or no chain read is under way and its successor is found, a record is current or no anchor is held. -/
def Segment.ignoresScan (g : Segment) : Prop :=
  g.state = .stopped ∨ g.state = .faulted ∨ g.faultHeld ≠ none ∨ g.blk.chainHead = 0 ∨ g.req.examined = false
    ∨ g.stopWrite = true ∨ g.req.chain = .exam
    ∨ (g.req.chain = .idle ∧ (g.req.ready = true ∨ g.req.current ≠ none ∨ g.req.anchor = none))

/-- The line interface once frame a is reported: assembly is empty, and a POLL, SET or NOTICE with a valid header has made
a BUSY tracker RESERVED (R12). -/
def Line.reported (l : Line) (a : Assembly) : Line :=
  { l with
    asm := none,
    tracker := if l.tracker = .busy ∧ (a.cls = .good ∨ a.cls = .damaged)
        ∧ (kindOf a.chars = some .poll ∨ kindOf a.chars = some .set ∨ kindOf a.chars = some .notice) then .reserved
      else l.tracker }

/-- The access of the segment controller that is a waiting progress record write; its bytes are those of its grant. -/
def Segment.progressWait (g : Segment) : Access := ⟨.progress, g.blk.progress, 0, []⟩

/-- What abandoning the pending answer p leaves (R130, R137, R21): the responder r and the line l' after it, l being the line
before. No answer is pending and no write-back is owed. Under LOG_POLLS a POLL waits for its filing, with no answer given;
the buffer of any other frame is free; a frame in no buffer leaves nothing. -/
def Segment.AbandonsAnswer (g : Segment) (p : Pend) (l l' : Line) (r : Responder) : Prop :=
  ((∀ b, p.buf = some b → g.resp.hands.find? (Hand.owes b) = none) ∧ r = { g.resp with pend := none } ∧ l' = l)
  ∨ ∃ b h, p.buf = some b ∧ g.resp.hands.find? (Hand.owes b) = some h
    ∧ (h.stage = .answering ∧ g.blk.logPolls = true ∧ g.blk.inbSlots ≠ 0 ∧ l' = l
        ∧ r = { g.resp with
            pend := none
            hands := updFirst (Hand.owes b) (fun x => { x with stage := .queued, given := .none }) g.resp.hands }
      ∨ ¬(h.stage = .answering ∧ g.blk.logPolls = true ∧ g.blk.inbSlots ≠ 0) ∧ l' = l.release b
        ∧ r = { g.resp with pend := none, hands := dropFirst (Hand.owes b) g.resp.hands })

/-- What a departure from LOCKED, or a start bit of another device, makes of an owed answer (R35, R130, R142): the responder r
and the line l' after it, l being the line before. One not begun is abandoned; one begun, or none, changes nothing. -/
def Segment.GivesUpAnswer (g : Segment) (l l' : Line) (r : Responder) : Prop :=
  ((∀ p, g.resp.pend = some p → p.begun = true) ∧ r = g.resp ∧ l' = l)
  ∨ ∃ p, g.resp.pend = some p ∧ p.begun = false ∧ g.AbandonsAnswer p l l' r

/-- What an event of segment k leaves as it is: the queue, BLOCK, ATTENTION MASK, the last value read, the other
segment units, the write window, the throttle intervals and a waiting access of device control. -/
def OnlySegment (k : Seg) (s t : State) : Prop :=
  t.pending = s.pending ∧ t.block = s.block ∧ t.mask = s.mask ∧ t.readData = s.readData
    ∧ (∀ j, j ≠ k → t.segs.get j = s.segs.get j)
    ∧ t.port.windowLow = s.port.windowLow ∧ t.port.windowHigh = s.port.windowHigh
    ∧ (∀ j, (t.port.throttle.get j).interval = (s.port.throttle.get j).interval)
    ∧ t.port.device = s.port.device

/-- The segment a command acts on, for the commands that are events of one segment unit. -/
def segmentOf : Instr → Option Seg
  | .runSet k | .runClear k | .frameReport k | .startBitTaken k | .arbitrationLoss k _ _ | .collision k _ _ | .transmitEnd k
  | .frameGap k | .reservationExpiry k | .wExpiry k | .holdGap k | .answerTurnaround k | .responderDeadline k
  | .stallReport k | .stallEnd k | .settleExpiry k _ | .quietInterval k | .cycleTimerExpiry k | .scanTimerExpiry k
  | .sampleTimerExpiry k _ | .sweepStep k _ _ | .pauseAfterEnd k | .characterComplete k _ _ _ => some k
  | .pinReset | .softReset | .enableSet | .enableClear | .scan _ | .attentionRead | .attentionMaskWrite _
  | .registerWrite _ _ | .memoryGrant _ | .accessComplete _ | .errorResponse | .throttleExpiry _ => none

/-! ## Checks, condition by condition -/

/-- The conditions of R174 on a control block d read at the BLOCK value, its format field apart. -/
def ControlBlockFits (block : Word) (d : List Byte) : Prop :=
  let low := (rdWord d 0x04).toNat
  let high := (rdWord d 0x08).toNat
  let slots := (rdHalf d 0x10).toNat
  let ring := (rdWord d 0x0C).toNat
  let record := (rdWord d 0x18).toNat
  block.toNat % 16 = 0 ∧ low % 16 = 0 ∧ high % 16 = 0 ∧ low < high ∧ 4 ≤ slots ∧ slots ≤ 256
    ∧ ring % 16 = 0 ∧ low ≤ ring ∧ ring + 16 * slots ≤ high ∧ record % 16 = 0 ∧ low ≤ record ∧ record + 16 ≤ high
    ∧ (∀ k : Seg, (rdWord d (0x20 + 4 * k.toNat)).toNat % 16 = 0)
    ∧ rdByte d 0x13 = 0 ∧ (∀ i, i < 4 → rdByte d (0x1C + i) = 0) ∧ (∀ i, i < 16 → rdByte d (0x30 + i) = 0)

/-- An address of a station or a controller, 1 to 125 (R10). -/
def DeviceAddress (a : Byte) : Prop := 1 ≤ a.toNat ∧ a.toNat ≤ 125

/-- A structure of n bytes at a lies inside the window (R176). -/
def Inside (low high a : Word) (n : Nat) : Prop := low.toNat ≤ a.toNat ∧ a.toNat + n ≤ high.toNat

/-- Condition n of R175 holds of a segment block under the window from low to high; there are 23. -/
def SegmentBlockMeets (low high : Word) (b : SegBlock) : Nat → Prop
  | 1 => b.rate.toNat ≤ 7
  | 2 => b.acq.toNat ≤ 7
  | 3 => 16 ≤ b.quiet.toNat
  | 4 => 2 ≤ b.w.toNat
  | 5 => 1 ≤ b.r.toNat ∧ b.r.toNat < b.w.toNat
  | 6 => 2 ≤ b.stall.toNat
  | 7 => 1 ≤ b.arbLimit.toNat ∧ b.arbLimit.toNat ≤ 15
  | 8 => 1 ≤ b.revisit.toNat ∧ b.revisit.toNat ≤ 16
  | 9 => DeviceAddress b.own0
  | 10 => b.multi = true → DeviceAddress b.own1 ∧ DeviceAddress b.own2 ∧ b.own0 ≠ b.own1 ∧ b.own0 ≠ b.own2
      ∧ b.own1 ≠ b.own2
  | 11 => b.lowStep.toNat ≤ 7 ∧ b.weakStep.toNat < b.lowStep.toNat
  | 12 => b.stationCount.toNat ≤ 32 ∧ (1 ≤ b.stationCount.toNat → b.stationTable.toNat % 16 = 0)
  | 13 => b.pollLength.toNat ≤ 64 ∧ (1 ≤ b.pollLength.toNat → b.pollList.toNat % 2 = 0)
  | 14 => b.chainHead.toNat % 16 = 0
  | 15 => 1 ≤ b.capSlots.toNat ∧ b.capSlots.toNat ≤ 1024 ∧ b.capBase.toNat % 16 = 0
  | 16 => b.inbSlots.toNat ≤ 256 ∧ (1 ≤ b.inbSlots.toNat → b.inbBase.toNat % 16 = 0)
  | 17 => b.respTable.toNat % 16 = 0
  | 18 => b.progress.toNat % 16 = 0
  | 19 => 1 ≤ b.stationCount.toNat → Inside low high b.stationTable (32 * b.stationCount.toNat)
  | 20 => Inside low high b.capBase (80 * b.capSlots.toNat)
  | 21 => 1 ≤ b.inbSlots.toNat → Inside low high b.inbBase (80 * b.inbSlots.toNat)
  | 22 => b.respTable ≠ 0 → Inside low high b.respTable 240
  | 23 => Inside low high b.progress 32
  | _ => True

/-- A configuration half meets the ranges of R51 on a segment with block b, by the detail code of each; there are 6. -/
def StationCfgMeets (b : SegBlock) (c : StationCfg) : Nat → Prop
  | 1 => DeviceAddress c.addr
  | 2 => c.addr ≠ b.own0 ∧ (b.multi = true → c.addr ≠ b.own1 ∧ c.addr ≠ b.own2)
  | 3 => c.expLen.toNat ≤ 64
  | 4 => c.retry.toNat ≤ 3
  | 5 => 1 ≤ c.threshold.toNat ∧ c.threshold.toNat ≤ 15
  | 6 => c.payLen.toNat ≤ 8
  | _ => True

/-- The conditions of R109 on a taken request: its kind is one of the nine, its attempt limit is in range whatever the kind
(log 47), and so are the payload length and the fields its kind uses. -/
def RequestFits (b : SegBlock) (r : ReqRecord) : Prop :=
  ∃ kind, r.kind = some kind ∧ 1 ≤ r.limit.toNat ∧ r.limit.toNat ≤ 4
    ∧ r.payLen.toNat ≤ (if kind = .pollOnce then 8 else 64)
    ∧ (kind = .pollOnce ∨ kind = .set → DeviceAddress r.target)
    ∧ (kind = .pollOnce → r.ackBit.toNat ≤ 1)
    ∧ (kind = .stationClear → r.target.toNat < b.stationCount.toNat)
    ∧ (kind = .conserve → r.arg.toNat ≤ 1)

/-! ## Values after a reset -/

/-- The reset column of the tables of R44, R68, R89, R104, R128, R144 and of 01's closing table, for one segment unit. -/
def Segment.atReset (g : Segment) : Prop :=
  g.state = .stopped ∧ g.starting = false ∧ g.run = none ∧ g.fault = .none ∧ g.good = 0 ∧ g.counters = ⟨0, 0, 0, 0, 0⟩
    ∧ g.waits = ⟨none, none, none, none, none⟩ ∧ g.unit = .none ∧ g.xact = .idle
    ∧ (g.line.tracker = .busy ∧ g.line.tx = none ∧ g.line.asm = none ∧ g.line.stalled = false ∧ g.line.framing = 0
        ∧ g.line.buf0 = none ∧ g.line.buf1 = none)
    ∧ (g.cycle.state = .running ∧ g.cycle.number = 0 ∧ g.cycle.index = 0 ∧ g.cycle.timer = .stopped
        ∧ g.cycle.expired = false ∧ g.cycle.losses = 0 ∧ g.cycle.attempt = 0)
    ∧ (g.cap.next = 0 ∧ g.cap.full = false)
    ∧ (g.req.anchor = none ∧ g.req.cand = none ∧ g.req.ready = false ∧ g.req.current = none ∧ g.req.chain = .idle
        ∧ g.req.scanTimer = .stopped ∧ g.req.count = 0 ∧ g.req.cond = .none ∧ g.req.losses = 0)
    ∧ (g.resp.next = 0 ∧ g.resp.full = false ∧ g.resp.pend = none ∧ g.resp.hands = [])
    ∧ (g.supply.level = .ok ∧ g.supply.auto = false ∧ g.supply.forced = false ∧ g.supply.lowCmp = 0
        ∧ g.supply.weakCmp = 0 ∧ g.supply.recovery = 0 ∧ g.supply.timer = .stopped ∧ g.supply.deferred = false
        ∧ g.supply.sweep = .idle)

/-- The reset columns of R166 and R151 that both resets share: all but BLOCK, ATTENTION MASK and the access on the bus. -/
def State.atReset (s : State) : Prop :=
  s.attention = 0 ∧ s.interruptLine = false
    ∧ (s.dev.state = .disabled ∧ s.dev.enable = false ∧ s.dev.fault = .none ∧ s.dev.faultAddr = 0 ∧ s.dev.disabling = false)
    ∧ (s.nw.queue = [] ∧ s.nw.next = 0 ∧ s.nw.dropped = 0 ∧ s.nw.lost = false ∧ s.nw.recWaiting = false)
    ∧ (s.port.device = none ∧ s.port.notice = none ∧ s.port.waited = [] ∧ s.port.windowLow = 0 ∧ s.port.windowHigh = 0)
    ∧ ∀ k, s.port.throttle.get k = ⟨0, .stopped⟩ ∧ (s.segs.get k).atReset

/-! ## Invariants -/

/-- R168: the notice queue holds at most 8 notices. -/
def QueueBounded (s : State) : Prop := s.nw.queue.length ≤ Config.queueDepth

/-- R157: a write on the bus whose result is not discarded writes no byte outside the write window. Device control, which
the window does not check, only reads. -/
def WritesInWindow (s : State) : Prop :=
  (∀ b, s.port.busy = some b → b.discard = false → b.acc.op.isWrite = true →
    ∀ p ∈ b.acc.bytes, s.port.windowLow.toNat ≤ p.1.toNat ∧ p.1.toNat < s.port.windowHigh.toNat)
    ∧ (∀ a, s.port.device = some a → a.op.isWrite = false)

/-- The requester of the granted access, when its result is not discarded. -/
def Port.serving (p : Port) : Option Requester :=
  match p.busy with
  | some b => if b.discard then none else some b.req
  | none => none

/-- R162: the enable bit and the disabling condition follow the device state; device control requests only in LOADING
and has one access, and the notice writer requests only in READY. -/
def DeviceConsistent (s : State) : Prop :=
  (s.dev.state = .disabled → s.dev.enable = false ∧ s.dev.disabling = false)
    ∧ (s.dev.state = .loading → s.dev.enable = true ∧ s.dev.disabling = false)
    ∧ (s.dev.state = .ready → s.dev.enable = !s.dev.disabling)
    ∧ (s.dev.state = .faulted → s.dev.disabling = false)
    ∧ (s.port.device.isSome = true → s.dev.state = .loading)
    ∧ (s.port.notice.isSome = true → s.dev.state = .ready)
    ∧ (s.port.serving = some .device → s.dev.state = .loading ∧ s.port.device = none)
    ∧ (s.port.serving = some .notice → s.dev.state = .ready)

/-- R24: a start is in progress only in STOPPED; a STOPPED segment holds no fault back. -/
def StartsStopped (s : State) : Prop :=
  ∀ k, ((s.segs.get k).starting = true → (s.segs.get k).state = .stopped)
    ∧ ((s.segs.get k).state = .stopped → (s.segs.get k).faultHeld = none)

end Sys2Proof.Machine
end

