-- ==== Sys2Proof/Certificates/Slice0/Obligations.lean ====
section
/-! DEFINITION. The statements for the provers. -/

open Sys2Proof Sys2Proof.Machine

/-! ## The block as a whole -/

/-- A step takes the command at the front of the queue and runs it on the queue's rest; an empty queue idles (log 2). -/
def Obligations.StepRunsFrontCommand : Prop :=
  (∀ (c : Instr) (rest : List Instr) (s : State), s.pending = c :: rest → step s = exec c { s with pending := rest })
    ∧ ∀ s : State, s.pending = [] → step s = .next s

/-- Every command has a next state in every state, and leaves the queue alone (log 3). -/
def Obligations.EveryCommandAnswersNext : Prop :=
  ∀ (c : Instr) (s : State), ∃ t, exec c s = .next t ∧ t.pending = s.pending

/-- The frame of every event of one segment unit: the queue of commands, BLOCK, ATTENTION MASK, the last value read, the
other segment units, the write window, the throttle intervals and the waiting access of device control stay as they are.
The notice writer, ATTENTION, the device state and the port may change by what the event raises or makes due. -/
def Obligations.SegmentEventsTouchOneSegment : Prop :=
  ∀ (c : Instr) (k : Seg) (s t : State), segmentOf c = some k → exec c s = .next t → OnlySegment k s t

/-- R168: the queue's bound is kept by every step. -/
def Obligations.NoticeQueueStaysBounded : Prop :=
  ∀ s t : State, QueueBounded s → step s = .next t → QueueBounded t

/-- R157: no step puts a write outside the window on the bus. -/
def Obligations.WritesStayInWindow : Prop :=
  ∀ s t : State, WritesInWindow s → step s = .next t → WritesInWindow t

/-- R162, R152: enable bit, disabling condition and the requesters of device control and the notice writer. -/
def Obligations.DeviceStaysConsistent : Prop :=
  ∀ s t : State, DeviceConsistent s → step s = .next t → DeviceConsistent t

/-- R24: a start is in progress in STOPPED alone. -/
def Obligations.StartsStayInStopped : Prop :=
  ∀ s t : State, StartsStopped s → step s = .next t → StartsStopped t

/-- R171, R165: no step leaves an access of the notice writer or an entry to DISABLED undone. -/
def Obligations.NothingStaysDue : Prop :=
  ∀ s t : State, s.settled → step s = .next t → t.settled

/-- The invariants hold in the state after reset. -/
def Obligations.InvariantsHoldAtReset : Prop :=
  QueueBounded State.reset ∧ WritesInWindow State.reset ∧ DeviceConsistent State.reset ∧ StartsStopped State.reset
    ∧ State.reset.settled

/-! ## Resets and the register window -/

/-- R166, R44, R160: the state after reset, and what a pin reset leaves.
R166, R160: a soft reset keeps BLOCK and ATTENTION MASK, and the access on the bus, whose result is discarded. -/
def Obligations.ResetsTakeResetValues : Prop :=
  ((State.reset.atReset ∧ State.reset.block = 0 ∧ State.reset.mask = 0 ∧ State.reset.port.busy = none)
      ∧ ∀ s : State, ∃ t, exec .pinReset s = .next t ∧ t.atReset ∧ t.block = 0 ∧ t.mask = 0 ∧ t.port.busy = none
          ∧ t.pending = s.pending)
    ∧ (∀ s : State, ∃ t, exec .softReset s = .next t ∧ t.atReset ∧ t.block = s.block ∧ t.mask = s.mask
      ∧ t.port.busy = s.port.busy.map (fun b => { b with discard := true }) ∧ t.pending = s.pending)

/-- R162, R163: ENABLE 1 starts the load of a DISABLED device; R162: any other device ignores it.
R162, R165: ENABLE 0 outside a device-wide stop: ignored in DISABLED, LOADING and while disabling; in FAULTED it leads
to DISABLED, at once when every segment is STOPPED (log 25). -/
def Obligations.EnableWritesFollowDeviceState : Prop :=
  ((∀ s : State, s.dev.state = .disabled →
        exec .enableSet s = .next { s with
          dev := { s.dev with state := .loading, enable := true },
          port := { s.port with device := some ⟨.controlBlock, s.block, 64, []⟩ } })
      ∧ ∀ s : State, s.settled → s.dev.state ≠ .disabled → exec .enableSet s = .next s)
    ∧ ((∀ s : State, s.settled →
        s.dev.state = .disabled ∨ s.dev.state = .loading ∨ (s.dev.state = .ready ∧ s.dev.disabling = true) →
        exec .enableClear s = .next s)
      ∧ (∀ s : State, s.dev.state = .faulted → s.allAtRest = false →
          exec .enableClear s = .next { s with dev := { s.dev with enable := false, disableAsked := true } })
      ∧ ∀ s : State, s.dev.state = .faulted → s.allAtRest = true → ∃ t, exec .enableClear s = .next t
          ∧ t.dev.state = .disabled ∧ t.dev.enable = false ∧ t.dev.disabling = false ∧ t.dev.fault = s.dev.fault
          ∧ t.dev.faultAddr = s.dev.faultAddr ∧ t.nw.queue = [] ∧ t.nw.next = s.nw.next ∧ t.nw.dropped = s.nw.dropped
          ∧ t.nw.lost = s.nw.lost ∧ t.port.notice = none ∧ t.block = s.block ∧ t.mask = s.mask
          ∧ t.attention = s.attention ∧ t.segs = s.segs
          ∧ ∀ k, (t.port.throttle.get k).timer = .stopped
              ∧ (t.port.throttle.get k).interval = (s.port.throttle.get k).interval)

/-- R45, R36, R25, R41: ENABLE clear from READY stops every segment as a RUN write of 0 does. The chain read given up
may be the examination of the head (log 42).
R45: each segment unit becomes what a RUN write of 0 makes of it (RunClearEntersStopping, RunClearOfStartOrFault and
RunWritesIgnored say what that is), whatever its state; so do its SEG_STOP cause and its access on the bus. The segments are
taken lowest number first, so that a sample deferred by a sweep draws its free value after those of lower number (logs 44
and 7). -/
def Obligations.EnableClearStopsSegments : Prop :=
  ∀ s : State, s.dev.state = .ready → s.dev.disabling = false → ∃ t, exec .enableClear s = .next t
    ∧ t.dev = { s.dev with enable := false, disabling := true }
    ∧ t.block = s.block ∧ t.mask = s.mask ∧ t.pending = s.pending
    ∧ (∀ k, (s.segs.get k).faultHeld = none →
        ((s.segs.get k).state.running →
            (t.segs.get k).state = .stopping ∧ (t.segs.get k).cycle.timer = .stopped
              ∧ (t.segs.get k).req.scanTimer = .stopped ∧ (t.segs.get k).waits.chain = none)
        ∧ ((s.segs.get k).state = .stopped → (t.segs.get k).state = .stopped ∧ (t.segs.get k).starting = false)
        ∧ ((s.segs.get k).state = .faulted → (s.segs.get k).waits.control = none → (s.segs.get k).faultOwed = none →
            (t.segs.get k).state = .stopped ∧ t.attention.getLsbD (4 + k.toNat) = true))
    -- each segment as by a RUN write of 0 to it
    ∧ (StartsStopped s → ∀ k, ∃ u, exec (.runClear k) { s with draws := s.drawsBefore k } = .next u
        ∧ t.segs.get k = u.segs.get k
        ∧ t.attention.getLsbD (4 + k.toNat) = u.attention.getLsbD (4 + k.toNat)
        ∧ (∀ b src, s.port.busy = some b → b.req = .segment k src → t.port.busy = u.port.busy))
    ∧ ((∀ b, s.port.busy = some b → b.req = .device ∨ b.req = .notice) → t.port.busy = s.port.busy)

/-- R25, R26: a RUN write of 1 begins a start with the read of the segment block.
R26, R177: a start with segment block pointer 0 ends at once in FAULTED with BAD_BLOCK, check 0. -/
def Obligations.RunSetStartsSegment : Prop :=
  (∀ (s : State) (k : Seg), s.settled → s.runTaken k → (s.segs.get k).state = .stopped →
      (s.segs.get k).starting = false → (s.segs.get k).blockPtr ≠ 0 →
      exec (.runSet k) s = .next (s.putSeg k { s.segs.get k with
        starting := true,
        waits := { (s.segs.get k).waits with control := some ⟨.segBlock, (s.segs.get k).blockPtr, 128, []⟩ } }))
    ∧ (∀ (s : State) (k : Seg), s.runTaken k → (s.segs.get k).state = .stopped → (s.segs.get k).starting = false →
      (s.segs.get k).blockPtr = 0 →
      exec (.runSet k) s = .next ((s.putSeg k { s.segs.get k with state := .faulted, fault := .badBlock }).raise
        ⟨.segmentFault, BitVec.ofNat 8 k.toNat, 0, 0, 1, (s.segs.get k).cycle.number, 0⟩).settle)

/-- R25, R162: a RUN write of 1 changes nothing in a device that is not READY or is disabling, and nothing at a segment
that is not STOPPED or whose start is in progress, whatever the segment is doing.
R25, R162, R40: a RUN write of 0 changes nothing in a device that is not READY or is disabling, at a STOPPED segment with no
start in progress, at one that is STOPPING, and at a running one that holds a fault back until the frame it drives has
ended. -/
def Obligations.RunWritesIgnored : Prop :=
  (∀ (s : State) (k : Seg), s.settled →
      (s.dev.state ≠ .ready ∨ s.dev.disabling = true ∨ (s.segs.get k).state ≠ .stopped ∨ (s.segs.get k).starting = true) →
      exec (.runSet k) s = .next s)
    ∧ ∀ (s : State) (k : Seg) (g : Segment), s.settled → s.segs.get k = g →
      (s.dev.state ≠ .ready ∨ s.dev.disabling = true ∨ (g.state = .stopped ∧ g.starting = false)
        ∨ g.state = .stopping ∨ (g.state.running ∧ g.faultHeld ≠ none)) →
      exec (.runClear k) s = .next s

/-- R25, R36: a RUN write of 0 moves a running segment to STOPPING: a progress record write is asked for, the cycle
timer and the scan timer stop, a chain read is given up, the examination of the head included (log 42), a sweep ends,
and a frame on the line is driven on. An owed answer that has not begun is abandoned; one that has begun stays.
R150, R168: ATTENTION keeps its causes, unless a sample deferred by the sweep raises a notice that the queue cannot
take.
R37, R86, R60: what the stop does to the unit in service. An entry whose POLL has no outcome ends ABORTED, after its
frame, also one that a departure has left on the line (log 35), and the attempt is not counted as used (log 36); a lost
one ends LINE_LOST (log 16); any other goes on to its writes. A take without its TAKEN write is given up. A request with
no outcome ends as an entry does, one with an outcome is written with it, a member already broken with GROUP_BROKEN (log
31), and no member follows. -/
def Obligations.RunClearEntersStopping : Prop :=
  ∀ (s : State) (k : Seg) (g : Segment), s.runTaken k → s.segs.get k = g → g.state.running →
    ∃ t u, exec (.runClear k) s = .next t ∧ t.segs.get k = u
    ∧ u.state = .stopping ∧ u.cycle.timer = .stopped ∧ u.cycle.held = false
    ∧ u.req.scanTimer = .stopped ∧ u.req.chain = .idle ∧ u.waits.chain = none
    ∧ u.line.framing = 0 ∧ u.line.tx = g.line.tx
    ∧ u.waits.control = some ⟨.progress, g.blk.progress, 0, []⟩
    ∧ u.supply.sweep = .idle
    ∧ (g.supply.deferred = false ∨ (s.nw.lost = false ∧ s.nw.queue.length < 8) → t.attention = s.attention)
    -- an owed answer
    ∧ (∀ p, g.resp.pend = some p → p.begun = false → u.resp.pend = none)
    ∧ (∀ p, g.resp.pend = some p → p.begun = true → ∃ q, u.resp.pend = some q ∧ q.begun = true ∧ q.ans = p.ans)
    -- a poll entry
    ∧ (∀ e, g.unit = .entry e → e.step = .polling →
      ((g.xact = .idle ∨ g.xact = .ready ∨ g.xact = .waiting ∨ g.xact = .started) →
        u.unit = .entry { e with step := .status, outcome := some .aborted } ∧ u.xact = .idle
        ∧ u.waits.unit = some (.write .statusWrite (e.recAddr + 16)
            (Status.bytes { e.st with state := healthOf e.cfg.threshold e.st.miss e.st.heard } 10)))
      ∧ ((g.xact = .sending ∨ ∃ o, g.xact = .ending o) → u.unit = .entry e ∧ u.xact = .ending .aborted)
      ∧ ((g.xact = .lostReport ∨ g.xact = .lostAnswer) → (∀ p, g.resp.pend = some p → p.begun = false) →
        u.unit = .entry { e with step := .status, outcome := some .lineLost } ∧ u.xact = .idle
        ∧ u.waits.unit = some (.write .statusWrite (e.recAddr + 16)
            (Status.bytes { e.st with state := healthOf e.cfg.threshold e.st.miss e.st.heard } 6))))
    ∧ (∀ e, g.unit = .entry e → e.step ≠ .polling → g.xact ≠ .lostAnswer → u.unit = .entry e
      ∧ (∀ a, g.waits.unit = some a → (a.op = .entryRead ∨ a.op = .stationRead ∨ a.op = .capMarkerRead ∨ a.op = .capBody
          ∨ a.op = .capMarkerWrite ∨ a.op = .statusWrite) → u.waits.unit = some a))
    -- a request
    ∧ ∀ (r q : ReqUnit) (written : Ending → Prop), g.unit = .request r →
      q = { r with last := true, succ := if r.succ.reading then .none else r.succ } →
      (∀ o, written o = (u.unit = .request { q with outcome := some o, step := .outcome, doneCycle := g.cycle.number }
        ∧ u.xact = .idle
        ∧ u.waits.unit = some ⟨.outcomeWrite, r.addr + 0x90, 0,
            placeAt (r.addr + 0x90) [o.code, BitVec.ofNat 8 r.used, 0, if r.holdUnmet then 4 else 0]
              ++ placeAt (r.addr + 0x98) (wrWord g.cycle.number ++ wrWord r.result)⟩)) →
      (r.step = .takeRead → u.unit = .none ∧ u.req.count = 0
        ∧ ∀ a, g.waits.unit = some a → a.op = .takeRead → u.waits.unit = none)
      ∧ (r.step = .serve → r.outcome = none → r.buf = none →
          (g.xact = .idle ∨ g.xact = .ready ∨ g.xact = .waiting ∨ g.xact = .started) → written .aborted)
      ∧ (r.step = .serve → r.outcome = none → (g.xact = .sending ∨ ∃ o, g.xact = .ending o) →
        u.unit = .request q ∧ u.xact = .ending .aborted)
      ∧ (r.step = .serve → r.outcome = none → r.buf = none → (g.xact = .lostReport ∨ g.xact = .lostAnswer) →
          (∀ p, g.resp.pend = some p → p.begun = false) → written .lineLost)
      ∧ (∀ o, r.step = .serve → r.outcome = some o → r.buf = none → g.xact = .idle → written o)
      ∧ ((r.step = .taken ∨ r.step = .linkSeen ∨ r.step = .clear ∨ r.step = .outcome ∨ r.step = .state) →
          g.xact ≠ .lostAnswer → u.unit = .request q
        ∧ ∀ a, g.waits.unit = some a → (a.op = .takenWrite ∨ a.op = .linkSeen ∨ a.op = .clearWrite ∨ a.op = .outcomeWrite
            ∨ a.op = .stateWrite) → u.waits.unit = some a)

/-- R25, R159: a RUN write of 0 cancels a start in progress: a read that waits is withdrawn, one on the bus has its
result discarded.
R41: a RUN write of 0 takes a FAULTED segment whose record write has ended to STOPPED, and sets SEG_STOP; the fault code
and the values of the run are kept, and no notice is raised. While its record write has not ended the move waits: the
segment stays FAULTED, and only the move is noted. -/
def Obligations.RunClearOfStartOrFault : Prop :=
  (∀ (s : State) (k : Seg), s.settled → s.runTaken k → (s.segs.get k).state = .stopped →
      (s.segs.get k).starting = true → ∃ t, exec (.runClear k) s = .next t
      ∧ t.segs.get k = { s.segs.get k with starting := false, waits := { (s.segs.get k).waits with control := none } }
      ∧ (∀ b src, s.port.busy = some b → b.req = .segment k src → b.acc.op = .segBlock →
          t.port.busy = some { b with discard := true })
      ∧ ((∀ b src, s.port.busy = some b → b.req = .segment k src → b.acc.op ≠ .segBlock) → t.port.busy = s.port.busy)
      ∧ t.attention = s.attention ∧ t.nw = s.nw)
    ∧ (∀ (s : State) (k : Seg), s.settled → s.runTaken k → (s.segs.get k).state = .faulted →
      (s.segs.get k).waits.control = none → (s.segs.get k).faultOwed = none → ∃ t, exec (.runClear k) s = .next t
      ∧ (t.segs.get k).state = .stopped ∧ (t.segs.get k).fault = (s.segs.get k).fault
      ∧ (t.segs.get k).run = (s.segs.get k).run ∧ (t.segs.get k).counters = (s.segs.get k).counters
      ∧ (t.segs.get k).cycle.number = (s.segs.get k).cycle.number ∧ (t.segs.get k).cap = (s.segs.get k).cap
      ∧ (t.segs.get k).req.anchor = (s.segs.get k).req.anchor ∧ (t.segs.get k).waits = ⟨none, none, none, none, none⟩
      ∧ t.attention = s.attention ||| BitVec.ofNat 8 (2 ^ (4 + k.toNat)) ∧ t.nw = s.nw)
    ∧ (∀ (s : State) (k : Seg) (g : Segment), s.runTaken k → s.segs.get k = g → g.state = .faulted →
      (g.waits.control ≠ none ∨ g.faultOwed ≠ none) →
      exec (.runClear k) s = .next (s.afterEvent k { g with stopOwed := true } []))

/-- R106, R161: a SCAN write leaves a segment whose bit is 0 as it is. One whose bit is 1 begins the chain read of its
anchor; notes it where a chain read is under way; or discards it, in STOPPED and FAULTED, with no chain or its head not
examined, with a successor found, a record current or no anchor, while the head is being examined, and in STOPPING once
the STOPPED record write is asked for (the last two are the model's reading, log 19). In STOPPING it acts until then.
For one bit set this is said of every state of the segment. Beside other bits it is said of a segment in which nothing
is due: a calm one, one in STOPPING, and a LOCKED one that serves no unit, in WAITING, in PAUSED, in a pause-after or at
an opportunity held open. -/
def Obligations.ScanBeginsChainReads : Prop :=
  (∀ (s : State) (v : Word), ∃ t, exec (.scan v) s = .next t
    ∧ t.block = s.block ∧ t.mask = s.mask ∧ t.pending = s.pending
    ∧ (∀ k, v.getLsbD k.toNat = false → t.segs.get k = s.segs.get k)
    ∧ (∀ (k : Seg) (g : Segment), v.getLsbD k.toNat = true → s.segs.get k = g →
        (g.calm ∨ g.state = .stopping ∧ g.faultHeld = none ∧ g.xact = .idle ∧ g.resp.quiet) →
        (g.ignoresScan → g.calm ∨ g.stopWrite = true → t.segs.get k = g)
        ∧ (¬g.ignoresScan → g.req.chain ≠ .idle → g.calm ∨ g.waits.chain ≠ none →
            t.segs.get k = { g with req := { g.req with more := true } })
        ∧ (∀ a, ¬g.ignoresScan → g.req.chain = .idle → g.req.anchor = some a →
            t.segs.get k = { g with req := { g.req with chain := .link },
                                    waits := { g.waits with chain := some ⟨.chainLink, a, 4, []⟩ } }))
    ∧ ∀ (k : Seg) (g : Segment), v.getLsbD k.toNat = true → s.segs.get k = g → g.state = .locked →
        g.faultHeld = none → g.unit = .none → g.xact = .idle → g.resp.quiet → g.req.ready = false →
        g.cycle.held = false →
        ((g.cycle.state = .waiting ∧ g.cycle.expired = false) ∨ g.cycle.state = .paused
          ∨ (g.cycle.state = .running ∧ g.cycle.point = .oppDue ∧ g.cycle.pause ≠ .none)
          ∨ (g.cycle.state = .running ∧ g.cycle.point = .oppOpen)) →
        (g.ignoresScan → t.segs.get k = g)
        ∧ (¬g.ignoresScan → g.req.chain ≠ .idle → t.segs.get k = { g with req := { g.req with more := true } })
        ∧ (∀ a, ¬g.ignoresScan → g.req.chain = .idle → g.req.anchor = some a →
            t.segs.get k = { g with req := { g.req with chain := .link },
                                    waits := { g.waits with chain := some ⟨.chainLink, a, 4, []⟩ } }))
    ∧ ∀ (s : State) (v : Word) (k : Seg) (g : Segment), (∀ j : Seg, v.getLsbD j.toNat = true ↔ j = k) →
      s.segs.get k = g →
      (g.ignoresScan → exec (.scan v) s = .next (s.afterEvent k g []))
      ∧ (¬g.ignoresScan → g.req.chain ≠ .idle →
          exec (.scan v) s = .next (s.afterEvent k { g with req := { g.req with more := true } } []))
      ∧ (∀ a, ¬g.ignoresScan → g.req.chain = .idle → g.req.anchor = some a →
          exec (.scan v) s = .next (s.afterEvent k { g with
            req := { g.req with chain := .link },
            waits := { g.waits with chain := some ⟨.chainLink, a, 4, []⟩ } } []))

/-- R167: a read of ATTENTION returns the causes set and clears them, and the interrupt line is deasserted.
R167, R161: a write to ATTENTION MASK stores its 8 named bits at once; the line is asserted exactly when a cause is set
under a mask bit of 1. -/
def Obligations.AttentionReadAndMaskWrite : Prop :=
  (∀ s : State, ∃ t, exec .attentionRead s = .next t ∧ t.readData = s.attention.setWidth 32 ∧ t.attention = 0
      ∧ t.interruptLine = false ∧ t = { s with readData := t.readData, attention := 0 })
    ∧ (∀ (s : State) (v : Word), ∃ t, exec (.attentionMaskWrite v) s = .next t ∧ t = { s with mask := v.setWidth 8 }
      ∧ (t.interruptLine = true ↔ ∃ i, s.attention.getLsbD i = true ∧ i < 8 ∧ v.getLsbD i = true))

/-- R161: the offsets of the six registers, what a read of each returns, bit by bit, and that only a read of ATTENTION
has an effect. The bits not named read 0.
R161: the commands that a write at an offset is; a CONTROL write is a soft reset, or an ENABLE 0, or an ENABLE 1 and a
RUN write to each segment (R162, R166, log 4).
R161: BLOCK is taken while the device is DISABLED and ignored otherwise; writes to ATTENTION and STATE have no effect. -/
def Obligations.RegisterWindowReadsAndWrites : Prop :=
  (∀ s : State,
      (∃ v, s.windowRead 0x00 = some v ∧ v.getLsbD 0 = s.dev.enable
        ∧ (∀ k : Seg, v.getLsbD (4 + k.toNat) = (s.segs.get k).runBit)
        ∧ ∀ i, (1 ≤ i ∧ i ≤ 3) ∨ 8 ≤ i → v.getLsbD i = false)
      ∧ s.windowRead 0x04 = some s.block ∧ s.windowRead 0x08 = some 0
      ∧ s.windowRead 0x0C = some (s.attention.setWidth 32) ∧ s.windowRead 0x10 = some (s.mask.setWidth 32)
      ∧ (∃ v, s.windowRead 0x14 = some v ∧ (v.extractLsb' 0 2).toNat = s.dev.state.code
        ∧ (v.extractLsb' 4 4).toNat = s.dev.fault.code
        ∧ (∀ k : Seg, (v.extractLsb' (8 + 4 * k.toNat) 3).toNat = (s.segs.get k).state.code)
        ∧ ∀ i, i = 2 ∨ i = 3 ∨ i = 11 ∨ i = 15 ∨ i = 19 ∨ 23 ≤ i → v.getLsbD i = false)
      ∧ ∀ o, o ≠ 0x00 → o ≠ 0x04 → o ≠ 0x08 → o ≠ 0x0C → o ≠ 0x10 → o ≠ 0x14 → s.windowRead o = none)
    ∧ Register.attention.readCommands = [.attentionRead]
    ∧ (∀ r : Register, r ≠ .attention → r.readCommands = [])
    ∧ (∀ v : Word,
      windowWrite 0x00 v = some (if v.getLsbD 1 then [.softReset] else if v.getLsbD 0 then
          [.enableSet, if v.getLsbD 4 then .runSet .s0 else .runClear .s0,
           if v.getLsbD 5 then .runSet .s1 else .runClear .s1, if v.getLsbD 6 then .runSet .s2 else .runClear .s2,
           if v.getLsbD 7 then .runSet .s3 else .runClear .s3]
        else [.enableClear])
      ∧ windowWrite 0x04 v = some [.registerWrite .block v] ∧ windowWrite 0x08 v = some [.scan v]
      ∧ windowWrite 0x0C v = some [.registerWrite .attention v] ∧ windowWrite 0x10 v = some [.attentionMaskWrite v]
      ∧ windowWrite 0x14 v = some [.registerWrite .state v])
    ∧ ∀ (s : State) (v : Word),
      (s.dev.state = .disabled → exec (.registerWrite .block v) s = .next { s with block := v })
      ∧ (s.dev.state ≠ .disabled → exec (.registerWrite .block v) s = .next s)
      ∧ exec (.registerWrite .attention v) s = .next s ∧ exec (.registerWrite .state v) s = .next s

/-! ## Notices and device control -/

/-- R168: what a raise does with the queue, the dropped-notice count and NOTICE_LOST.
R171: a change of the dropped-notice count requests the device progress record write, in a device that is READY (the end
of the drain included); one that waits for its grant covers it. It is issued as soon as the notice writer has no access
in progress, so at once where a marker read set drops the notice. That an access of its own that waits for its grant
counts as in progress, so that the record write comes after it, is the model's choice (log 48). A FAULTED device writes no
record.
R169: a notice's marker read clear is followed by its body write; one read set drops the notice.
R169: the completion of its body write is followed by the write of its marker as 1, and the notice stays in the queue.
R169: the completion of a notice's marker write takes it from the queue, advances the index and sets NOTICE.
R169: the notice writer begins the oldest notice of the queue, with the 2-byte read of the marker at the next index, when it
has no access in progress and no record write waits; so too after the marker write of the notice before it.
R165, R171: at the end of the drain (ENABLE clear, every segment STOPPED with no start in progress, the queue empty, no access
of the notice writer in progress) the record write is asked for and issued; GrantIssuesAccess gives it DISABLED. -/
def Obligations.NoticesAreQueuedAndWritten : Prop :=
  (∀ (s : State) (n : Notice),
    (s.nw.lost = false → s.nw.queue.length < 8 → s.raise n = { s with nw := { s.nw with queue := s.nw.queue ++ [n] } })
    ∧ (s.nw.lost = true ∨ 8 ≤ s.nw.queue.length →
        (s.raise n).nw.queue = s.nw.queue ∧ (s.raise n).nw.dropped = s.nw.dropped + 1
          ∧ (s.raise n).attention = s.attention ||| 2 ∧ (s.raise n).segs = s.segs ∧ (s.raise n).port = s.port
          ∧ (s.raise n).dev = s.dev
          ∧ (s.dev.state = .ready → (∀ a, s.port.notice = some a → a.op ≠ .devProgress) →
              (s.raise n).nw.recWaiting = true)
          ∧ (s.dev.state ≠ .ready ∨ (∃ a, s.port.notice = some a ∧ a.op = .devProgress) →
              (s.raise n).nw.recWaiting = s.nw.recWaiting)))
    ∧ (∀ s : State, s.dev.state = .ready → s.port.notice = none → s.noticeOnBus = false → s.nw.recWaiting = true →
      s.settle = { s with port := { s.port with notice := some ⟨.devProgress, s.nw.record, 0, []⟩ },
                          nw := { s.nw with recWaiting := false } })
    ∧ (∀ (s : State) (a : Access), s.dev.state = .ready → s.port.notice = some a → s.settle = s)
    -- with no record write asked for: the next access of the oldest notice, the record of the end of the drain, or nothing
    ∧ (∀ (s : State) (slot : Word), s.dev.state = .ready → s.port.notice = none → s.noticeOnBus = false →
      slot = s.nw.ringBase + BitVec.ofNat 32 (16 * s.nw.next) →
      (∀ n rest, s.nw.recWaiting = false → s.nw.queue = n :: rest →
        s.settle = { s with port := { s.port with notice := some (match s.nw.step with
          | .marker => ⟨.noticeMarkerRead, slot, 2, []⟩
          | .body => .write .noticeBody (slot + 2) n.bytes
          | .mark => ⟨.noticeMarkerWrite, slot, 0, [(slot, 1), (slot + 1, 0)]⟩) } })
      ∧ (s.dev.disabling = true → (∀ k, (s.segs.get k).state = .stopped ∧ (s.segs.get k).starting = false) → s.nw.queue = [] →
        s.settle = { s with port := { s.port with notice := some ⟨.devProgress, s.nw.record, 0, []⟩ },
                            nw := { s.nw with recWaiting := false } })
      ∧ (s.nw.recWaiting = false → s.nw.queue = [] →
          (s.dev.disabling = false ∨ ∃ k, (s.segs.get k).state ≠ .stopped ∨ (s.segs.get k).starting = true) →
        s.settle = s))
    ∧ (∀ (s : State) (a : Access) (n : Notice) (rest : List Notice) (lo hi : Byte), s.port.busy = some ⟨.notice, a, false⟩ →
      a.op = .noticeMarkerRead → s.nw.queue = n :: rest → s.dev.state = .ready → s.dev.disabling = false →
      s.port.notice = none → s.nw.recWaiting = false → ∃ t, exec (.accessComplete [lo, hi]) s = .next t
      ∧ t.segs = s.segs ∧ t.nw.next = s.nw.next
      ∧ (lo = 0 ∧ hi = 0 → t.nw.queue = s.nw.queue ∧ t.attention = s.attention ∧ t.nw.dropped = s.nw.dropped
          ∧ t.port.notice = some (Access.write .noticeBody (s.nw.ringBase + BitVec.ofNat 32 (16 * s.nw.next) + 2) n.bytes))
      ∧ (¬(lo = 0 ∧ hi = 0) → t.nw.queue = rest ∧ t.attention = s.attention ||| 2 ∧ t.nw.dropped = s.nw.dropped + 1
          ∧ t.port.notice = some ⟨.devProgress, s.nw.record, 0, []⟩ ∧ t.nw.recWaiting = false))
    ∧ (∀ (s : State) (a : Access) (n : Notice) (rest : List Notice) (slot : Word),
      s.port.busy = some ⟨.notice, a, false⟩ → a.op = .noticeBody → s.nw.queue = n :: rest → s.dev.state = .ready →
      s.port.notice = none → s.nw.recWaiting = false → slot = s.nw.ringBase + BitVec.ofNat 32 (16 * s.nw.next) →
      ∃ t, exec (.accessComplete []) s = .next t
      ∧ t.port.notice = some (Access.mk .noticeMarkerWrite slot 0 [(slot, 1), (slot + 1, 0)])
      ∧ t.nw.queue = s.nw.queue ∧ t.nw.next = s.nw.next ∧ t.nw.dropped = s.nw.dropped ∧ t.attention = s.attention
      ∧ t.segs = s.segs ∧ t.port.busy = none)
    ∧ (∀ (s : State) (a : Access) (n : Notice) (rest : List Notice), s.port.busy = some ⟨.notice, a, false⟩ →
      a.op = .noticeMarkerWrite → s.nw.queue = n :: rest → s.dev.state = .ready → ∃ t, exec (.accessComplete []) s = .next t
      ∧ t.nw.queue = rest ∧ t.nw.next = (if s.nw.next + 1 < s.nw.slots.toNat then s.nw.next + 1 else 0)
      ∧ t.attention = s.attention ||| 1 ∧ t.nw.dropped = s.nw.dropped ∧ t.segs = s.segs ∧ t.port.busy = none
      ∧ (s.port.notice = none → s.nw.recWaiting = false → rest ≠ [] →
          t.port.notice = some ⟨.noticeMarkerRead, s.nw.ringBase + BitVec.ofNat 32 (16 * t.nw.next), 2, []⟩)
      ∧ (s.port.notice = none → s.dev.disabling = true →
          (∀ k, (s.segs.get k).state = .stopped ∧ (s.segs.get k).starting = false) → rest = [] →
          t.port.notice = some ⟨.devProgress, s.nw.record, 0, []⟩))

/-- R163, R164, R174: a control block that fails a check, and an error response to its read, put the device into FAULTED
with the code of the failure and the BLOCK value, set DEVICE_FAULT, and change nothing else. R174, R176: a format other
than 1 gives BAD_FORMAT, any other condition that fails BAD_CONTROL_BLOCK, and a block that meets them all passes.
R163, R164, R171: a control block that passes gives its values to their owners; the device is READY, a record write
waits whose completion sets LOADED, and an earlier device fault is reported and forgotten. -/
def Obligations.LoadEndsReadyOrFaulted : Prop :=
  (∀ (s : State) (a : Access), s.port.busy = some ⟨.device, a, false⟩ → s.dev.state = .loading →
      (∀ (d : List Byte) (code : DevFault), controlCheck s.block d = some code →
        exec (.accessComplete d) s = .next { s with
          dev := { s.dev with state := .faulted, fault := code, faultAddr := s.block, disabling := false,
                              disableAsked := false },
          attention := s.attention ||| 8, port := s.freePort.port })
      ∧ exec .errorResponse s = .next { s with
          dev := { s.dev with state := .faulted, fault := .loadFault, faultAddr := s.block, disabling := false,
                              disableAsked := false },
          attention := s.attention ||| 8, port := s.freePort.port })
    ∧ (∀ (block : Word) (d : List Byte),
      (rdWord d 0 ≠ 1 → controlCheck block d = some .badFormat)
      ∧ (rdWord d 0 = 1 → ¬ControlBlockFits block d → controlCheck block d = some .badControlBlock)
      ∧ (rdWord d 0 = 1 → ControlBlockFits block d → controlCheck block d = none))
    ∧ (∀ (s : State) (a : Access) (d : List Byte), s.port.busy = some ⟨.device, a, false⟩ → s.dev.state = .loading →
      controlCheck s.block d = none → s.port.notice = none → s.nw.queue = [] → ∃ t, exec (.accessComplete d) s = .next t
      ∧ t.dev.state = .ready ∧ t.dev.fault = .none ∧ t.dev.faultAddr = 0
      ∧ t.port.busy = none ∧ t.port.windowLow = rdWord d 4 ∧ t.port.windowHigh = rdWord d 8
      ∧ (∀ k, (t.port.throttle.get k).interval = rdByte d (0x14 + k.toNat))
      ∧ (∀ k, t.segs.get k = { s.segs.get k with
          blockPtr := rdWord d (0x20 + 4 * k.toNat), scanInterval := rdByte d 0x12 })
      ∧ t.nw.ringBase = rdWord d 0x0C ∧ t.nw.slots = rdHalf d 0x10 ∧ t.nw.record = rdWord d 0x18 ∧ t.nw.next = 0
      ∧ t.nw.dropped = 0 ∧ t.nw.lost = false ∧ t.nw.loadedOwed = true
      ∧ t.port.notice = some ⟨.devProgress, rdWord d 0x18, 0, []⟩
      ∧ t.nw.queue = (if s.dev.fault = .none then []
          else [⟨.deviceFault, 0xFF, 0xFF, 0, BitVec.ofNat 8 s.dev.fault.code, 0, s.dev.faultAddr⟩])
      ∧ t.attention = s.attention)

/-- R171, R163, R165: the completion of the device progress record write sets LOADED after a load; the one that carries
DISABLED takes the device to DISABLED, with no attention cause. R169: after another one the notice writer begins, or goes on
with, the oldest notice of the queue.
R170, R158, R168: an error response to the notice writer puts the device into FAULTED with NOTICE_FAULT and the address
of the access; every notice in the queue is dropped and counted, the notice-lost condition is set, nothing is issued any
more, and every running segment is stopped. A sample that such a stop takes may raise, and so drop, one more notice.
R45: that stop makes of each segment unit what a RUN write of 0 to it makes in READY, the segments taken lowest number first
(logs 44 and 7). -/
def Obligations.NoticeWriterResponsesMoveDevice : Prop :=
  (∀ (s : State) (a : Access), s.port.busy = some ⟨.notice, a, false⟩ → a.op = .devProgress → s.dev.state = .ready →
      (s.nw.finalRec = false → ∃ t, exec (.accessComplete []) s = .next t
        ∧ t.attention = (if s.nw.loadedOwed then s.attention ||| 4 else s.attention) ∧ t.nw.loadedOwed = false
        ∧ t.dev = s.dev ∧ t.segs = s.segs ∧ t.nw.queue = s.nw.queue ∧ t.nw.dropped = s.nw.dropped
        ∧ (∀ n rest slot, s.port.notice = none → s.nw.recWaiting = false → s.nw.queue = n :: rest →
          slot = s.nw.ringBase + BitVec.ofNat 32 (16 * s.nw.next) →
          t.port.notice = some (match s.nw.step with
            | .marker => ⟨.noticeMarkerRead, slot, 2, []⟩
            | .body => .write .noticeBody (slot + 2) n.bytes
            | .mark => ⟨.noticeMarkerWrite, slot, 0, [(slot, 1), (slot + 1, 0)]⟩)))
      ∧ (s.nw.finalRec = true → s.nw.loadedOwed = false → ∃ t, exec (.accessComplete []) s = .next t
        ∧ t.dev.state = .disabled ∧ t.dev.enable = false ∧ t.dev.disabling = false ∧ t.dev.fault = s.dev.fault
        ∧ t.attention = s.attention ∧ t.segs = s.segs ∧ t.port.notice = none
        ∧ ∀ k, (t.port.throttle.get k).timer = .stopped))
    ∧ (∀ (s : State) (a : Access), s.port.busy = some ⟨.notice, a, false⟩ → s.dev.state = .ready →
      ∃ t, exec .errorResponse s = .next t
      ∧ t.dev.state = .faulted ∧ t.dev.fault = .noticeFault ∧ t.dev.faultAddr = a.addr ∧ t.dev.disabling = false
      ∧ t.dev.enable = s.dev.enable
      ∧ t.nw.queue = [] ∧ t.nw.lost = true ∧ t.port.notice = none ∧ t.port.busy = none
      ∧ t.attention.getLsbD 3 = true ∧ (s.nw.queue ≠ [] → t.attention.getLsbD 1 = true)
      ∧ ((∀ k, (s.segs.get k).supply.deferred = false) →
          t.nw.dropped = s.nw.dropped + BitVec.ofNat 32 s.nw.queue.length)
      ∧ (∀ k, (s.segs.get k).faultHeld = none → (s.segs.get k).state.running → (t.segs.get k).state = .stopping)
      ∧ (StartsStopped s → ∀ k, ∃ u,
          exec (.runClear k) { s with draws := s.drawsBefore k, dev := { s.dev with disabling := false } } = .next u
          ∧ t.segs.get k = u.segs.get k))

/-! ## The memory port -/

/-- R154, R153: the requester and the source that a grant of an IDLE port serves. -/
def Obligations.GrantFollowsOrder : Prop :=
  ∀ s : State, s.port.busy = none →
    -- line 1: an urgent read, the lowest segment number first
    (∀ k a, (s.segs.get k).waits.urgent = some a → (∀ j, j.toNat < k.toNat → (s.segs.get j).waits.urgent = none) →
      s.chooseRequester = some (.segment k .urgent))
    ∧ ((∀ k, (s.segs.get k).waits.urgent = none) →
      -- line 2 and 3: device control, then the notice writer
      (∀ a, s.port.device = some a → s.chooseRequester = some .device)
      ∧ (∀ a, s.port.device = none → s.port.notice = some a → s.chooseRequester = some .notice)
      ∧ (s.port.device = none → s.port.notice = none →
        -- line 4: a normal request with the throttle timer stopped, the lowest segment number first
        (∀ k src, (s.segs.get k).waits.normalSource = some src → (s.port.throttle.get k).timer = .stopped →
            (∀ j, j.toNat < k.toNat →
              (s.segs.get j).waits.normalSource = none ∨ (s.port.throttle.get j).timer ≠ .stopped) →
            s.chooseRequester = some (.segment k src))
        -- line 5: a normal request with the timer running, the lowest segment number first
        ∧ (∀ k src, (s.segs.get k).waits.normalSource = some src →
            (∀ j, (s.segs.get j).waits.normalSource = none ∨ (s.port.throttle.get j).timer ≠ .stopped) →
            (∀ j, j.toNat < k.toNat → (s.segs.get j).waits.normalSource = none) →
            s.chooseRequester = some (.segment k src))
        ∧ ((∀ k, (s.segs.get k).waits.normalSource = none) → s.chooseRequester = none)))
    -- within a segment: controller, responder, unit in service, chain read
    ∧ ∀ v : Waits, v.normalSource =
        (if v.control.isSome then some .control else if v.responder.isSome then some .responder
         else if v.unit.isSome then some .unit else if v.chain.isSome then some .chain else none)

/-- R151, R155, R157: the grant of a read, or of a write inside the window, issues it to the bus and takes it from its
source; a normal grant loads the segment's throttle timer unless its interval is 0, an urgent one leaves it.
R151, R171: the grant to the notice writer. The 16 bytes of the device progress record are those of its grant: the
device state, DISABLED at the end of the drain (R165, log 30), the fault code, the notice next index and the
dropped-notice count.
R151, R163, R154: the grant to device control. A grant of a BUSY port, or with nothing waiting, changes nothing (the
model's choice, log 3).
R151: a request that arrives only after the grant made at a response is not in that grant; one that waited when the
response returned is (log 32).
R154, R151: where none of those that waited then still waits, the port is IDLE with none waiting, and the grant made is by
the table among all the requests that wait: those that arrive together at an IDLE port are all in it.
R155: at its expiry a throttle timer stops; nothing else changes. A stopped timer's expiry changes nothing either (the
model's choice, log 3). -/
def Obligations.GrantIssuesAccess : Prop :=
  (∀ (s : State) (late : List Requester) (k : Seg) (g : Segment) (src : Source) (a : Access), s.settled →
      s.port.busy = none → s.segs.get k = g → s.granted late = some (.segment k src) → g.waits.access src = some a →
      a.op ≠ .progress →
      (a.op.isWrite = true →
        ∀ p ∈ a.bytes, s.port.windowLow.toNat ≤ p.1.toNat ∧ p.1.toNat < s.port.windowHigh.toNat) →
      exec (.memoryGrant late) s = .next { s.putSeg k { g with waits := g.waits.take src } with
        port := { s.port with
          busy := some ⟨.segment k src, a, false⟩,
          throttle := if src = .urgent then s.port.throttle else s.port.throttle.put k
            { s.port.throttle.get k with
              timer := if (s.port.throttle.get k).interval = 0 then (s.port.throttle.get k).timer
                else .running (s.port.throttle.get k).interval.toNat } } })
    ∧ ((∀ (s : State) (late : List Requester) (a : Access), s.port.busy = none → s.granted late = some .device →
        s.port.device = some a → s.dev.state = .loading →
        exec (.memoryGrant late) s = .next { s with port := { s.port with device := none, busy := some ⟨.device, a, false⟩ } })
      ∧ (∀ (s : State) (late : List Requester) (a : Access), s.port.busy = none → s.granted late = some .notice →
        s.port.notice = some a → s.dev.state = .ready → a.op ≠ .devProgress →
        (a.op.isWrite = true →
          ∀ p ∈ a.bytes, s.port.windowLow.toNat ≤ p.1.toNat ∧ p.1.toNat < s.port.windowHigh.toNat) →
        exec (.memoryGrant late) s = .next { s with
          port := { s.port with notice := none, busy := some ⟨.notice, a, false⟩ }, nw := { s.nw with finalRec := false } })
      ∧ (∀ (s : State) (late : List Requester) (a : Access) (final : Bool), s.port.busy = none →
        s.granted late = some .notice → s.port.notice = some a → s.dev.state = .ready → a.op = .devProgress →
        s.port.windowLow.toNat ≤ s.nw.record.toNat → s.nw.record.toNat + 16 ≤ s.port.windowHigh.toNat →
        (final = true ↔ s.dev.disabling = true ∧ s.nw.queue = []
          ∧ ∀ k, (s.segs.get k).state = .stopped ∧ (s.segs.get k).starting = false) →
        exec (.memoryGrant late) s = .next { s with
          port := { s.port with
            notice := none,
            busy := some ⟨.notice, ⟨.devProgress, s.nw.record, 0, placeAt s.nw.record
              ([if final then 0 else 2, BitVec.ofNat 8 s.dev.fault.code] ++ wrHalf (BitVec.ofNat 16 s.nw.next)
                ++ wrWord s.nw.dropped ++ [0, 0, 0, 0, 0, 0, 0, 0])⟩, false⟩ },
          nw := { s.nw with finalRec := final } })
      ∧ (∀ (s : State) (late : List Requester), s.settled → s.port.busy.isSome = true ∨ s.granted late = none →
        exec (.memoryGrant late) s = .next s))
    ∧ (∀ s : State, s.granted [] = s.chooseRequester
      ∧ (∀ late, (∀ q, q ∈ s.port.waited → q ∉ s.waiting) → s.granted late = s.chooseRequester)
      ∧ ∀ r : Requester, (r ∈ s.port.waited → s.granted [r] = s.chooseRequester)
        ∧ ∀ q, r ∉ s.port.waited → q ∈ s.port.waited → q ∈ s.waiting →
          s.granted [r] = (s.without r).chooseRequester ∧ s.granted [r] ≠ none)
    ∧ (∀ (s : State) (k : Seg), s.settled → exec (.throttleExpiry k) s = .next { s with
      port := { s.port with throttle := s.port.throttle.put k { s.port.throttle.get k with timer := .stopped } } })

/-- R157, R40, R155: a write of a segment, of any source, with a byte outside the window is not issued: WRITE_REFUSED is
raised with the address of its first byte, the segment takes the fault WRITE_REFUSED, and the port is IDLE. The
reference word of the fault is that address too, and for a capture body the address of its slot (log 24). A frame that
the segment drives ends first. The notices of a refusal and of its fault are raised at the refused grant, with the cycle
number held then (log 20).
R43, R40: a refused progress record write raises the notices that waited on it after WRITE_REFUSED (log 43), and faults
its segment; the one made after a fault is followed by SEGMENT_FAULT, and the segment stays FAULTED.
R157, R170: a refused write of the notice writer is its fault NOTICE_FAULT, with the address of the write's first byte.
R45: it makes of each segment unit what a RUN write of 0 to it makes in READY, the segments taken lowest number first (logs
44 and 7).
R157, R154: the port is IDLE again at once, and the requests that waited at the refused grant are in the next; what the
refusal makes due may come later than that grant (log 32). -/
def Obligations.GrantRefusesOutsideWindow : Prop :=
  (∀ (s : State) (late : List Requester) (k : Seg) (g : Segment) (src : Source) (a : Access) (p : Word × Byte)
    (rest : List (Word × Byte)) (ref : Word), s.port.busy = none → s.segs.get k = g →
    s.granted late = some (.segment k src) → src ≠ .urgent → g.waits.access src = some a →
    a.op ≠ .progress → a.op.isWrite = true → a.bytes = p :: rest →
    (∃ q ∈ a.bytes, ¬(s.port.windowLow.toNat ≤ q.1.toNat ∧ q.1.toNat < s.port.windowHigh.toNat)) →
    g.state ≠ .stopped → g.state ≠ .faulted → g.faultHeld = none → s.dev.state = .ready →
    s.nw.lost = false → s.nw.queue.length < 8 → ref = (if a.op = .capBody then a.addr else p.1) →
    ∃ t, exec (.memoryGrant late) s = .next t
    ∧ t.port.busy = none ∧ (t.segs.get k).unit = .none ∧ (t.segs.get k).waits.unit = none
    ∧ (t.segs.get k).waits.responder = none ∧ (t.segs.get k).resp.hands = [] ∧ (t.segs.get k).fault = .writeRefused
    ∧ t.nw.queue = s.nw.queue ++ [{ s.segNotice k .writeRefused 0 with ref := p.1 }]
    ∧ (t.port.throttle.get k).timer = (if (s.port.throttle.get k).interval = 0 then (s.port.throttle.get k).timer
        else .running (s.port.throttle.get k).interval.toNat)
    ∧ (∀ j, j ≠ k → t.segs.get j = s.segs.get j)
    ∧ (g.line.tx = none → (t.segs.get k).state = .faulted ∧ (t.segs.get k).faultOwed = some ref
        ∧ (t.segs.get k).waits = ⟨none, some g.progressWait, none, none, none⟩)
    ∧ (∀ tx, g.line.tx = some tx → (t.segs.get k).state = g.state ∧ (t.segs.get k).line.tx = some tx
        ∧ (t.segs.get k).faultHeld = some ref))
    ∧ (∀ (s : State) (late : List Requester) (k : Seg) (g : Segment) (a : Access), s.port.busy = none →
      s.segs.get k = g → s.granted late = some (.segment k .control) → g.waits.control = some a → a.op = .progress →
      (∃ i, i < 32 ∧ ¬(s.port.windowLow.toNat ≤ (g.blk.progress + BitVec.ofNat 32 i).toNat
        ∧ (g.blk.progress + BitVec.ofNat 32 i).toNat < s.port.windowHigh.toNat)) →
      s.dev.state = .ready → s.nw.lost = false →
      (g.state ≠ .stopped → g.state ≠ .faulted → g.faultHeld = none → g.faultOwed = none → g.line.tx = none →
          s.nw.queue.length + 1 + g.prWait.length ≤ 8 → ∃ t, exec (.memoryGrant late) s = .next t
        ∧ t.port.busy = none ∧ (t.segs.get k).state = .faulted ∧ (t.segs.get k).fault = .writeRefused
        ∧ (t.segs.get k).faultOwed = some g.blk.progress
        ∧ (t.segs.get k).waits = ⟨none, some g.progressWait, none, none, none⟩
        ∧ t.nw.queue = s.nw.queue ++ { s.segNotice k .writeRefused 0 with ref := g.blk.progress }
            :: g.prWait.map (fun c => s.segNotice k c.kind c.detail))
      ∧ (∀ ref, g.state = .faulted → g.faultHeld = none → g.faultOwed = some ref → g.stopOwed = false → g.prWait = [] →
          s.nw.queue.length + 2 ≤ 8 → ∃ t, exec (.memoryGrant late) s = .next t
        ∧ t.port.busy = none ∧ (t.segs.get k).state = .faulted ∧ (t.segs.get k).fault = g.fault
        ∧ (t.segs.get k).faultOwed = none ∧ (t.segs.get k).waits.control = none
        ∧ t.nw.queue = s.nw.queue ++ [{ s.segNotice k .writeRefused 0 with ref := g.blk.progress },
            { s.segNotice k .segmentFault (BitVec.ofNat 8 g.fault.code) with ref := ref }]))
    ∧ (∀ (s : State) (late : List Requester) (a : Access) (addr : Word) (bytes : List Word), s.port.busy = none →
      s.granted late = some .notice → s.port.notice = some a → s.dev.state = .ready → a.op.isWrite = true →
      bytes = (if a.op = .devProgress then (List.range 16).map (fun i => s.nw.record + BitVec.ofNat 32 i)
        else a.bytes.map Prod.fst) →
      bytes.head? = some addr →
      (∃ q ∈ bytes, ¬(s.port.windowLow.toNat ≤ q.toNat ∧ q.toNat < s.port.windowHigh.toNat)) →
      ∃ t, exec (.memoryGrant late) s = .next t
      ∧ t.dev.state = .faulted ∧ t.dev.fault = .noticeFault ∧ t.dev.faultAddr = addr ∧ t.nw.queue = [] ∧ t.nw.lost = true
      ∧ t.port.busy = none ∧ t.port.notice = none ∧ t.attention.getLsbD 3 = true
      ∧ (∀ k, (s.segs.get k).faultHeld = none → (s.segs.get k).state.running → (t.segs.get k).state = .stopping)
      ∧ (StartsStopped s → ∀ k, ∃ u,
          exec (.runClear k) { s with draws := s.drawsBefore k, dev := { s.dev with disabling := false } } = .next u
          ∧ t.segs.get k = u.segs.get k))
    -- a grant that leaves the port IDLE has refused its write
    ∧ ∀ (s t : State) (late : List Requester) (r₀ : Requester), s.port.busy = none → s.granted late = some r₀ →
      exec (.memoryGrant late) s = .next t → t.port.busy = none →
      ∀ r, (r ∈ t.port.waited → r ∈ s.waiting ∧ r ≠ r₀)
        ∧ (r ∈ s.waiting → r ≠ r₀ → r ∈ t.waiting → r ∈ t.port.waited)

/-- R43, R42, R173: a progress record write carries the 32 bytes of the values held at its grant, and covers every
change requested before it. R79: one requested for a cycle end carries the number of the cycle that has ended, unless it
is the record of STOPPED or FAULTED (log 37).
R42: the status word of the record, field by field (layout in 11): the state, STOPPED in the write that the end of
STOPPING asks for (R38), the fault code, the supply level, the ring indices, automatic and forced conserve. -/
def Obligations.ProgressRecordCarriesValues : Prop :=
  (∀ (s : State) (late : List Requester) (k : Seg) (g : Segment) (a : Access), s.port.busy = none → s.segs.get k = g →
    s.granted late = some (.segment k .control) → g.waits.control = some a → a.op = .progress →
    s.port.windowLow.toNat ≤ g.blk.progress.toNat → g.blk.progress.toNat + 32 ≤ s.port.windowHigh.toNat →
    ∃ t bytes, exec (.memoryGrant late) s = .next t
    ∧ t.port.busy = some ⟨.segment k .control, ⟨.progress, g.blk.progress, 0, placeAt g.blk.progress bytes⟩, false⟩
    ∧ bytes = wrWord g.statusWord
        ++ wrWord (if g.stopWrite = true ∨ g.state = .faulted then g.cycle.number
            else match g.prEnded with | some n => n | none => g.cycle.number) ++ wrWord g.counters.overruns ++ wrWord g.counters.arbLosses
        ++ wrWord g.counters.framingFaults ++ wrWord g.counters.strays ++ wrWord g.counters.inbDrops
        ++ wrWord (match g.req.anchor with | some x => x | none => 0)
    ∧ (t.segs.get k).prBus = g.prWait ∧ (t.segs.get k).prWait = [] ∧ (t.segs.get k).prEnded = none
    ∧ (t.segs.get k).waits.control = none
    ∧ (t.segs.get k).waits.unit = g.waits.unit)
    ∧ ∀ g : Segment,
      ((g.statusWord.extractLsb' 0 3).toNat = (if g.stopWrite then SegState.stopped else g.state).code)
      ∧ (g.statusWord.extractLsb' 3 3).toNat = g.fault.code ∧ (g.statusWord.extractLsb' 6 2).toNat = g.supply.level.code
      ∧ (g.statusWord.extractLsb' 8 8).toNat = g.resp.next % 256 ∧ (g.statusWord.extractLsb' 16 10).toNat = g.cap.next % 1024
      ∧ (g.statusWord.extractLsb' 26 4).toNat = 0
      ∧ g.statusWord.getLsbD 30 = g.supply.auto ∧ g.statusWord.getLsbD 31 = g.supply.forced

/-- R159, R160, R151: the response of an access whose result is discarded, error or not, only makes the port IDLE, and
the requests that have arrived by that moment are noted (log 32): those that wait, but not what the source of that
access asked for meanwhile, which it issues only now (R152, R43). R38: in STOPPING the end of the last access ends the
stop. An error response to an urgent read whose answer is gone has no effect either (log 38). An IDLE port takes no
response (the model's choice, log 3). A progress record write that waits does not keep STOPPING from ending: the write
that carries STOPPED takes its place (log 21). -/
def Obligations.DiscardedResponseHasNoEffect : Prop :=
  (∀ (s : State) (b : Busy) (d : List Byte), s.port.busy = some b → b.discard = true →
      b.req = .device ∨ b.req = .notice → s.settled → exec (.accessComplete d) s = .next s.freePort
        ∧ exec .errorResponse s = .next s.freePort)
    ∧ (∀ (s : State) (b : Busy) (d : List Byte) (k : Seg) (src : Source), s.port.busy = some b → b.discard = true →
      b.req = .segment k src → s.settled → (s.segs.get k).calm →
      exec (.accessComplete d) s = .next s.freePort ∧ exec .errorResponse s = .next s.freePort)
    ∧ (∀ (s : State) (b : Busy) (d : List Byte) (k : Seg) (src : Source) (g : Segment) (c : Instr),
      s.port.busy = some b → b.discard = true → b.req = .segment k src → s.segs.get k = g →
      c = .accessComplete d ∨ c = .errorResponse →
      exec c s = .next (s.freePort.afterEvent k g [])
      ∧ (g.state = .stopping → g.faultHeld = none → g.stopWrite = false → g.unit = .none → g.xact = .idle → g.resp.quiet →
        g.waits.urgent = none → g.waits.responder = none → g.waits.unit = none → g.waits.chain = none →
        g.line.tx = none → ∃ t, exec c s = .next t ∧ t.segs.get k = { g with
          stopWrite := true, supply := { g.supply with timer := .stopped },
          waits := { g.waits with control := some g.progressWait } }))
    ∧ (∀ s : State, s.freePort = { s with port := { s.port with busy := none, waited := s.freePort.port.waited } }
      ∧ (∀ r, r ∈ s.freePort.port.waited ↔ r ∈ s.waiting ∧ ∀ b, s.port.busy = some b → b.req ≠ r)
      ∧ (∀ k src, Requester.segment k src ∈ s.waiting ↔ (s.segs.get k).waits.access src ≠ none)
      ∧ (Requester.notice ∈ s.waiting ↔ s.port.notice ≠ none) ∧ (Requester.device ∈ s.waiting ↔ s.port.device ≠ none))
    ∧ (∀ (s : State) (k : Seg) (src : Source) (a : Access), s.serves k src a → s.settled → (s.segs.get k).calm →
      (a.op = .respRecord ∨ a.op = .inbMarkerUrgent) → exec .errorResponse s = .next s.freePort)
    ∧ (∀ (s : State) (d : List Byte), s.settled → s.port.busy = none →
      exec (.accessComplete d) s = .next s ∧ exec .errorResponse s = .next s)

/-! ## The line: each event gives its segment unit a new value, and what that makes due is done -/

/-- R3, R11, R1: a complete character joins the frame in assembly, or begins one after the end of the last; a wrong
parity marks its position, and a dominant stop bit ends the frame as BROKEN, in the last CRC character too (log 12). The
part's own characters, and characters while the receiver is off (log 3), join nothing.
R3, R8: after a header failure, or a first character that is not SYNC, a character is ignored, and a character framing
error is noted and leaves the frame's class.
R1: the parity is right when the eight data bits and the parity bit hold an even number of 1s.
R6, R4: the header test of the character at each position. A CTRL that fails in both ways, with a reserved bit set and
kind code 7, is recorded as reserved bits: that clause is the model's choice (log 11). -/
def Obligations.CharacterJoinsFrame : Prop :=
  (∀ (s : State) (k : Seg) (g : Segment) (c : Byte) (parity stop : Bool), s.segs.get k = g →
      (g.state ≠ .stopped → g.state ≠ .faulted → g.line.tx = none → ∀ a : Assembly,
        ((g.line.asm = some a ∧ a.complete = false ∧ a.broken = false)
          ∨ ((g.line.asm = none ∨ ∃ b, g.line.asm = some b ∧ (b.complete = true ∨ b.broken = true)) ∧ a = Assembly.empty)) →
        a.fail = none →
        exec (.characterComplete k c parity stop) s = .next (s.afterEvent k { g with line := { g.line with
          idle := true,
          asm := some (if stop then
              { a with chars := a.chars ++ [c], marks := if parityOk c parity then a.marks else a.marks ++ [a.chars.length],
                       fail := headerTest (a.chars ++ [c]) a.chars.length, foreign := true }
            else { a with framing := true, broken := true, foreign := true }) } } []))
      ∧ (g.state = .stopped ∨ g.state = .faulted ∨ g.line.tx ≠ none →
          exec (.characterComplete k c parity stop) s = .next (s.afterEvent k g [])))
    ∧ (∀ (s : State) (k : Seg) (g : Segment) (a : Assembly) (c : Byte) (parity stop : Bool), s.segs.get k = g →
      g.state ≠ .stopped → g.state ≠ .faulted → g.line.tx = none → g.line.asm = some a → a.fail.isSome = true →
      a.broken = false →
      exec (.characterComplete k c parity stop) s = .next (s.afterEvent k { g with line := { g.line with
        idle := true, asm := some { a with framing := a.framing || !stop, foreign := true } } } []))
    ∧ (∀ (c : Byte) (parity : Bool), parityOk c parity = !(c.getLsbD 0 ^^ c.getLsbD 1 ^^ c.getLsbD 2 ^^ c.getLsbD 3
        ^^ c.getLsbD 4 ^^ c.getLsbD 5 ^^ c.getLsbD 6 ^^ c.getLsbD 7 ^^ parity))
    ∧ (∀ sync dest src ctrl len hchk : Byte,
      headerTest [sync] 0 = (if sync = 0xB4 then none else some .noSync)
      ∧ headerTest [sync, dest] 1 = (if dest.toNat ≤ 127 then none else some .range)
      ∧ headerTest [sync, dest, src] 2 = (if src.toNat ≤ 127 then none else some .range)
      ∧ headerTest [sync, dest, src, ctrl] 3 =
          (if 32 ≤ ctrl.toNat then some .reservedBits else if ctrl.toNat % 8 = 7 then some .invalidKind else none)
      ∧ headerTest [sync, dest, src, ctrl, len] 4 = (if len.toNat ≤ 64 then none else some .range)
      ∧ headerTest [sync, dest, src, ctrl, len, hchk] 5 =
          (if hchk = 255 - (dest + src + ctrl + len) then none else some .checkMismatch))
    ∧ (∀ (cs : List Byte) (i : Nat), 6 ≤ i → headerTest cs i = none)

/-- R12, R14, R130, R77: the frame gap frees a BUSY line, the end of the reservation a RESERVED one; the hold gap, the
turnaround and the end of a pause-after are reached. Where the line or the unit does not wait for the event, nothing
changes (log 3). -/
def Obligations.LineTimesAreReached : Prop :=
  ∀ (s : State) (k : Seg) (g : Segment), s.segs.get k = g →
    (g.state ≠ .stopped → g.state ≠ .faulted → g.line.tracker = .busy → g.line.idle = true →
      exec (.frameGap k) s = .next (s.afterEvent k { g with line := { g.line with tracker := .free } } []))
    ∧ (g.line.tracker ≠ .busy ∨ g.line.idle = false → exec (.frameGap k) s = .next (s.afterEvent k g []))
    ∧ (g.line.tracker = .reserved → g.line.idle = true →
      exec (.reservationExpiry k) s = .next (s.afterEvent k { g with line := { g.line with tracker := .free } } []))
    ∧ (g.line.tracker ≠ .reserved ∨ g.line.idle = false →
      exec (.reservationExpiry k) s = .next (s.afterEvent k g []))
    ∧ (g.req.gap = .measuring →
      exec (.holdGap k) s = .next (s.afterEvent k { g with req := { g.req with gap := .reached } } []))
    ∧ (g.req.gap ≠ .measuring → exec (.holdGap k) s = .next (s.afterEvent k g []))
    ∧ (∀ p, g.resp.pend = some p →
      exec (.answerTurnaround k) s = .next (s.afterEvent k { g with
        resp := { g.resp with pend := some { p with turn := true } } } []))
    ∧ (g.resp.pend = none → exec (.answerTurnaround k) s = .next (s.afterEvent k g []))
    ∧ (g.cycle.pause = .running →
      exec (.pauseAfterEnd k) s = .next (s.afterEvent k { g with cycle := { g.cycle with pause := .none } } []))
    ∧ (g.cycle.pause ≠ .running → exec (.pauseAfterEnd k) s = .next (s.afterEvent k g []))

/-- R12, R15, R14: a start bit makes the tracker BUSY and ends the idle. One of another device is the reply start of an
awaited answer, and inside the hold gap it ends the group's hold on the line. A segment whose receiver is off (R3) takes
none: nothing changes (the model's choice, log 3). The start bits of the frame received after a
collision, from whose report the gap is yet to be measured, leave the group's hold as it is (log 17).
R130, R137, R21: a start bit of another device abandons an owed answer that has not begun: no answer is pending, none is
sent, and no write-back follows. Under LOG_POLLS a POLL then waits for its filing, with no answer given; the buffer of any
other frame is free. -/
def Obligations.StartBitTakesLine : Prop :=
  (∀ (s : State) (k : Seg) (g : Segment), s.segs.get k = g →
      (g.state ≠ .stopped → g.state ≠ .faulted → g.line.tx ≠ none →
        exec (.startBitTaken k) s = .next (s.afterEvent k { g with
          line := { g.line with tracker := .busy, idle := false } } []))
      ∧ (∀ l w, g.state ≠ .stopped → g.state ≠ .faulted → g.line.tx = none →
          g.GivesUpAnswer { g.line with tracker := .busy, idle := false } l w →
        exec (.startBitTaken k) s = .next (s.afterEvent k { g with
          line := l, resp := w,
          xact := if g.xact = .waiting then .started else g.xact,
          req := { g.req with lineHeld :=
            if g.req.gap = .measuring ∨ g.req.gap = .reached then false else g.req.lineHeld } } []))
      ∧ (g.state = .stopped ∨ g.state = .faulted → exec (.startBitTaken k) s = .next (s.afterEvent k g [])))
    ∧ (∀ (s : State) (k : Seg) (g : Segment) (p : Pend), s.segs.get k = g → g.state ≠ .stopped → g.state ≠ .faulted →
      g.line.tx = none → g.resp.pend = some p → p.begun = false → g.resp.owesNoWrite →
      (∀ a, g.waits.responder = some a → a.op ≠ .writeBack) → ∃ t, exec (.startBitTaken k) s = .next t
      ∧ (t.segs.get k).resp.pend = none ∧ (∀ x, (t.segs.get k).line.tx = some x → x.answer = false)
      ∧ (t.segs.get k).resp.owesNoWrite
      ∧ (∀ a, (t.segs.get k).waits.responder = some a → a.op ≠ .writeBack))

/-- R16, R75, R111: a work frame that loses arbitration leaves the line, the loss is counted in the progress record and
for the entry or the request, and the frame is pending again; a loss beyond the retry limit makes LINE_LOST wait for the
report of the winner's frame (log 16). The characters read back stay as the start of the frame received; after a
mismatch in a start bit no further character comes, and idle is measured from the part's last (R11, log 33).
R75, R111: the loss of a frame driven to its end for an entry or a request already ended by a departure or a stop counts
for it too, and it then ends as decided, with its status or outcome write; a request whose successor is still being
read waits for that read (R124). LINE_STALL and FRAMING_LOST break the group it holds (R126, log 18). That the attempt so
ended is not counted in the attempts used, here and in the outcome bytes, is the model's choice (log 36). -/
def Obligations.ArbitrationLossCounts : Prop :=
  ∀ (s : State) (k : Seg) (g : Segment) (tx : Tx) (pos : Nat) (start : Bool) (l : Line), s.segs.get k = g →
    g.line.tx = some tx → tx.answer = false →
    l = { g.line with tx := none, asm := some (assembleOwn tx.chars pos), idle := if start then true else g.line.idle } →
    (∀ e, g.xact = .sending → g.unit = .entry e →
      exec (.arbitrationLoss k pos start) s = .next (s.afterEvent k { g with
        line := l,
        counters := { g.counters with arbLosses := g.counters.arbLosses + 1 },
        cycle := { g.cycle with losses := g.cycle.losses + 1 },
        xact := if g.cycle.losses + 1 ≤ g.blk.arbLimit.toNat then .ready else .lostReport } []))
    ∧ (∀ r, g.xact = .sending → g.unit = .request r →
      exec (.arbitrationLoss k pos start) s = .next (s.afterEvent k { g with
        line := l,
        counters := { g.counters with arbLosses := g.counters.arbLosses + 1 },
        req := { g.req with losses := g.req.losses + 1, lineHeld := false },
        xact := if g.req.losses + 1 ≤ g.blk.arbLimit.toNat then .ready else .lostReport } []))
    ∧ (∀ e o, g.xact = .ending o → g.unit = .entry e → o ≠ .replied →
      exec (.arbitrationLoss k pos start) s = .next (s.afterEvent k { g with
        line := l,
        counters := { g.counters with arbLosses := g.counters.arbLosses + 1 },
        cycle := { g.cycle with losses := g.cycle.losses + 1, pause := .none },
        xact := .idle, unit := .entry { e with step := .status, outcome := some o },
        waits := { g.waits with unit := some (.write .statusWrite (e.recAddr + 16)
          (Status.bytes (e.newStatus o g.cycle.number) o.code)) } } []))
    ∧ (∀ r o q, g.xact = .ending o → g.unit = .request r → r.step = .serve → r.buf = none →
        q = { g.req with
          losses := g.req.losses + 1, lineHeld := false,
          cond := if (o = .framingLost ∨ o = .lineStall ∨ o = .lineLost ∨ o = .collision) ∧ g.req.cond = .holding
            then .breaking else g.req.cond } →
      (r.succ.reading = false →
        exec (.arbitrationLoss k pos start) s = .next (s.afterEvent k { g with
          line := l,
          counters := { g.counters with arbLosses := g.counters.arbLosses + 1 },
          req := q, xact := .idle,
          unit := .request { r with outcome := some o, step := .outcome, doneCycle := g.cycle.number },
          waits := { g.waits with unit := some ⟨.outcomeWrite, r.addr + 0x90, 0,
            placeAt (r.addr + 0x90) [o.code, BitVec.ofNat 8 r.used, 0, if r.holdUnmet then 4 else 0]
              ++ placeAt (r.addr + 0x98) (wrWord g.cycle.number ++ wrWord r.result)⟩ } } []))
      ∧ (r.succ.reading = true →
        exec (.arbitrationLoss k pos start) s = .next (s.afterEvent k { g with
          line := l,
          counters := { g.counters with arbLosses := g.counters.arbLosses + 1 },
          req := q, xact := .idle, unit := .request { r with outcome := some o } } [])))

/-- R17, R74, R111: a collision fails the attempt without counting an arbitration loss; with attempts left the frame is
ready again, and the last attempt of a poll entry ends it COLLISION, with its status write. The last attempt of a request
ends it COLLISION, with its outcome write, and the group it holds is broken from its next member on (R126, log 18). The
gap and the pause-after then wait for the report of the frame that follows (log 17). After a mismatch in a start bit no
further character comes, and idle is measured from the part's last (R11, log 33).
R74, R112: the collision of a frame driven to its end for a unit already ended by a departure or a stop fails no further
attempt: the entry or the request ends as decided, with its status or outcome write; a request whose successor is still
being read waits for that read (R124). Its attempts used stay as they were, though R17 and R111 make COLLISION a counted
result of an attempt: that an attempt ended by a departure or a stop is not counted is the model's choice (log 36). -/
def Obligations.CollisionFailsAttempt : Prop :=
  ∀ (s : State) (k : Seg) (g : Segment) (tx : Tx) (pos : Nat) (start : Bool) (l : Line), s.segs.get k = g →
    g.line.tx = some tx → tx.answer = false →
    l = { g.line with tx := none, asm := some (assembleOwn tx.chars pos), idle := if start then true else g.line.idle } →
    (∀ e, g.xact = .sending → g.unit = .entry e → g.cycle.attempt < e.cfg.retry.toNat + 1 →
      exec (.collision k pos start) s = .next (s.afterEvent k { g with
        line := l,
        unit := .entry { e with used := e.used + 1 },
        cycle := { g.cycle with attempt := g.cycle.attempt + 1 }, xact := .ready } []))
    ∧ (∀ e, g.xact = .sending → g.unit = .entry e → ¬g.cycle.attempt < e.cfg.retry.toNat + 1 →
      exec (.collision k pos start) s = .next (s.afterEvent k { g with
        line := l,
        unit := .entry { e with used := e.used + 1, step := .status, outcome := some .collision },
        waits := { g.waits with unit := some (.write .statusWrite (e.recAddr + 16)
          (Status.bytes { e.st with state := healthOf e.cfg.threshold e.st.miss e.st.heard } 7)) },
        cycle := { g.cycle with pause := if e.pauseAfter = 0 ∨ g.state = .stopping then .none else .awaiting },
        xact := .idle } []))
    ∧ (∀ r, g.xact = .sending → g.unit = .request r → r.attempt < r.body.limit.toNat →
      exec (.collision k pos start) s = .next (s.afterEvent k { g with
        line := l,
        unit := .request { r with used := r.used + 1, attempt := r.attempt + 1 },
        req := { g.req with gap := .afterReport }, xact := .ready } []))
    ∧ (∀ r, g.xact = .sending → g.unit = .request r → ¬r.attempt < r.body.limit.toNat → r.step = .serve →
        r.buf = none → (r.succ = .none ∨ r.succ = .fresh ∨ r.succ = .unmet) →
      exec (.collision k pos start) s = .next (s.afterEvent k { g with
        line := l,
        unit := .request { r with used := r.used + 1, outcome := some .collision, step := .outcome,
                                  doneCycle := g.cycle.number },
        req := { g.req with gap := .afterReport, cond := if g.req.cond = .holding then .breaking else g.req.cond },
        xact := .idle,
        waits := { g.waits with unit := some ⟨.outcomeWrite, r.addr + 0x90, 0,
          placeAt (r.addr + 0x90) [7, BitVec.ofNat 8 (r.used + 1), 0, if r.holdUnmet then 4 else 0]
            ++ placeAt (r.addr + 0x98) (wrWord g.cycle.number ++ wrWord r.result)⟩ } } []))
    ∧ (∀ e o, g.xact = .ending o → g.unit = .entry e → o ≠ .replied →
      exec (.collision k pos start) s = .next (s.afterEvent k { g with
        line := l, cycle := { g.cycle with pause := .none },
        xact := .idle, unit := .entry { e with step := .status, outcome := some o },
        waits := { g.waits with unit := some (.write .statusWrite (e.recAddr + 16)
          (Status.bytes (e.newStatus o g.cycle.number) o.code)) } } []))
    ∧ (∀ r o q, g.xact = .ending o → g.unit = .request r → r.step = .serve → r.buf = none →
        q = { g.req with
          cond := if (o = .framingLost ∨ o = .lineStall ∨ o = .lineLost ∨ o = .collision) ∧ g.req.cond = .holding
            then .breaking else g.req.cond } →
      (r.succ.reading = false →
        exec (.collision k pos start) s = .next (s.afterEvent k { g with
          line := l, req := q, xact := .idle,
          unit := .request { r with outcome := some o, step := .outcome, doneCycle := g.cycle.number },
          waits := { g.waits with unit := some ⟨.outcomeWrite, r.addr + 0x90, 0,
            placeAt (r.addr + 0x90) [o.code, BitVec.ofNat 8 r.used, 0, if r.holdUnmet then 4 else 0]
              ++ placeAt (r.addr + 0x98) (wrWord g.cycle.number ++ wrWord r.result)⟩ } } []))
      ∧ (r.succ.reading = true →
        exec (.collision k pos start) s = .next (s.afterEvent k { g with
          line := l, req := q, xact := .idle, unit := .request { r with outcome := some o } } [])))

/-- R16, R17, R130: an answer cut by an arbitration loss or a collision is abandoned: it is not pending, it is off the
line, and it owes no write-back. The loss alone is counted. R137, R21: under LOG_POLLS the POLL that it answered waits for
its filing, with no answer given; the buffer of any other frame is free. After a mismatch in a start bit no further
character comes, and idle is measured from the part's last (R11, log 33).
R136, R139: the end of an answer whose frame is in no buffer, a NAK given for want of one or at a set marker, makes nothing
due: the answer is not pending, and it is off the line.
R132: the end of a REPLY sent in full issues the write-back: polls answered raised by 1, and armed 0 for a one-shot
record.
R132, R134, R137, R152: what the end of an answer sent in full makes due, after what is due already: the write-back of a
REPLY, and the filing of an acknowledged SET or NOTICE, whose body write is next. Under LOG_POLLS an answered POLL waits
for its filing turn; every other frame answered leaves its buffer free. R77: the pause-after of an entry that ends
LINE_LOST runs from the end of this answer. -/
def Obligations.AnswerEndsOrIsCut : Prop :=
  (∀ (s : State) (k : Seg) (g : Segment) (tx : Tx) (pos : Nat) (start : Bool), s.segs.get k = g → g.line.tx = some tx →
      tx.answer = true → g.resp.owesNoWrite → (∀ a, g.waits.responder = some a → a.op ≠ .writeBack) →
      (∃ t, exec (.arbitrationLoss k pos start) s = .next t ∧ (t.segs.get k).resp.pend = none
        ∧ (∀ x, (t.segs.get k).line.tx = some x → x.answer = false)
        ∧ (t.segs.get k).counters.arbLosses = g.counters.arbLosses + 1
        ∧ ∀ a, (t.segs.get k).waits.responder = some a → a.op ≠ .writeBack)
      ∧ (∃ t, exec (.collision k pos start) s = .next t ∧ (t.segs.get k).resp.pend = none
        ∧ (∀ x, (t.segs.get k).line.tx = some x → x.answer = false)
        ∧ (t.segs.get k).counters.arbLosses = g.counters.arbLosses
        ∧ ∀ a, (t.segs.get k).waits.responder = some a → a.op ≠ .writeBack))
    -- what the cut answer leaves of its frame and its buffer
    ∧ (∀ (s : State) (k : Seg) (g : Segment) (tx : Tx) (p : Pend) (pos : Nat) (start : Bool) (l : Line) (w : Responder),
      s.segs.get k = g → g.line.tx = some tx → tx.answer = true → g.resp.pend = some p →
      g.AbandonsAnswer p { g.line with
        tx := none, asm := some (assembleOwn tx.chars pos), idle := if start then true else g.line.idle } l w →
      exec (.arbitrationLoss k pos start) s = .next (s.afterEvent k { g with
        line := l, resp := w, counters := { g.counters with arbLosses := g.counters.arbLosses + 1 } } [])
      ∧ exec (.collision k pos start) s = .next (s.afterEvent k { g with line := l, resp := w } []))
    ∧ (∀ (s : State) (k : Seg) (g : Segment) (tx : Tx) (p : Pend) (r : RespRecord), s.segs.get k = g →
      g.line.tx = some tx → tx.answer = true → tx.kind = .reply → g.resp.pend = some p → p.ans = .reply r →
      g.state ≠ .stopped → g.state ≠ .faulted → g.faultHeld = none → g.waits.responder = none → g.resp.due = [] →
      (∀ b, s.port.busy = some b → b.req ≠ .segment k .responder) → ∃ t, exec (.transmitEnd k) s = .next t
      ∧ (t.segs.get k).resp.pend = none ∧ (t.segs.get k).waits.responder = some ⟨.writeBack, r.addr, 0,
          (if r.oneShot then [(r.addr, 0)] else []) ++ placeAt (r.addr + 4) (wrWord (r.count + 1))⟩)
    ∧ ∀ (s : State) (k : Seg) (g : Segment) (tx : Tx) (p : Pend) (l : Line) (c : Cycle) (wb : List NormalDue),
      s.segs.get k = g → g.line.tx = some tx → tx.answer = true → tx.kind = .reply ∨ tx.kind = .ack ∨ tx.kind = .nak →
      g.resp.pend = some p →
      l = { g.line with tx := none, idle := true } →
      c = { g.cycle with pause := match g.unit with
        | .entry _ => if g.xact = .lostAnswer then .running else g.cycle.pause
        | .request _ => g.cycle.pause
        | .none => g.cycle.pause } →
      wb = (match p.ans with | .reply r => [.writeBack ⟨r.addr, r.count + 1, r.oneShot⟩] | .undecided => [] | .ack => [] | .nak => []) →
      ((∀ b, p.buf = some b → g.resp.hands.find? (Hand.owes b) = none) →
        exec (.transmitEnd k) s = .next (s.afterEvent k { g with
          line := l, cycle := c, resp := { g.resp with pend := none, due := g.resp.due ++ wb } } []))
      ∧ (∀ b h, p.buf = some b → g.resp.hands.find? (Hand.owes b) = some h →
        (h.stage = .answering → g.blk.logPolls = true → g.blk.inbSlots ≠ 0 →
          exec (.transmitEnd k) s = .next (s.afterEvent k { g with
            line := l, cycle := c,
            resp := { g.resp with
              pend := none, due := g.resp.due ++ wb,
              hands := updFirst (Hand.owes b) (fun x => { x with
                stage := .queued,
                given := match p.ans with | .reply _ => .reply | .ack => .ack | .undecided => .nak | .nak => .nak })
                g.resp.hands } } []))
        ∧ (h.stage = .cleared →
          exec (.transmitEnd k) s = .next (s.afterEvent k { g with
            line := l, cycle := c,
            resp := { g.resp with
              pend := none, due := g.resp.due ++ wb ++ [.filing],
              hands := updFirst (Hand.owes b) (fun x => { x with stage := .bodyDue, given := .ack }) g.resp.hands } } []))
        ∧ (h.stage ≠ .cleared → ¬(h.stage = .answering ∧ g.blk.logPolls = true ∧ g.blk.inbSlots ≠ 0) →
          exec (.transmitEnd k) s = .next (s.afterEvent k { g with
            line := l.release b, cycle := c,
            resp := { g.resp with
              pend := none, due := g.resp.due ++ wb, hands := dropFirst (Hand.owes b) g.resp.hands } } [])))

/-- R12, R15, R111, R117: at the end of the part's POLL or SET the tracker is RESERVED and its answer is awaited; an
ANNOUNCE reserves nothing and its request ends OK, with its outcome write. Nothing on the line: nothing changes (log 3).
R35, R37, R13: the frame of a unit that a departure from LOCKED or a stop has ended is driven to its end; the unit then
ends with the outcome o that this gave it, with its status write (R60) or its outcome write (R112). The attempt is not
counted as used (log 36). -/
def Obligations.TransmitEndAwaitsAnswer : Prop :=
  ∀ (s : State) (k : Seg) (g : Segment), s.segs.get k = g →
    (∀ tx, g.line.tx = some tx → tx.answer = false → (tx.kind = .poll ∨ tx.kind = .set) → g.xact = .sending →
      exec (.transmitEnd k) s = .next (s.afterEvent k { g with
        line := { g.line with tx := none, idle := true, tracker := .reserved }, xact := .waiting } []))
    ∧ (∀ tx r, g.line.tx = some tx → tx.answer = false → tx.kind = .announce → g.xact = .sending →
      g.unit = .request r → r.step = .serve → r.buf = none → (r.succ = .none ∨ r.succ = .fresh ∨ r.succ = .unmet) →
      exec (.transmitEnd k) s = .next (s.afterEvent k { g with
        line := { g.line with tx := none, idle := true }, xact := .idle,
        req := { g.req with gap := .measuring },
        unit := .request { r with used := r.used + 1, outcome := some .ok, step := .outcome,
                                  doneCycle := g.cycle.number },
        waits := { g.waits with unit := some ⟨.outcomeWrite, r.addr + 0x90, 0,
          placeAt (r.addr + 0x90) [0, BitVec.ofNat 8 (r.used + 1), 0, if r.holdUnmet then 4 else 0]
            ++ placeAt (r.addr + 0x98) (wrWord g.cycle.number ++ wrWord r.result)⟩ } } []))
    ∧ (∀ tx o l, g.line.tx = some tx → tx.answer = false → g.xact = .ending o → o ≠ .replied →
      l = { g.line with tx := none, idle := true, tracker :=
        if tx.kind = .poll ∨ tx.kind = .set ∨ tx.kind = .notice then .reserved else g.line.tracker } →
      (∀ e, g.unit = .entry e →
        exec (.transmitEnd k) s = .next (s.afterEvent k { g with
          line := l, xact := .idle, cycle := { g.cycle with pause := .none },
          unit := .entry { e with step := .status, outcome := some o },
          waits := { g.waits with unit := some (.write .statusWrite (e.recAddr + 16)
            (Status.bytes (e.newStatus o g.cycle.number) o.code)) } } []))
      ∧ (∀ r, g.unit = .request r → r.step = .serve → r.buf = none →
          (r.succ = .none ∨ r.succ = .fresh ∨ r.succ = .unmet) →
        exec (.transmitEnd k) s = .next (s.afterEvent k { g with
          line := l, xact := .idle,
          req := { g.req with cond :=
            if (o = .framingLost ∨ o = .lineStall ∨ o = .lineLost ∨ o = .collision) ∧ g.req.cond = .holding then .breaking
            else g.req.cond },
          unit := .request { r with outcome := some o, step := .outcome, doneCycle := g.cycle.number },
          waits := { g.waits with unit := some ⟨.outcomeWrite, r.addr + 0x90, 0,
            placeAt (r.addr + 0x90) [o.code, BitVec.ofNat 8 r.used, 0, if r.holdUnmet then 4 else 0]
              ++ placeAt (r.addr + 0x98) (wrWord g.cycle.number ++ wrWord r.result)⟩ } } [])))
    ∧ (g.line.tx = none → exec (.transmitEnd k) s = .next (s.afterEvent k g []))

/-- R15, R74, R59: the expiry of W fails the attempt NO_REPLY: with attempts left the POLL is ready again, and the last
attempt ends the entry, with its status write, or the request, with its outcome write (R111); its group is not broken
(R126). Where no answer is awaited, or its frame has started, nothing changes (log 3).
R131, R133: at the deadline R an undecided answer becomes NAK; for a SET or NOTICE the inbound drops counter rises, and
its filing ends there (the model's choice, log 41). A decided answer, or none, is left alone (log 3). -/
def Obligations.WaitsExpire : Prop :=
  (∀ (s : State) (k : Seg) (g : Segment), s.segs.get k = g →
      (∀ e, g.xact = .waiting → g.unit = .entry e → g.cycle.attempt < e.cfg.retry.toNat + 1 →
        exec (.wExpiry k) s = .next (s.afterEvent k { g with
          unit := .entry { e with used := e.used + 1 },
          cycle := { g.cycle with attempt := g.cycle.attempt + 1 }, xact := .ready } []))
      ∧ (∀ e, g.xact = .waiting → g.unit = .entry e → ¬g.cycle.attempt < e.cfg.retry.toNat + 1 →
        exec (.wExpiry k) s = .next (s.afterEvent k { g with
          unit := .entry { e with used := e.used + 1, step := .status, outcome := some .noReply },
          waits := { g.waits with unit := some (.write .statusWrite (e.recAddr + 16)
            (Status.bytes { e.st with
              miss := if e.st.miss = 255 then 255 else e.st.miss + 1,
              state := healthOf e.cfg.threshold (if e.st.miss = 255 then 255 else e.st.miss + 1) e.st.heard } 4)) },
          cycle := { g.cycle with pause := if e.pauseAfter = 0 ∨ g.state = .stopping then .none else .running },
          xact := .idle } []))
      ∧ (∀ r, g.xact = .waiting → g.unit = .request r → r.attempt < r.body.limit.toNat →
        exec (.wExpiry k) s = .next (s.afterEvent k { g with
          unit := .request { r with used := r.used + 1, attempt := r.attempt + 1 },
          req := { g.req with gap := .measuring }, xact := .ready } []))
      ∧ (∀ r, g.xact = .waiting → g.unit = .request r → ¬r.attempt < r.body.limit.toNat → r.step = .serve → r.buf = none →
          (r.succ = .none ∨ r.succ = .fresh ∨ r.succ = .unmet) →
        exec (.wExpiry k) s = .next (s.afterEvent k { g with
          unit := .request { r with used := r.used + 1, outcome := some .noReply, step := .outcome,
                                    doneCycle := g.cycle.number },
          req := { g.req with gap := .measuring }, xact := .idle,
          waits := { g.waits with unit := some ⟨.outcomeWrite, r.addr + 0x90, 0,
            placeAt (r.addr + 0x90) [4, BitVec.ofNat 8 (r.used + 1), 0, if r.holdUnmet then 4 else 0]
              ++ placeAt (r.addr + 0x98) (wrWord g.cycle.number ++ wrWord r.result)⟩ } } []))
      ∧ (g.xact ≠ .waiting → exec (.wExpiry k) s = .next (s.afterEvent k g [])))
    ∧ (∀ (s : State) (k : Seg) (g : Segment), s.segs.get k = g →
      (∀ p, g.resp.pend = some p → p.ans = .undecided → p.kind = .poll →
        exec (.responderDeadline k) s = .next (s.afterEvent k { g with
          resp := { g.resp with pend := some { p with ans := .nak, read := .none } } } []))
      ∧ (∀ p, g.resp.pend = some p → p.ans = .undecided → p.kind ≠ .poll →
        exec (.responderDeadline k) s = .next (s.afterEvent k { g with
          counters := { g.counters with inbDrops := g.counters.inbDrops + 1 },
          resp := { g.resp with
            pend := some { p with ans := .nak, read := .none },
            hands := updFirst (fun h => h.stage == .wantRead || h.stage == .reading)
              (fun h => { h with stage := .refused }) g.resp.hands } } []))
      ∧ (g.resp.pend = none ∨ (∃ p, g.resp.pend = some p ∧ p.ans ≠ .undecided) →
        exec (.responderDeadline k) s = .next (s.afterEvent k g [])))

/-! ## Frame reports -/

/-- R29, R30, R31, R22: a report in ACQUIRING moves the good-frame count, and locks the segment when the count reaches
the acquisition count; the first lock of a run begins the first cycle. In SETTLING, STALLED and STOPPING a report moves
no count. No frame is handed over.
R3, R8, R40: with no frame in assembly, with the receiver off, or while a fault waits for the end of a frame, a report
changes nothing (log 3).
R14, R77, R75: in every running state and in STOPPING, the report after a collision starts the hold gap and the
pause-after (log 17), and the report of the winner's frame starts the pause-after of a lost entry, whose LINE_LOST is
then written once no answer is owed to the winner (log 16). A winner whose frame is a POLL to the part: the entry waits
for the answer.
R140, R125: a frame after a collision that is addressed to the part ends the group's hold on the line; when it is a POLL
answered, the group's frame is not begun, at the hold gap either. Any other frame leaves the hold (log 17). -/
def Obligations.FrameReportCountsTowardsLock : Prop :=
  (∀ (s : State) (k : Seg) (g : Segment) (a : Assembly), s.segs.get k = g → g.line.asm = some a → g.faultHeld = none →
      g.awaitsNoReport →
      (g.state = .acquiring → a.cls = .good → g.good + 1 < g.blk.acq.toNat →
        exec (.frameReport k) s = .next (s.afterEvent k { g with line := g.line.reported a, good := g.good + 1 } []))
      ∧ (g.state = .acquiring → a.cls ≠ .good →
        exec (.frameReport k) s = .next (s.afterEvent k { g with line := g.line.reported a, good := 0 } []))
      ∧ (g.state = .acquiring → a.cls = .good → g.blk.acq.toNat ≤ g.good + 1 → ∃ t, exec (.frameReport k) s = .next t
        ∧ (t.segs.get k).state = .locked ∧ (t.segs.get k).prWait = g.prWait ++ [⟨.segmentLocked, 1⟩]
        ∧ (t.segs.get k).waits.control = some g.progressWait ∧ (t.segs.get k).line.framing = 0
        ∧ (g.everLocked = false → g.unit = .none → g.cycle.point = .notBegun →
            (t.segs.get k).cycle.number = g.cycle.number + 1))
      ∧ (g.state = .settling ∨ g.state = .stalled ∨ g.state = .stopping →
        exec (.frameReport k) s = .next (s.afterEvent k { g with line := g.line.reported a } [])))
    ∧ (∀ (s : State) (k : Seg) (g : Segment), s.segs.get k = g →
      (g.line.asm = none ∨ g.state = .stopped ∨ g.state = .faulted ∨ g.faultHeld ≠ none) →
      exec (.frameReport k) s = .next (s.afterEvent k g []))
    -- what waits for the report; n and c are the good-frame count and the consecutive framing-fault count after it
    ∧ (∀ (s : State) (k : Seg) (g : Segment) (a : Assembly) (n c : Nat), s.segs.get k = g → g.line.asm = some a →
      g.faultHeld = none →
      ((g.state = .settling ∨ g.state = .stalled ∨ g.state = .stopping) ∧ n = g.good ∧ c = g.line.framing
        ∨ g.state = .acquiring ∧ a.cls ≠ .good ∧ n = 0 ∧ c = g.line.framing
        ∨ g.state = .acquiring ∧ a.cls = .good ∧ g.good + 1 < g.blk.acq.toNat ∧ n = g.good + 1 ∧ c = g.line.framing
        ∨ g.state = .locked ∧ g.xact ≠ .started ∧ a.framingFault = false ∧ n = g.good
          ∧ (a.cls ≠ .good ∧ c = g.line.framing
            ∨ a.cls = .good ∧ g.blk.ownIndex (destOf a.chars) = none ∧ destOf a.chars ≠ 0 ∧ g.blk.monitor = false
              ∧ c = 0)) →
      exec (.frameReport k) s = .next (s.afterEvent k { g with
        line := { g.line.reported a with framing := c },
        good := n,
        req := { g.req with
          gap := if g.req.gap = .afterReport then .measuring else g.req.gap,
          lineHeld := if g.req.gap = .afterReport ∧ (a.cls = .good ∨ a.cls = .damaged)
              ∧ g.blk.ownIndex (destOf a.chars) ≠ none then false else g.req.lineHeld },
        cycle := { g.cycle with pause :=
          if g.cycle.pause = .awaiting then .running
          else match g.unit with
            | .entry _ => if g.xact = .lostReport then .running else g.cycle.pause
            | .request _ => g.cycle.pause
            | .none => g.cycle.pause },
        xact := if g.xact = .lostReport then .lostAnswer else g.xact } []))
    ∧ (∀ (s : State) (k : Seg) (g : Segment) (a : Assembly) (e : EntryUnit) (i : Nat), s.segs.get k = g →
      g.line.asm = some a → g.faultHeld = none → g.state = .locked → g.unit = .entry e → g.xact = .lostReport →
      a.framingFault = false → a.cls = .good → kindOf a.chars = some .poll → g.blk.ownIndex (destOf a.chars) = some i →
      g.blk.respTable ≠ 0 → g.resp.pend = none → g.line.freeBuf.isSome = true →
      ∃ t p, exec (.frameReport k) s = .next t ∧ (t.segs.get k).unit = .entry e ∧ (t.segs.get k).xact = .lostAnswer
        ∧ (t.segs.get k).cycle.pause = .running ∧ (t.segs.get k).waits.unit = g.waits.unit
        ∧ (t.segs.get k).resp.pend = some p ∧ p.kind = .poll ∧ p.src = srcOf a.chars ∧ p.begun = false)
    ∧ (∀ (s : State) (k : Seg) (g : Segment) (a : Assembly) (r : ReqUnit) (i : Nat), s.segs.get k = g →
      g.line.asm = some a → g.line.tx = none → g.line.tracker = .busy → g.faultHeld = none → g.state = .locked →
      g.unit = .request r → g.xact = .ready → g.req.gap = .afterReport → a.framingFault = false → a.cls = .good →
      kindOf a.chars = some .poll → g.blk.ownIndex (destOf a.chars) = some i → g.resp.pend = none →
      g.line.freeBuf.isSome = true →
      ∃ t u p, exec (.frameReport k) s = .next t ∧ (t.segs.get k).req.lineHeld = false
        ∧ (t.segs.get k).req.gap = .measuring ∧ (t.segs.get k).xact = .ready ∧ (t.segs.get k).line.tx = none
        ∧ (t.segs.get k).resp.pend = some p ∧ p.begun = false
        ∧ exec (.holdGap k) t = .next u ∧ (u.segs.get k).req.gap = .reached ∧ (u.segs.get k).xact = .ready
        ∧ (u.segs.get k).line.tx = none)

/-- R20, R32, R19, R43: a framing fault in LOCKED is counted; the third in a row moves the segment to ACQUIRING, with
the LOCK_LOST notice owed to the record write. A report that is neither a fault nor GOOD keeps the count. One report
counts one fault at most (log 10). A framing fault in an awaited answer is counted too, and fails the attempt.
R8: the class of a frame reported. R19: which reports are framing faults.
R30: with acquisition count 0 a lock loss locks the segment again at once, after the notice of the change into
ACQUIRING.
R35, R87, R60: a lock loss ends the poll entry whose answer is awaited, or whose POLL waits, FRAMING_LOST: no further
attempt, and a status write that leaves all but the state and the outcome as read. A request in service ends so too,
with its outcome write, and the group it holds is broken from its next member on (R126, log 18). The attempt that ends
so is not counted as used (log 36). The report goes to the segment controller first: when the third fault is the awaited
answer itself, the unit ends FRAMING_LOST and the answer is not judged (log 14).
R35, R130: an owed answer not begun is abandoned. -/
def Obligations.FramingFaultsLoseLock : Prop :=
  (∀ (s : State) (k : Seg) (g : Segment) (a : Assembly), s.segs.get k = g → g.line.asm = some a → g.faultHeld = none →
      g.awaitsNoReport → g.state = .locked → g.xact ≠ .started →
      (a.framingFault = true → a.cls ≠ .good → g.line.framing + 1 < 3 →
        exec (.frameReport k) s = .next (s.afterEvent k { g with
          line := { g.line.reported a with framing := g.line.framing + 1 },
          counters := { g.counters with framingFaults := g.counters.framingFaults + 1 } } []))
      ∧ (∀ l r, a.framingFault = true → 3 ≤ g.line.framing + 1 → g.blk.acq ≠ 0 → g.unit = .none → g.xact = .idle →
          g.GivesUpAnswer (g.line.reported a) l r →
        exec (.frameReport k) s = .next (s.afterEvent k { g with
          line := { l with framing := 0 }, resp := r,
          counters := { g.counters with framingFaults := g.counters.framingFaults + 1 },
          departed := .lockLoss, state := .acquiring, good := 0,
          waits := { g.waits with control := some g.progressWait },
          prWait := g.prWait ++ [⟨.lockLost, 0⟩] } []))
      ∧ (∀ l r, a.framingFault = true → a.cls ≠ .good → 3 ≤ g.line.framing + 1 → g.blk.acq = 0 → g.everLocked = true →
          g.unit = .none → g.xact = .idle → g.GivesUpAnswer (g.line.reported a) l r →
        exec (.frameReport k) s = .next (s.afterEvent k { g with
          line := { l with framing := 0 }, resp := r,
          counters := { g.counters with framingFaults := g.counters.framingFaults + 1 },
          departed := .lockLoss, state := .locked, good := 0,
          waits := { g.waits with control := some g.progressWait },
          prWait := g.prWait ++ [⟨.lockLost, 0⟩, ⟨.segmentLocked, 0⟩] } []))
      ∧ (a.framingFault = false → a.cls ≠ .good →
        exec (.frameReport k) s = .next (s.afterEvent k { g with line := g.line.reported a } [])))
    ∧ (∀ (s : State) (k : Seg) (g : Segment) (a : Assembly) (e : EntryUnit) (l : Line) (w : Responder),
      s.segs.get k = g → g.line.asm = some a → g.faultHeld = none → g.awaitsNoReport → g.state = .locked →
      (g.xact = .waiting ∨ g.xact = .ready ∨ g.xact = .started) → g.unit = .entry e →
      g.GivesUpAnswer (g.line.reported a) l w → a.framingFault = true → 3 ≤ g.line.framing + 1 → g.blk.acq ≠ 0 →
      exec (.frameReport k) s = .next (s.afterEvent k { g with
        line := { l with framing := 0 }, resp := w,
        counters := { g.counters with framingFaults := g.counters.framingFaults + 1 },
        departed := .lockLoss, state := .acquiring, good := 0, xact := .idle,
        unit := .entry { e with step := .status, outcome := some .framingLost },
        cycle := { g.cycle with pause := .none },
        waits := { g.waits with
          control := some g.progressWait,
          unit := some (.write .statusWrite (e.recAddr + 16)
            (Status.bytes { e.st with state := healthOf e.cfg.threshold e.st.miss e.st.heard } 8)) },
        prWait := g.prWait ++ [⟨.lockLost, 0⟩] } []))
    ∧ (∀ (s : State) (k : Seg) (g : Segment) (a : Assembly) (r : ReqUnit) (l : Line) (w : Responder),
      s.segs.get k = g → g.line.asm = some a → g.faultHeld = none → g.awaitsNoReport → g.state = .locked →
      (g.xact = .waiting ∨ g.xact = .ready ∨ g.xact = .started) → g.unit = .request r → r.step = .serve → r.buf = none →
      (r.succ = .none ∨ r.succ = .fresh ∨ r.succ = .unmet) → g.GivesUpAnswer (g.line.reported a) l w →
      a.framingFault = true → 3 ≤ g.line.framing + 1 → g.blk.acq ≠ 0 →
      exec (.frameReport k) s = .next (s.afterEvent k { g with
        line := { l with framing := 0 }, resp := w,
        counters := { g.counters with framingFaults := g.counters.framingFaults + 1 },
        departed := .lockLoss, state := .acquiring, good := 0, xact := .idle,
        unit := .request { r with outcome := some .framingLost, step := .outcome, doneCycle := g.cycle.number },
        req := { g.req with cond := if g.req.cond = .holding then .breaking else g.req.cond },
        waits := { g.waits with
          control := some g.progressWait,
          unit := some ⟨.outcomeWrite, r.addr + 0x90, 0,
            placeAt (r.addr + 0x90) [8, BitVec.ofNat 8 r.used, 0, if r.holdUnmet then 4 else 0]
              ++ placeAt (r.addr + 0x98) (wrWord g.cycle.number ++ wrWord r.result)⟩ },
        prWait := g.prWait ++ [⟨.lockLost, 0⟩] } []))
    ∧ (∀ (s : State) (k : Seg) (g : Segment) (a : Assembly) (e : EntryUnit), s.segs.get k = g → g.line.asm = some a →
      g.faultHeld = none → g.awaitsNoReport → g.state = .locked → g.xact = .started → g.unit = .entry e →
      a.framingFault = true → a.cls ≠ .good → a.cls ≠ .damaged → g.line.framing + 1 < 3 →
      g.cycle.attempt < e.cfg.retry.toNat + 1 →
      exec (.frameReport k) s = .next (s.afterEvent k { g with
        line := { g.line.reported a with framing := g.line.framing + 1 },
        counters := { g.counters with framingFaults := g.counters.framingFaults + 1 },
        xact := .ready, unit := .entry { e with used := e.used + 1 },
        cycle := { g.cycle with attempt := g.cycle.attempt + 1 } } []))
    ∧ ∀ a : Assembly,
      (a.broken = true → a.cls = .broken)
      ∧ (a.broken = false → a.fail = some .noSync → a.cls = .noSync)
      ∧ (∀ cause, a.broken = false → a.fail = some cause → cause ≠ .noSync → a.cls = .badHeader cause)
      ∧ (a.broken = false → a.fail = none → a.cls =
          (if 6 ≤ a.chars.length ∧ a.chars.length = 8 + (lenOf a.chars).toNat then
            (if crcGood a.chars then .good else .damaged) else .broken))
      ∧ (a.framingFault = true ↔ (a.own = 0 ∨ a.foreign = true) ∧ (a.framing = true ∨ (a.broken = false
          ∧ (a.fail = some .noSync ∨ a.fail = some .checkMismatch ∨ a.fail = some .reservedBits))))

/-- R22, R23, R131, R133, R138, R139: the takers of a GOOD frame that is not awaited, in LOCKED: l is the line once the
frame is reported, b the buffer the frame goes into (R21: buffer 0 when free, else buffer 1, else none).
R10, R129: own address 0 is always the part's, and own addresses 1 and 2 under MULTI_ADDRESS alone. -/
def Obligations.GoodFrameTakers : Prop :=
  (∀ (s : State) (k : Seg) (g : Segment) (a : Assembly) (l : Line), s.segs.get k = g → g.line.asm = some a →
    g.faultHeld = none → g.awaitsNoReport → g.state = .locked → g.xact ≠ .started → a.cls = .good →
    a.framingFault = false → l = { g.line.reported a with framing := 0 } →
    -- a stray: an answer nobody awaits at an own address, or a POLL, SET or NOTICE to DEST 0
    ((((g.blk.ownIndex (destOf a.chars)).isSome = true
          ∧ (kindOf a.chars = some .reply ∨ kindOf a.chars = some .ack ∨ kindOf a.chars = some .nak))
        ∨ (g.blk.ownIndex (destOf a.chars) = none ∧ destOf a.chars = 0
          ∧ (kindOf a.chars = some .poll ∨ kindOf a.chars = some .set ∨ kindOf a.chars = some .notice))) →
      exec (.frameReport k) s = .next (s.afterEvent k { g with
        line := l, counters := { g.counters with strays := g.counters.strays + 1 } } []))
    -- a POLL to own address n, stored in a free buffer: its answer is pending
    ∧ (∀ n b, g.blk.ownIndex (destOf a.chars) = some n → kindOf a.chars = some .poll → g.resp.pend = none →
        g.line.freeBuf = some b →
      exec (.frameReport k) s = .next (s.afterEvent k { g with
        line := l.store b a.frame,
        resp := { g.resp with
          pend := some { k := n, own := destOf a.chars, src := srcOf a.chars, kind := .poll,
                         ans := if g.blk.respTable = 0 then .nak else .undecided,
                         read := if g.blk.respTable = 0 then .none else .owed,
                         turn := false, begun := false, buf := some b },
          hands := g.resp.hands ++ [⟨b, .pollSeen, .none, g.cycle.number, .answering⟩] } } []))
    -- a POLL to an own address with both buffers occupied: counted as dropped, and not answered
    ∧ ((g.blk.ownIndex (destOf a.chars)).isSome = true → kindOf a.chars = some .poll → g.line.freeBuf = none →
      exec (.frameReport k) s = .next (s.afterEvent k { g with
        line := l, counters := { g.counters with inbDrops := g.counters.inbDrops + 1 } } []))
    -- a SET or NOTICE to own address n, stored in a free buffer
    ∧ (∀ n kind b, g.blk.ownIndex (destOf a.chars) = some n → kindOf a.chars = some kind → (kind = .set ∨ kind = .notice) →
        g.resp.pend = none → g.line.freeBuf = some b →
      exec (.frameReport k) s = .next (s.afterEvent k { g with
        line := l.store b a.frame,
        resp := { g.resp with
          pend := some { k := n, own := destOf a.chars, src := srcOf a.chars, kind := kind,
                         ans := if g.blk.inbSlots = 0 then .nak else .undecided, read := .none,
                         turn := false, begun := false, buf := some b },
          hands := g.resp.hands ++ [⟨b, if kind = .set then .set else .notice, .none, g.cycle.number,
            if g.blk.inbSlots = 0 then .refused else .wantRead⟩] } } []))
    -- a SET or NOTICE to own address n with both buffers occupied: counted as dropped and answered NAK
    ∧ (∀ n kind, g.blk.ownIndex (destOf a.chars) = some n → kindOf a.chars = some kind → (kind = .set ∨ kind = .notice) →
        g.resp.pend = none → g.line.freeBuf = none →
      exec (.frameReport k) s = .next (s.afterEvent k { g with
        line := l,
        counters := { g.counters with inbDrops := g.counters.inbDrops + 1 },
        resp := { g.resp with
          pend := some { k := n, own := destOf a.chars, src := srcOf a.chars, kind := kind, ans := .nak, read := .none,
                         turn := false, begun := false, buf := none } } } []))
    -- an ANNOUNCE to an own address has no taker
    ∧ ((g.blk.ownIndex (destOf a.chars)).isSome = true → kindOf a.chars = some .announce →
      exec (.frameReport k) s = .next (s.afterEvent k { g with line := l } []))
    -- a frame for filing: an ANNOUNCE to DEST 0 under ACCEPT_BROADCAST; under MONITOR a REPLY, ACK or NAK to DEST 0 and
    -- every frame for another device
    ∧ (∀ ek, g.blk.ownIndex (destOf a.chars) = none →
        ((ek = .announce ∧ destOf a.chars = 0 ∧ kindOf a.chars = some .announce ∧ g.blk.acceptBroadcast = true)
          ∨ (ek = .monitored ∧ g.blk.monitor = true ∧ destOf a.chars = 0
              ∧ (kindOf a.chars = some .reply ∨ kindOf a.chars = some .ack ∨ kindOf a.chars = some .nak))
          ∨ (ek = .monitored ∧ g.blk.monitor = true ∧ destOf a.chars ≠ 0 ∧ (kindOf a.chars).isSome = true)) →
      (∀ b, g.line.freeBuf = some b → g.blk.inbSlots ≠ 0 →
        exec (.frameReport k) s = .next (s.afterEvent k { g with
          line := l.store b a.frame,
          resp := { g.resp with hands := g.resp.hands ++ [⟨b, ek, .none, g.cycle.number, .queued⟩] } } []))
      ∧ (∀ b, g.line.freeBuf = some b → g.blk.inbSlots = 0 →
        exec (.frameReport k) s = .next (s.afterEvent k { g with line := l } []))
      ∧ (g.line.freeBuf = none →
        exec (.frameReport k) s = .next (s.afterEvent k { g with
          line := l, counters := { g.counters with inbDrops := g.counters.inbDrops + 1 } } [])))
    -- a frame nobody takes
    ∧ (g.blk.ownIndex (destOf a.chars) = none →
        ((destOf a.chars = 0 ∧ kindOf a.chars = some .announce ∧ g.blk.acceptBroadcast = false)
          ∨ (g.blk.monitor = false ∧ destOf a.chars = 0
              ∧ (kindOf a.chars = some .reply ∨ kindOf a.chars = some .ack ∨ kindOf a.chars = some .nak))
          ∨ (g.blk.monitor = false ∧ destOf a.chars ≠ 0)) →
      exec (.frameReport k) s = .next (s.afterEvent k { g with line := l } [])))
    ∧ ∀ (l : Line) (f : RxFrame),
      l.freeBuf = (if l.buf0 = none then some .b0 else if l.buf1 = none then some .b1 else none)
      ∧ l.store .b0 f = { l with buf0 := some f } ∧ l.store .b1 f = { l with buf1 := some f }
      ∧ ∀ (b : SegBlock) (addr : Byte), b.ownIndex addr =
        (if addr = b.own0 then some 0
         else if b.multi = true ∧ addr = b.own1 then some 1
         else if b.multi = true ∧ addr = b.own2 then some 2 else none)

/-- R22, R20: the report of an awaited answer in LOCKED goes to the transaction machine, whatever its class; it counts
once as a framing fault where it is one, and a frame that fails its header with a character framing error too is one
(log 10).
R73, R54, R55: the result of an awaited answer of a poll entry, by the first line that applies; R115, R116 for a
request, and which REPLY is kept for the record.
R74, R76, R21: a GOOD or taken REPLY ends the entry REPLIED and begins its capture with the marker read; DUPLICATE and
REFUSED end it with the status write; a failed attempt is followed by the next, or the last one ends the entry; an
answer with no free buffer is dropped and counted. R111, R115, R14: the same for a request, whose exchange ends here:
an attempt that fails is followed by the next, and the last one, with or without a frame and a buffer, ends it. The outcome
write of a REPLY kept for the record is in ChainAndGroupReadsDecide. -/
def Obligations.AwaitedAnswerJudged : Prop :=
  (∀ (s : State) (k : Seg) (g : Segment) (a : Assembly), s.segs.get k = g → g.line.asm = some a →
      g.faultHeld = none → g.awaitsNoReport → g.state = .locked → g.xact = .started →
      (a.framingFault = true → g.line.framing + 1 < 3) →
      exec (.frameReport k) s = .next (s.afterEvent k
        (Segment.answerReported { g with
          line := { g.line.reported a with framing :=
            if a.framingFault then g.line.framing + 1 else if a.cls = .good then 0 else g.line.framing },
          counters := { g.counters with framingFaults :=
            if a.framingFault then g.counters.framingFaults + 1 else g.counters.framingFaults } }
          (if a.cls = .good ∨ a.cls = .damaged then some a.frame else none)) []))
    ∧ (∀ e : EntryUnit, e.judge none = .badReply)
    ∧ (∀ (e : EntryUnit) (f : RxFrame), e.judge (some f) =
      (if srcOf f.chars ≠ e.cfg.addr then .badReply
       else if kindOf f.chars ≠ some .reply ∧ kindOf f.chars ≠ some .nak then .badReply
       else if kindOf f.chars = some .nak then (if f.good then .refused else .badReply)
       else if f.good = false ∧ e.cfg.acceptDamaged = false then .badReply
       else if e.cfg.expectSeq = true ∧ e.st.lastSeq = some (seqOf f.chars) then .duplicate else .replied))
    ∧ (∀ r : ReqUnit, r.judge none = .badReply)
    ∧ (∀ (r : ReqUnit) (f : RxFrame),
      r.judge (some f) =
        (if srcOf f.chars ≠ r.body.target then .badReply
         else if kindOf f.chars = some .nak then (if f.good then .refused else .badReply)
         else if f.good = true ∧ (r.body.kind = some .pollOnce ∧ kindOf f.chars = some .reply
            ∨ r.body.kind = some .set ∧ kindOf f.chars = some .ack) then .ok else .badReply)
      ∧ (r.keeps f = true ↔ r.body.kind = some .pollOnce ∧ kindOf f.chars = some .reply ∧ srcOf f.chars = r.body.target
          ∧ (f.good = true ∨ r.body.limit.toNat ≤ r.attempt)))
    -- a poll entry
    ∧ (∀ (g : Segment) (e : EntryUnit), g.unit = .entry e →
      (∀ f b, e.judge (some f) = .replied → g.line.freeBuf = some b →
        g.answerReported (some f) = { g with
          line := g.line.store b f, xact := .idle,
          unit := .entry { e with buf := some b, seq := seqOf f.chars, used := e.used + 1, step := .capMarker,
                                  outcome := some .replied },
          cycle := { g.cycle with pause := if e.pauseAfter = 0 ∨ g.state = .stopping then .none else .running },
          waits := { g.waits with
            unit := some ⟨.capMarkerRead, g.blk.capBase + BitVec.ofNat 32 (80 * g.cap.next), 2, []⟩ } })
      ∧ (∀ f b o, e.judge (some f) = o → (o = .duplicate ∨ o = .refused) → g.line.freeBuf = some b →
        g.answerReported (some f) = { g with
          xact := .idle, unit := .entry { e with used := e.used + 1, step := .status, outcome := some o },
          cycle := { g.cycle with pause := if e.pauseAfter = 0 ∨ g.state = .stopping then .none else .running },
          waits := { g.waits with unit := some (.write .statusWrite (e.recAddr + 16)
            (Status.bytes (EntryUnit.newStatus { e with used := e.used + 1 } o g.cycle.number) o.code)) } })
      ∧ (∀ f d, (f = none ∧ d = 0 ∨ (∃ x, f = some x ∧ g.line.freeBuf = none) ∧ d = 1
            ∨ (∃ x b, f = some x ∧ g.line.freeBuf = some b ∧ e.judge f = .badReply) ∧ d = 0) →
        (g.cycle.attempt < e.cfg.retry.toNat + 1 →
          g.answerReported f = { g with
            counters := { g.counters with inbDrops := g.counters.inbDrops + d },
            xact := .ready, unit := .entry { e with used := e.used + 1 },
            cycle := { g.cycle with attempt := g.cycle.attempt + 1 } })
        ∧ (¬g.cycle.attempt < e.cfg.retry.toNat + 1 →
          g.answerReported f = { g with
            counters := { g.counters with inbDrops := g.counters.inbDrops + d },
            xact := .idle, unit := .entry { e with used := e.used + 1, step := .status, outcome := some .badReply },
            cycle := { g.cycle with pause := if e.pauseAfter = 0 ∨ g.state = .stopping then .none else .running },
            waits := { g.waits with unit := some (.write .statusWrite (e.recAddr + 16)
              (Status.bytes (EntryUnit.newStatus { e with used := e.used + 1 } .badReply g.cycle.number) 5)) } })))
    -- a request: an attempt that fails with one left, and the end of the request
    ∧ (∀ (g : Segment) (r : ReqUnit), g.unit = .request r →
      (∀ f d, (f = none ∧ d = 0 ∨ (∃ x, f = some x ∧ g.line.freeBuf = none) ∧ d = 1
            ∨ (∃ x b, f = some x ∧ g.line.freeBuf = some b ∧ r.judge f = .badReply) ∧ d = 0) →
          r.attempt < r.body.limit.toNat →
        g.answerReported f = { g with
          counters := { g.counters with inbDrops := g.counters.inbDrops + d },
          req := { g.req with gap := .measuring }, xact := .ready,
          unit := .request { r with used := r.used + 1, attempt := r.attempt + 1 } })
      ∧ (∀ f d, (f = none ∧ d = 0 ∨ (∃ x, f = some x ∧ g.line.freeBuf = none) ∧ d = 1) →
          ¬r.attempt < r.body.limit.toNat →
        g.answerReported f = Segment.decideReq
          { g with counters := { g.counters with inbDrops := g.counters.inbDrops + d },
                   req := { g.req with gap := .measuring } } { r with used := r.used + 1 } .badReply)
      ∧ (∀ f b o, r.judge (some f) = o → (o = .ok ∨ o = .refused ∨ ¬r.attempt < r.body.limit.toNat) →
          g.line.freeBuf = some b →
        g.answerReported (some f) =
          if r.keeps f then
            Segment.decideReq { g with req := { g.req with gap := .measuring }, line := g.line.store b f,
                                       unit := .request { r with buf := some b } }
              { r with buf := some b, used := r.used + 1 } o
          else Segment.decideReq { g with req := { g.req with gap := .measuring } } { r with used := r.used + 1 } o))

/-! ## Stall, settling, timers, supply -/

/-- R33, R35, R28: a stall report moves ACQUIRING or LOCKED to STALLED, with the LINE_STALL notice owed to the record
write; in SETTLING and STOPPING it is only noted. A frame in assembly is reported first (R18, log 15), and counts once as a
framing fault where a character framing error is among what ends it or fails it (R20, log 10).
R35, R87, R60: a stall of a LOCKED segment ends the poll entry or the request in service LINE_STALL: a transaction that
waits, or whose answer is awaited, at once, with its status or outcome write, and one whose frame is on the line at that
frame's end. The attempt is not counted as used (log 36). R130: an owed answer not begun is abandoned. R126: the group
that the request holds is broken, from its next member on (log 18).
R34, R28, R30: the stall's end moves STALLED to ACQUIRING, or with acquisition count 0 to LOCKED; in any other state it
only clears the note. A stall report or a stall-end report that cannot arise changes nothing (log 3). That idle ends at
the stall report and begins at the stall's end is the model's reading (log 34): R11 does not speak of a stall. -/
def Obligations.StallReportAndStallEnd : Prop :=
  (∀ (s : State) (k : Seg) (g : Segment), s.segs.get k = g → g.faultHeld = none → g.line.stalled = false →
      (g.state = .acquiring → g.line.asm = none →
        exec (.stallReport k) s = .next (s.afterEvent k { g with
          line := { g.line with stalled := true, idle := false, framing := 0 }, state := .stalled, good := 0,
          waits := { g.waits with control := some g.progressWait }, prWait := g.prWait ++ [⟨.lineStall, 0⟩] } []))
      ∧ (∀ a, g.state = .acquiring → g.line.asm = some a → a.cls ≠ .good → g.awaitsNoReport →
        exec (.stallReport k) s = .next (s.afterEvent k { g with
          line := { g.line.reported a with stalled := true, idle := false, framing := 0 }, state := .stalled, good := 0,
          waits := { g.waits with control := some g.progressWait }, prWait := g.prWait ++ [⟨.lineStall, 0⟩] } []))
      ∧ (g.state = .settling ∨ g.state = .stopping → g.line.asm = none →
        exec (.stallReport k) s = .next (s.afterEvent k { g with
          line := { g.line with stalled := true, idle := false } } [])))
    -- LOCKED: l' and n are the line and the framing faults once the frame in assembly, if any, has been reported; l and w
    -- the line and the responder once an owed answer not begun has been given up
    ∧ (∀ (s : State) (k : Seg) (g : Segment) (l l' : Line) (w : Responder) (n : Word), s.segs.get k = g →
      g.faultHeld = none → g.line.stalled = false → g.state = .locked → g.GivesUpAnswer l' l w →
      (g.line.asm = none ∧ l' = g.line ∧ n = g.counters.framingFaults
        ∨ (∃ a, g.line.asm = some a ∧ a.cls ≠ .good ∧ a.framingFault = true ∧ g.line.framing + 1 < 3
            ∧ g.xact ≠ .started ∧ g.awaitsNoReport ∧ l' = g.line.reported a ∧ n = g.counters.framingFaults + 1)) →
      (g.unit = .none → g.xact = .idle →
        exec (.stallReport k) s = .next (s.afterEvent k { g with
          line := { l with stalled := true, idle := false, framing := 0 }, resp := w,
          counters := { g.counters with framingFaults := n },
          departed := .stall, state := .stalled, good := 0,
          waits := { g.waits with control := some g.progressWait }, prWait := g.prWait ++ [⟨.lineStall, 0⟩] } []))
      ∧ (∀ e, g.unit = .entry e → (g.xact = .waiting ∨ g.xact = .ready ∨ g.xact = .started) →
        exec (.stallReport k) s = .next (s.afterEvent k { g with
          line := { l with stalled := true, idle := false, framing := 0 }, resp := w,
          counters := { g.counters with framingFaults := n },
          departed := .stall, state := .stalled, good := 0, xact := .idle,
          unit := .entry { e with step := .status, outcome := some .lineStall },
          cycle := { g.cycle with pause := .none },
          waits := { g.waits with
            control := some g.progressWait,
            unit := some (.write .statusWrite (e.recAddr + 16)
              (Status.bytes { e.st with state := healthOf e.cfg.threshold e.st.miss e.st.heard } 9)) },
          prWait := g.prWait ++ [⟨.lineStall, 0⟩] } []))
      ∧ (∀ r, g.unit = .request r → (g.xact = .waiting ∨ g.xact = .ready ∨ g.xact = .started) →
          r.step = .serve → r.buf = none → (r.succ = .none ∨ r.succ = .fresh ∨ r.succ = .unmet) →
        exec (.stallReport k) s = .next (s.afterEvent k { g with
          line := { l with stalled := true, idle := false, framing := 0 }, resp := w,
          counters := { g.counters with framingFaults := n },
          departed := .stall, state := .stalled, good := 0, xact := .idle,
          unit := .request { r with outcome := some .lineStall, step := .outcome, doneCycle := g.cycle.number },
          req := { g.req with cond := if g.req.cond = .holding then .breaking else g.req.cond },
          waits := { g.waits with
            control := some g.progressWait,
            unit := some ⟨.outcomeWrite, r.addr + 0x90, 0,
              placeAt (r.addr + 0x90) [9, BitVec.ofNat 8 r.used, 0, if r.holdUnmet then 4 else 0]
                ++ placeAt (r.addr + 0x98) (wrWord g.cycle.number ++ wrWord r.result)⟩ },
          prWait := g.prWait ++ [⟨.lineStall, 0⟩] } []))
      ∧ (∀ e, g.unit = .entry e → g.xact = .sending →
        exec (.stallReport k) s = .next (s.afterEvent k { g with
          line := { l with stalled := true, idle := false, framing := 0 }, resp := w,
          counters := { g.counters with framingFaults := n },
          departed := .stall, state := .stalled, good := 0, xact := .ending .lineStall,
          waits := { g.waits with control := some g.progressWait }, prWait := g.prWait ++ [⟨.lineStall, 0⟩] } []))
      ∧ (∀ r, g.unit = .request r → g.xact = .sending →
        exec (.stallReport k) s = .next (s.afterEvent k { g with
          line := { l with stalled := true, idle := false, framing := 0 }, resp := w,
          counters := { g.counters with framingFaults := n },
          departed := .stall, state := .stalled, good := 0, xact := .ending .lineStall,
          req := { g.req with cond := if g.req.cond = .holding then .breaking else g.req.cond },
          waits := { g.waits with control := some g.progressWait }, prWait := g.prWait ++ [⟨.lineStall, 0⟩] } [])))
    ∧ (∀ (s : State) (k : Seg) (g : Segment), s.segs.get k = g → g.faultHeld = none →
      (g.state = .stalled → g.line.stalled = true → g.blk.acq ≠ 0 →
        exec (.stallEnd k) s = .next (s.afterEvent k { g with
          line := { g.line with stalled := false, idle := true, framing := 0 }, state := .acquiring, good := 0,
          waits := { g.waits with control := some g.progressWait } } []))
      ∧ (g.state = .stalled → g.line.stalled = true → g.blk.acq = 0 → ∃ t, exec (.stallEnd k) s = .next t
        ∧ (t.segs.get k).state = .locked ∧ (t.segs.get k).prWait = g.prWait ++ [⟨.segmentLocked, 0⟩]
        ∧ (t.segs.get k).line.stalled = false)
      ∧ (g.state ≠ .stalled → g.state ≠ .stopped → g.state ≠ .faulted → g.line.stalled = true →
        exec (.stallEnd k) s = .next (s.afterEvent k { g with
          line := { g.line with stalled := false, idle := true } } []))
      ∧ (g.line.stalled = false → exec (.stallEnd k) s = .next (s.afterEvent k g []))
      ∧ (g.line.stalled = true → exec (.stallReport k) s = .next (s.afterEvent k g [])))

/-- R28, R143, R145, R146, R30: at settle expiry the first sample gives the level, from the thresholds of the steps that
the two comparators are set to, and starts the sample timer, and the segment leaves SETTLING by the first line of the
table. In any other state the event does not arise (log 3).
R147, R146: this sample acts on automatic conserve and raises a notice as every sample does (SampleSetsLevelAndConserve), so
the first sample of a run raises one when it finds the supply below the low threshold.
R30, R31, R105, R69: a quiet interval locks a segment in ACQUIRING whatever the good-frame count; at the first lock of a
run the chain head is read, the scan timer is started and the first cycle begins with the read of its first entry. -/
def Obligations.SettlingAndQuietIntervalLock : Prop :=
  (∀ (s : State) (k : Seg) (g : Segment) (mv : Nat), s.segs.get k = g → g.faultHeld = none →
      (g.state = .settling → ∃ t, exec (.settleExpiry k mv) s = .next t
        ∧ (t.segs.get k).state = (if g.line.stalled then .stalled else if g.blk.acq = 0 then .locked else .acquiring)
        ∧ (t.segs.get k).supply.level = (if mv < 17000 + 1000 * g.supply.weakCmp then .weak
            else if mv < 17000 + 1000 * g.supply.lowCmp then .low else .ok)
        ∧ (t.segs.get k).supply.timer = .running 500
        ∧ (t.segs.get k).waits.control = some g.progressWait
        ∧ (t.segs.get k).prWait = g.prWait ++
            (if g.line.stalled then [⟨.lineStall, 0⟩] else if g.blk.acq = 0 then [⟨.segmentLocked, 0⟩] else [])
        ∧ (g.line.stalled = false → g.blk.acq ≠ 0 → (t.segs.get k).good = 0))
      ∧ (∀ (w : Work) (u : Segment), g.state = .settling →
          w = (s.work k).sample ⟨decide (17000 + 1000 * g.supply.lowCmp ≤ mv), decide (17000 + 1000 * g.supply.weakCmp ≤ mv)⟩ →
          u = { w.seg with
            supply := { w.seg.supply with timer := .running 500 }, line := { g.line with framing := 0 },
            waits := { g.waits with control := some g.progressWait } } →
        (g.line.stalled = true →
          exec (.settleExpiry k mv) s = .next (s.afterEvent k
            { u with state := .stalled, good := 0, prWait := g.prWait ++ [⟨.lineStall, 0⟩] } w.notices))
        ∧ (g.line.stalled = false → g.blk.acq ≠ 0 →
          exec (.settleExpiry k mv) s = .next (s.afterEvent k { u with state := .acquiring, good := 0 } w.notices))
        ∧ (g.line.stalled = false → g.blk.acq = 0 → g.everLocked = false →
          exec (.settleExpiry k mv) s = .next (s.afterEvent k
            (Segment.examineHead { u with
              state := .locked, everLocked := true, prWait := g.prWait ++ [⟨.segmentLocked, 0⟩],
              cycle := { g.cycle with held := true } }) w.notices)))
      ∧ (g.state ≠ .settling → exec (.settleExpiry k mv) s = .next (s.afterEvent k g [])))
    -- the examination of the chain head
    ∧ (∀ g : Segment,
      (g.blk.chainHead = 0 → g.examineHead = g)
      ∧ (g.blk.chainHead ≠ 0 → g.examineHead = { g with
          req := { g.req with
            chain := .exam,
            scanTimer := if g.scanInterval = 0 then .stopped else .running g.scanInterval.toNat },
          waits := { g.waits with chain := some ⟨.headState, g.blk.chainHead + 0x0E, 1, []⟩ } }))
    ∧ (∀ (s : State) (k : Seg) (g : Segment), s.segs.get k = g → g.faultHeld = none →
      (g.state = .acquiring → g.line.idle = true → ∃ t, exec (.quietInterval k) s = .next t
        ∧ (t.segs.get k).state = .locked ∧ (t.segs.get k).prWait = g.prWait ++ [⟨.segmentLocked, 2⟩]
        ∧ (t.segs.get k).waits.control = some g.progressWait ∧ (t.segs.get k).line.framing = 0
        ∧ (g.everLocked = false → g.unit = .none → g.cycle.point = .notBegun → g.blk.pollLength ≠ 0 →
            (t.segs.get k).cycle.number = g.cycle.number + 1 ∧ (t.segs.get k).cycle.index = 0
            ∧ (t.segs.get k).cycle.timer =
                (if g.blk.period = 0 then .stopped else .running g.blk.period.toNat)
            ∧ (t.segs.get k).waits.unit = some ⟨.entryRead, g.blk.pollList, 2, []⟩
            ∧ (g.blk.chainHead ≠ 0 →
                (t.segs.get k).waits.chain = some ⟨.headState, g.blk.chainHead + 0x0E, 1, []⟩
                ∧ (t.segs.get k).req.scanTimer =
                    (if g.scanInterval = 0 then .stopped else .running g.scanInterval.toNat))))
      ∧ (g.state ≠ .acquiring ∨ g.line.idle = false → exec (.quietInterval k) s = .next (s.afterEvent k g [])))

/-- R81, R82: an expiry of the cycle timer in RUNNING counts an overrun and raises CYCLE_OVERRUN with the poll index; in
WAITING the expiry flag is set, and the next cycle begins as soon as it is due. A stopped timer does not expire (log 3).
R105, R106: an expiry of the scan timer requests a chain read and leaves the timer running: an idle read begins with the
anchor's link, and one in progress notes one more. With a successor ready, a record current or no anchor it is
discarded. -/
def Obligations.CycleAndScanTimersExpire : Prop :=
  (∀ (s : State) (k : Seg) (g : Segment), s.segs.get k = g →
      (∀ n, g.cycle.timer = .running n → g.cycle.state = .running →
        exec (.cycleTimerExpiry k) s = .next (s.afterEvent k { g with
          cycle := { g.cycle with timer := .stopped, expired := true },
          counters := { g.counters with overruns := g.counters.overruns + 1 } }
          [s.segNotice k .cycleOverrun (BitVec.ofNat 8 g.cycle.index)]))
      ∧ (∀ n, g.cycle.timer = .running n → g.cycle.state ≠ .running →
        exec (.cycleTimerExpiry k) s = .next (s.afterEvent k { g with
          cycle := { g.cycle with timer := .stopped, expired := true } } []))
      ∧ (g.cycle.timer = .stopped → exec (.cycleTimerExpiry k) s = .next (s.afterEvent k g [])))
    ∧ (∀ (s : State) (k : Seg) (g : Segment), s.segs.get k = g →
      (∀ n a, g.req.scanTimer = .running n → g.stopWrite = false → g.req.chain = .idle → g.req.ready = false →
          g.req.current = none → g.req.anchor = some a →
        exec (.scanTimerExpiry k) s = .next (s.afterEvent k { g with
          req := { g.req with chain := .link },
          waits := { g.waits with chain := some ⟨.chainLink, a, 4, []⟩ } } []))
      ∧ (∀ n, g.req.scanTimer = .running n → g.stopWrite = false → (g.req.chain = .link ∨ ∃ a, g.req.chain = .state a) →
        exec (.scanTimerExpiry k) s = .next (s.afterEvent k { g with req := { g.req with more := true } } []))
      ∧ (g.req.chain = .idle → (g.req.ready = true ∨ g.req.current.isSome = true ∨ g.req.anchor = none) →
        exec (.scanTimerExpiry k) s = .next (s.afterEvent k g []))
      ∧ (g.req.scanTimer = .stopped → exec (.scanTimerExpiry k) s = .next (s.afterEvent k g [])))

/-- R146, R147: each sample sets the level by the first line that applies, acts on automatic conserve and the recovery
count, and raises at most one notice, with the code of the level before; a CONSERVE request leaves automatic conserve and
the recovery count as they are. -/
def Obligations.SampleSetsLevelAndConserve : Prop :=
  (∀ (w : Work) (r : Readings) (l : Level),
    l = (if r.weak = false then .weak else if r.low = false then .low else .ok) →
    w.sample r = { w with
      seg := { w.seg with supply := { w.seg.supply with
        level := l,
        auto := if l = .weak then true
          else if w.seg.supply.auto = true ∧ 2 ≤ w.seg.supply.recovery + 1 then false else w.seg.supply.auto,
        recovery := if l = .weak then 0
          else if w.seg.supply.auto = true then
            (if 2 ≤ w.seg.supply.recovery + 1 then 0 else w.seg.supply.recovery + 1)
          else w.seg.supply.recovery } },
      notices := w.notices ++
        (match w.seg.supply.level, l with
         | .ok, .low => [⟨.supplyLow, BitVec.ofNat 8 w.k.toNat, 0xFF, 0, 0, w.seg.cycle.number, 0⟩]
         | .ok, .weak => [⟨.supplyWeak, BitVec.ofNat 8 w.k.toNat, 0xFF, 0, 0, w.seg.cycle.number, 0⟩]
         | .low, .weak => [⟨.supplyWeak, BitVec.ofNat 8 w.k.toNat, 0xFF, 0, 1, w.seg.cycle.number, 0⟩]
         | .low, .ok => [⟨.supplyOk, BitVec.ofNat 8 w.k.toNat, 0xFF, 0, 1, w.seg.cycle.number, 0⟩]
         | .weak, .ok => [⟨.supplyOk, BitVec.ofNat 8 w.k.toNat, 0xFF, 0, 2, w.seg.cycle.number, 0⟩]
         | .weak, .low => []
         | .ok, .ok => []
         | .low, .low => []
         | .weak, .weak => []) })
    ∧ ∀ (g : Segment) (r : ReqUnit), r.body.kind = some .conserve →
        (g.serveReq r).supply.auto = g.supply.auto ∧ (g.serveReq r).supply.recovery = g.supply.recovery

/-- R145, R150: an expiry of the sample timer loads it again with 500 ms and takes a sample; during a sweep the sample
is deferred. A stopped timer does not expire (log 3). R143: a comparator reads "at or above" when the supply is not
below the threshold of its step, 17.0 V to 24.0 V in steps of 1 V.
R149, R122, R113: a step of the sweep that reads at or above becomes the highest met; after step 7 the comparator is
back at the weak step, and the request is decided OK with the highest step met, or 0FFH. A sample that the sweep
deferred is then taken with the comparator back at the weak step. R124: a request that holds a group and whose successor is
still being read waits for that read, with its outcome decided. A sweep that is not running takes no step (log 3). -/
def Obligations.SampleTimerAndSweepSteps : Prop :=
  (∀ (s : State) (k : Seg) (g : Segment) (mv : Nat) (r : Readings) (w : Work), s.segs.get k = g →
      w = { s.work k with seg := { g with supply := { g.supply with timer := .running 500 } } } →
      r = ⟨decide (17000 + 1000 * g.supply.lowCmp ≤ mv), decide (17000 + 1000 * g.supply.weakCmp ≤ mv)⟩ →
      (∀ n, g.supply.timer = .running n → g.supply.sweep = .idle →
        exec (.sampleTimerExpiry k mv) s = .next (s.afterEvent k (w.sample r).seg (w.sample r).notices))
      ∧ (∀ n step best, g.supply.timer = .running n → g.supply.sweep = .sweeping step best →
        exec (.sampleTimerExpiry k mv) s = .next (s.afterEvent k { g with
          supply := { g.supply with timer := .running 500, deferred := true } } []))
      ∧ (g.supply.timer = .stopped → exec (.sampleTimerExpiry k mv) s = .next (s.afterEvent k g [])))
    ∧ (∀ (s : State) (k : Seg) (g : Segment) (mv next : Nat) (met : Bool), s.segs.get k = g →
      met = decide (17000 + 1000 * g.supply.weakCmp ≤ mv) →
      (∀ n best, g.supply.sweep = .sweeping n best → n < 7 →
        exec (.sweepStep k mv next) s = .next (s.afterEvent k { g with
          supply := { g.supply with sweep := .sweeping (n + 1) (if met then some n else best), weakCmp := n + 1 } } []))
      ∧ (∀ best q, g.supply.sweep = .sweeping 7 best → g.supply.deferred = false → g.unit = .request q →
          q.step = .serve → q.buf = none → (q.succ = .none ∨ q.succ = .fresh ∨ q.succ = .unmet) →
        exec (.sweepStep k mv next) s = .next (s.afterEvent k { g with
          supply := { g.supply with sweep := .idle, weakCmp := g.blk.weakStep.toNat },
          xact := .idle,
          unit := .request { q with
            result := (match (if met then some 7 else best) with | some n => BitVec.ofNat 32 n | none => 0xFF),
            outcome := some .ok, step := .outcome, doneCycle := g.cycle.number },
          waits := { g.waits with unit := some ⟨.outcomeWrite, q.addr + 0x90, 0,
            placeAt (q.addr + 0x90) [0, BitVec.ofNat 8 q.used, 0, if q.holdUnmet then 4 else 0]
              ++ placeAt (q.addr + 0x98) (wrWord g.cycle.number ++
                  wrWord (match (if met then some 7 else best) with | some n => BitVec.ofNat 32 n | none => 0xFF))⟩ } }
          []))
      ∧ (∀ best q, g.supply.sweep = .sweeping 7 best → g.supply.deferred = false → g.unit = .request q →
          q.step = .serve → q.succ.reading = true →
        exec (.sweepStep k mv next) s = .next (s.afterEvent k { g with
          supply := { g.supply with sweep := .idle, weakCmp := g.blk.weakStep.toNat }, xact := .idle,
          unit := .request { q with
            result := (match (if met then some 7 else best) with | some n => BitVec.ofNat 32 n | none => 0xFF),
            outcome := some .ok } } []))
      ∧ (∀ best w r, g.supply.sweep = .sweeping 7 best → g.supply.deferred = true →
          w = { s.work k with seg := Segment.sweepOver g (if met then some 7 else best) } →
          r = ⟨decide (17000 + 1000 * g.supply.lowCmp ≤ next), decide (17000 + 1000 * g.blk.weakStep.toNat ≤ next)⟩ →
        exec (.sweepStep k mv next) s = .next (s.afterEvent k
          (Work.sample { w with seg := { w.seg with supply := { w.seg.supply with deferred := false } } } r).seg
          (Work.sample { w with seg := { w.seg with supply := { w.seg.supply with deferred := false } } } r).notices))
      ∧ (g.supply.sweep = .idle → exec (.sweepStep k mv next) s = .next (s.afterEvent k g []))
      -- the end of a sweep, as the segment sees it before a deferred sample
      ∧ ∀ (best : Option Nat) (u : Segment),
          u = { g with supply := { g.supply with sweep := .idle, weakCmp := g.blk.weakStep.toNat } } →
        (∀ q, g.unit = .request q → g.sweepOver best = u.decideReq
          { q with result := (match best with | some n => BitVec.ofNat 32 n | none => 0xFF) } .ok)
        ∧ ((∀ q, g.unit ≠ .request q) → g.sweepOver best = u))

/-! ## What a segment does with its responses -/

/-- R26, R175, R40: the segment block read of a start. A block that fails a check, or an error response, ends the start
in FAULTED with SEGMENT_FAULT raised and no progress record. R175, R176: the check that fails is the first of the 23
whose condition does not hold, and a block that meets them all passes.
R172 and the layout of the segment block (11): the place of each field, in little-endian bytes, flags bit by bit; a byte that
memory did not bring is a free value (log 6).
R26, R27, R42: a segment block that passes is kept for the run; the segment enters SETTLING with the values of R27 and a
progress record write waits. -/
def Obligations.SegmentBlockReadEndsStart : Prop :=
  (∀ (s : State) (k : Seg) (g : Segment) (a : Access), s.serves k .control a → a.op = .segBlock → s.segs.get k = g →
      g.state = .stopped → g.starting = true →
      (∀ (d : List Byte) (n : Nat), segCheck s.port.windowLow s.port.windowHigh (parseSegBlock d) = some n →
        exec (.accessComplete d) s = .next (s.freePort.afterEvent k
          { g with state := .faulted, starting := false, fault := .badBlock }
          [⟨.segmentFault, BitVec.ofNat 8 k.toNat, BitVec.ofNat 8 n, 0, 1, g.cycle.number, g.blockPtr⟩]))
      ∧ exec .errorResponse s = .next (s.freePort.afterEvent k
          { g with state := .faulted, starting := false, fault := .memoryFault }
          [⟨.segmentFault, BitVec.ofNat 8 k.toNat, 0xFF, 0, 2, g.cycle.number, g.blockPtr⟩]))
    ∧ (∀ (s : State) (k : Seg) (g : Segment) (a : Access) (d : List Byte), s.serves k .control a → a.op = .segBlock →
      s.segs.get k = g → g.state = .stopped → g.starting = true →
      segCheck s.port.windowLow s.port.windowHigh (parseSegBlock d) = none →
      ∃ t, exec (.accessComplete d) s = .next t ∧ t.port.busy = none ∧ ∃ u, t.segs.get k = u
      ∧ u.state = .settling ∧ u.starting = false ∧ u.run = some (parseSegBlock d) ∧ u.blockPtr = g.blockPtr
      ∧ u.fault = .none ∧ u.good = 0 ∧ u.cycle.number = 0 ∧ u.cycle.state = .running ∧ u.cycle.point = .notBegun
      ∧ u.cycle.timer = .stopped ∧ u.cap = ⟨0, false⟩ ∧ u.resp.next = 0 ∧ u.resp.full = false
      ∧ u.counters = ⟨0, 0, 0, 0, 0⟩ ∧ u.req.anchor = none ∧ u.supply.level = .ok ∧ u.supply.auto = false
      ∧ u.supply.forced = false ∧ u.supply.lowCmp = (parseSegBlock d).lowStep.toNat
      ∧ u.supply.weakCmp = (parseSegBlock d).weakStep.toNat ∧ u.line.framing = 0 ∧ u.line.stalled = false
      ∧ u.line.tracker = .busy ∧ u.line.idle = true ∧ u.line.buf0 = none ∧ u.line.buf1 = none ∧ u.resp.pend = none
      ∧ u.xact = .idle ∧ u.waits = ⟨none, some ⟨.progress, (parseSegBlock d).progress, 0, []⟩, none, none, none⟩)
    ∧ ∀ (low high : Word) (b : SegBlock),
      (∀ n, segCheck low high b = some n ↔ ¬SegmentBlockMeets low high b n ∧ ∀ m, m < n → SegmentBlockMeets low high b m)
      ∧ (segCheck low high b = none ↔ ∀ n, SegmentBlockMeets low high b n)
      -- the layout
      ∧ ∀ d : List Byte,
        parseSegBlock d = {
          rate := rdByte d 0x00, acq := rdByte d 0x01, quiet := rdByte d 0x02, w := rdByte d 0x03, r := rdByte d 0x04,
          stall := rdByte d 0x05, arbLimit := rdByte d 0x06, revisit := rdByte d 0x07, period := rdHalf d 0x08,
          acceptBroadcast := (rdByte d 0x0A).getLsbD 0, monitor := (rdByte d 0x0A).getLsbD 1,
          logPolls := (rdByte d 0x0A).getLsbD 2, multi := (rdByte d 0x0A).getLsbD 3, lowStep := rdByte d 0x0B,
          weakStep := rdByte d 0x0C, own0 := rdByte d 0x0D, own1 := rdByte d 0x0E, own2 := rdByte d 0x0F,
          stationCount := rdByte d 0x10, pollLength := rdByte d 0x11, capSlots := rdHalf d 0x12, inbSlots := rdHalf d 0x14,
          stationTable := rdWord d 0x18, pollList := rdWord d 0x1C, chainHead := rdWord d 0x20, capBase := rdWord d 0x24,
          inbBase := rdWord d 0x28, respTable := rdWord d 0x2C, progress := rdWord d 0x30 }
        ∧ ∀ i : Nat, (∀ b, d[i]? = some b → rdByte d i = b) ∧ rdHalf d i = rdByte d (i + 1) ++ rdByte d i
          ∧ rdWord d i = (rdByte d (i + 3) ++ rdByte d (i + 2)) ++ (rdByte d (i + 1) ++ rdByte d i)

/-- R158, R40: an error response to an access of a live segment that drives no frame, other than its progress record
write: the segment is FAULTED with MEMORY_FAULT, its work and its waiting accesses but the progress record write are
gone, and the fault's notice is owed to that write with the address of the access.
R88, R39: the read of a poll entry is one of these accesses, in STOPPING too, where its data would not be used (R86).
R159, R130, R131: an error on an urgent read whose answer is decided or abandoned has no effect (log 38).
R40: a segment that holds a fault back enters FAULTED when the frame it drives ends, at its last character or cut short,
with its receiver off and the fault's notice owed to the record write it asks for.
R39, R40, R45: a segment that enters FAULTED while the device is disabling, or in FAULTED after a notice writer's fault, then
owes the move to STOPPED, which ProgressRecordWriteCompletes makes at the end of that record write. -/
def Obligations.SegmentErrorFaultsSegment : Prop :=
  (∀ (s : State) (k : Seg) (g : Segment) (src : Source) (a : Access), s.serves k src a → s.segs.get k = g →
    a.op ≠ .progress → a.op ≠ .segBlock → g.state ≠ .stopped → g.state ≠ .faulted → g.faultHeld = none →
    (g.readUnwanted a.op = false → g.line.tx = none → ∃ t, exec .errorResponse s = .next t
      ∧ t.port.busy = none ∧ (t.segs.get k).state = .faulted ∧ (t.segs.get k).fault = .memoryFault
      ∧ (t.segs.get k).faultOwed = some a.addr ∧ (t.segs.get k).waits = ⟨none, some g.progressWait, none, none, none⟩
      ∧ (t.segs.get k).stopOwed = (g.stopOwed || s.dev.disabling || s.dev.state == .faulted)
      ∧ (t.segs.get k).unit = .none ∧ (t.segs.get k).resp.pend = none ∧ (t.segs.get k).resp.hands = []
      ∧ (t.segs.get k).cycle.timer = .stopped ∧ (t.segs.get k).req.scanTimer = .stopped
      ∧ (t.segs.get k).supply.timer = .stopped ∧ (t.segs.get k).line.buf0 = none ∧ (t.segs.get k).line.buf1 = none
      ∧ (t.segs.get k).req.anchor = g.req.anchor ∧ (t.segs.get k).counters = g.counters)
    -- a frame on the line is driven to its end first
    ∧ (∀ tx, g.readUnwanted a.op = false → g.line.tx = some tx → ∃ t, exec .errorResponse s = .next t
      ∧ (t.segs.get k).state = g.state ∧ (t.segs.get k).line.tx = some tx ∧ (t.segs.get k).faultHeld = some a.addr
      ∧ (t.segs.get k).unit = .none ∧ (t.segs.get k).waits.unit = none)
    -- the reads whose error has no effect
    ∧ (g.readUnwanted a.op = true →
      exec .errorResponse s = .next (s.freePort.afterEvent k g []))
    ∧ (g.readUnwanted a.op = true ↔ (a.op = .respRecord ∨ a.op = .inbMarkerUrgent)
        ∧ ¬∃ p, g.resp.pend = some p ∧ p.read = .live ∧ p.ans = .undecided))
    -- the end of the frame of a segment that holds a fault back
    ∧ ∀ (s : State) (k : Seg) (g : Segment) (tx : Tx) (ref : Word) (c : Instr), s.segs.get k = g →
      g.line.tx = some tx → g.faultHeld = some ref →
      (c = .transmitEnd k ∨ (∃ pos start, c = .arbitrationLoss k pos start) ∨ ∃ pos start, c = .collision k pos start) →
      ∃ t, exec c s = .next t
      ∧ (t.segs.get k).state = .faulted ∧ (t.segs.get k).fault = g.fault ∧ (t.segs.get k).faultHeld = none
      ∧ (t.segs.get k).faultOwed = some ref ∧ (t.segs.get k).line = Line.reset
      ∧ (t.segs.get k).stopOwed = (g.stopOwed || s.dev.disabling || s.dev.state == .faulted)
      ∧ (t.segs.get k).waits.control = some g.progressWait
      ∧ (g.unit = .none → g.xact = .idle → g.resp.quiet → g.waits = ⟨none, g.waits.control, none, none, none⟩ →
          (t.segs.get k).unit = .none ∧ (t.segs.get k).resp = g.resp
          ∧ (t.segs.get k).waits = ⟨none, some g.progressWait, none, none, none⟩)

/-- R43, R31 to R33: the completion of a progress record write raises the notices of the changes it covers, in their
order; they carry the cycle number held at that moment (log 20).
R38, R41, R45: the completion of the record write that carries STOPPED raises SEGMENT_STOPPED, sets SEG_STOP and takes
the segment to STOPPED; the values of the run are kept.
R40: the record write that follows the entry to FAULTED, completed or failed, raises SEGMENT_FAULT with the fault code
and its reference word; the segment stays FAULTED with its code. R41: a move to STOPPED that waited for it is then made,
with SEG_STOP and with no notice of its own.
R45: in the stop of a notice writer's fault SEGMENT_STOPPED and SEGMENT_FAULT are withheld; the moves and SEG_STOP are
made.
R43, R40, R39: an error response to any other record write of the segment raises the notices that waited on it, in
order, and the segment takes MEMORY_FAULT with the address of the record, in STOPPING too; a frame that it drives ends
first. -/
def Obligations.ProgressRecordWriteCompletes : Prop :=
  (∀ (s : State) (k : Seg) (g : Segment) (a : Access), s.serves k .control a → a.op = .progress → s.segs.get k = g →
      g.prFault = false → g.stopWrite = false →
      exec (.accessComplete []) s = .next (s.freePort.afterEvent k
        { g with prBus := [] } (g.prBus.map fun c => s.segNotice k c.kind c.detail)))
    ∧ (∀ (s : State) (k : Seg) (g : Segment) (a : Access), s.serves k .control a → a.op = .progress → s.segs.get k = g →
      g.state = .stopping → g.stopWrite = true → g.prFault = false → g.prBus = [] → s.dev.state = .ready →
      s.nw.lost = false → s.nw.queue.length < 8 → ∃ t, exec (.accessComplete []) s = .next t
      ∧ (t.segs.get k).state = .stopped ∧ (t.segs.get k).starting = g.starting ∧ (t.segs.get k).line = Line.reset
      ∧ (t.segs.get k).waits = ⟨none, none, none, none, none⟩
      ∧ (t.segs.get k).run = g.run ∧ (t.segs.get k).counters = g.counters ∧ (t.segs.get k).fault = g.fault
      ∧ (t.segs.get k).cycle.number = g.cycle.number ∧ (t.segs.get k).cap = g.cap ∧ (t.segs.get k).resp.next = g.resp.next
      ∧ (t.segs.get k).req.anchor = g.req.anchor ∧ (t.segs.get k).supply.level = g.supply.level
      ∧ t.attention = s.attention ||| BitVec.ofNat 8 (2 ^ (4 + k.toNat))
      ∧ t.nw.queue = s.nw.queue ++ [s.segNotice k .segmentStopped 0])
    ∧ (∀ (s : State) (k : Seg) (g : Segment) (a : Access) (ref : Word), s.serves k .control a → a.op = .progress →
      s.segs.get k = g → g.state = .faulted → g.prFault = true → g.prBus = [] → g.faultOwed = some ref →
      g.stopOwed = false → s.dev.state = .ready →
      (∀ c, c = .accessComplete [] ∨ c = .errorResponse →
        exec c s = .next (s.freePort.afterEvent k
          { g with faultOwed := none, prFault := false }
          [{ s.segNotice k .segmentFault (BitVec.ofNat 8 g.fault.code) with ref := ref }])))
    -- the move to STOPPED that waited for it, and the stop of a notice writer's fault
    ∧ (∀ (s : State) (k : Seg) (g : Segment) (a : Access) (ref : Word) (c : Instr), s.serves k .control a →
      a.op = .progress → s.segs.get k = g → g.state = .faulted → g.prFault = true → g.prBus = [] →
      g.faultOwed = some ref → g.stopOwed = true → c = .accessComplete [] ∨ c = .errorResponse →
      ∃ t, exec c s = .next t
      ∧ (t.segs.get k).state = .stopped ∧ (t.segs.get k).fault = g.fault ∧ (t.segs.get k).run = g.run
      ∧ (t.segs.get k).counters = g.counters ∧ (t.segs.get k).faultOwed = none ∧ (t.segs.get k).stopOwed = false
      ∧ (t.segs.get k).waits = ⟨none, none, none, none, none⟩
      ∧ (s.dev.state = .ready → s.nw.lost = false → s.nw.queue.length < 8 →
          t.attention = s.attention ||| BitVec.ofNat 8 (2 ^ (4 + k.toNat))
          ∧ t.nw.queue = s.nw.queue ++ [{ s.segNotice k .segmentFault (BitVec.ofNat 8 g.fault.code) with ref := ref }])
      ∧ (s.dev.state = .faulted → s.dev.disableAsked = false →
          t.attention = s.attention ||| BitVec.ofNat 8 (2 ^ (4 + k.toNat)) ∧ t.nw = s.nw))
    ∧ (∀ (s : State) (k : Seg) (g : Segment) (a : Access), s.serves k .control a → a.op = .progress → s.segs.get k = g →
      g.state = .stopping → g.stopWrite = true → g.prFault = false → g.prBus = [] → s.dev.state = .faulted →
      s.dev.disableAsked = false → ∃ t, exec (.accessComplete []) s = .next t
      ∧ (t.segs.get k).state = .stopped ∧ (t.segs.get k).run = g.run
      ∧ t.attention = s.attention ||| BitVec.ofNat 8 (2 ^ (4 + k.toNat)) ∧ t.nw = s.nw)
    -- an error response to the record write of a live segment
    ∧ (∀ (s : State) (k : Seg) (g : Segment) (a : Access), s.serves k .control a → a.op = .progress → s.segs.get k = g →
      g.prFault = false → g.state ≠ .stopped → g.state ≠ .faulted → g.faultHeld = none → s.dev.state = .ready →
      s.nw.lost = false → s.nw.queue.length + g.prBus.length ≤ 8 → ∃ t, exec .errorResponse s = .next t
      ∧ t.nw.queue = s.nw.queue ++ g.prBus.map (fun c => s.segNotice k c.kind c.detail)
      ∧ t.port.busy = none ∧ (t.segs.get k).prBus = [] ∧ (t.segs.get k).prWait = g.prWait
      ∧ (t.segs.get k).fault = .memoryFault ∧ (t.segs.get k).unit = .none ∧ (t.segs.get k).stopWrite = false
      ∧ (g.line.tx = none → (t.segs.get k).state = .faulted ∧ (t.segs.get k).faultOwed = some a.addr
        ∧ (t.segs.get k).waits = ⟨none, some g.progressWait, none, none, none⟩)
      ∧ (∀ tx, g.line.tx = some tx → (t.segs.get k).state = g.state ∧ (t.segs.get k).line.tx = some tx
        ∧ (t.segs.get k).faultHeld = some a.addr))

/-- R108, R124: after the link-seen mark, or the TAKEN write where there is no anchor, the record is current and one
more member of its group. With HOLD the successor of a member before the eighth is read and the group is held; the
eighth carries HOLD_UNMET; no successor is read once a stop lets no member follow (R37).
R126, R37, R109, R110, R111: the checks of a taken request, the first that applies: GROUP_BROKEN, ABORTED, BAD_REQUEST,
SUPPLY_WEAK; that GROUP_BROKEN stands ahead of ABORTED in STOPPING is the model's reading (log 31), and that the attempt
limit is checked for every kind, those without line work included, is its choice (log 47); a line request is then made
ready in LOCKED, and outside it ends by the cause of the departure (R35).
R118 to R123: the action of each other kind. R149: a sweep begins only in LOCKED; one taken outside it waits for the
next LOCKED (log 40).
R126: an outcome FRAMING_LOST, LINE_STALL, LINE_LOST or COLLISION breaks a held group.
R111, R115 to R117, R5, R13, R125: the frame of a request begins at the hold gap in a group that holds the line, and
otherwise when the tracker is FREE; until then it waits. -/
def Obligations.TakenRequestIsServed : Prop :=
  (∀ (s : State) (k : Seg) (g : Segment) (src : Source) (a : Access) (r : ReqUnit), s.serves k src a → s.segs.get k = g →
      g.unit = .request r → (a.op = .linkSeen ∨ (a.op = .takenWrite ∧ g.req.anchor = none)) →
      exec (.accessComplete []) s = .next (s.freePort.afterEvent k (g.becomeCurrent r) []))
    ∧ (∀ (g : Segment) (r : ReqUnit) (q : ReqEngine),
      q = { g.req with current := some r.addr, cand := none, ready := false, count := g.req.count + 1 } →
      (r.body.hold = false → g.becomeCurrent r = Segment.serveReq { g with req := q } { r with step := .serve })
      ∧ (r.body.hold = true → 8 ≤ g.req.count + 1 →
        g.becomeCurrent r = Segment.serveReq { g with req := q } { r with step := .serve, holdUnmet := true })
      ∧ (r.body.hold = true → g.req.count + 1 < 8 → r.last = false →
        g.becomeCurrent r = Segment.serveReq
          { g with
            req := { q with cond := if g.req.cond = .breaking then .breaking else .holding },
            waits := { g.waits with unit := some ⟨.groupLink, r.addr, 4, []⟩ } }
          { r with step := .serve, succ := .link })
      ∧ (r.body.hold = true → g.req.count + 1 < 8 → r.last = true →
        g.becomeCurrent r = Segment.serveReq { g with req := q } { r with step := .serve }))
    ∧ (∀ (g : Segment) (r : ReqUnit) (line weak : Prop),
      line = (r.body.kind = some .pollOnce ∨ r.body.kind = some .set ∨ r.body.kind = some .announce) →
      weak = (r.body.heavy = true ∧ (g.supply.auto = true ∨ g.supply.forced = true)) →
      (r.broken = true → g.serveReq r = g.decideReq r .groupBroken)
      ∧ (r.broken = false → g.state = .stopping → g.serveReq r = g.decideReq r .aborted)
      ∧ (r.broken = false → g.state ≠ .stopping →
        (¬RequestFits g.blk r.body → g.serveReq r = g.decideReq r .badRequest)
        ∧ (RequestFits g.blk r.body →
          (line → weak → g.serveReq r = g.decideReq r .supplyWeak)
          ∧ (line → ¬weak → g.state = .locked →
            g.serveReq r = { g with unit := .request { r with attempt := 1 }, xact := .ready })
          ∧ (line → ¬weak → g.state ≠ .locked →
            g.serveReq r = g.decideReq r (if g.departed = .lockLoss then .framingLost else .lineStall))
          ∧ (r.body.kind = some .stationClear → g.serveReq r = g.tryComplete r)
          ∧ (r.body.kind = some .cyclePause ∨ r.body.kind = some .cycleResume ∨ r.body.kind = some .mark →
            g.serveReq r = g.decideReq r .ok)
          ∧ (r.body.kind = some .conserve →
            g.serveReq r = Segment.decideReq { g with supply := { g.supply with forced := decide (r.body.arg = 1) } } r .ok)
          ∧ (r.body.kind = some .supplySweep → g.state = .locked → g.faultHeld = none →
            g.serveReq r = { g with unit := .request r,
                                    supply := { g.supply with sweep := .sweeping 0 none, weakCmp := 0 } })
          ∧ (r.body.kind = some .supplySweep → g.state ≠ .locked → g.serveReq r = { g with unit := .request r }))))
    ∧ (∀ (g : Segment) (r : ReqUnit) (o : Ending),
      g.decideReq r o = Segment.tryComplete
        { g with xact := .idle, req := { g.req with cond :=
            if (o = .framingLost ∨ o = .lineStall ∨ o = .lineLost ∨ o = .collision) ∧ g.req.cond = .holding then .breaking
            else g.req.cond } }
        { r with outcome := some o })
    -- a sweep that waits for LOCKED
    ∧ (∀ (s : State) (k : Seg) (g : Segment) (r : ReqUnit), s.segs.get k = g → g.state = .acquiring → g.faultHeld = none →
      g.line.idle = true → g.everLocked = true → g.unit = .request r → g.xact = .idle → r.step = .serve →
      r.outcome = none → r.body.kind = some .supplySweep → g.supply.sweep = .idle →
      ∃ t, exec (.quietInterval k) s = .next t ∧ (t.segs.get k).state = .locked
        ∧ (t.segs.get k).supply = { g.supply with sweep := .sweeping 0 none, weakCmp := 0 })
    -- the frame of a line request
    ∧ ∀ (s : State) (k : Seg) (g : Segment) (r : ReqUnit) (ns : List Notice) (tx : Tx) (may : Prop), g.state = .locked →
      g.faultHeld = none → g.unit = .request r → g.xact = .ready → g.line.tx = none → g.resp.quiet →
      ((r.body.kind = some .pollOnce
          ∧ tx = ⟨buildFrame r.body.target g.blk.own0 (if r.body.ackBit = 1 then 0x10 else 0x00)
              (r.body.payload.take r.body.payLen.toNat), .poll, false⟩)
        ∨ (r.body.kind = some .set
          ∧ tx = ⟨buildFrame r.body.target g.blk.own0 0x02 (r.body.payload.take r.body.payLen.toNat), .set, false⟩)
        ∨ (r.body.kind = some .announce
          ∧ tx = ⟨buildFrame 0 g.blk.own0 0x06 (r.body.payload.take r.body.payLen.toNat), .announce, false⟩)) →
      may = (if g.req.sent = true ∧ g.req.lineHeld = true ∧ (2 ≤ g.req.count ∨ g.req.cond = .holding)
        then g.req.gap = .reached else g.line.tracker = .free) →
      (may → (s.afterEvent k g ns).segs.get k = { g with
        line := { g.line with tx := some tx, tracker := .busy, idle := false },
        req := { g.req with sent := true, gap := .none }, xact := .sending })
      ∧ (¬may → (s.afterEvent k g ns).segs.get k = g)

/-- R108: a take's read. A record still FRESH draws the TAKEN write. One no longer FRESH is dropped: a first member
leaves no unit, its opportunity passes, the one held open under R83 too (log 22), and a chain head becomes the anchor; a
later member ends its group (R124).
R108, R112: the TAKEN write is followed by the link-seen mark on the anchor; the outcome write by the state write, DONE
for OK and FAILED otherwise, with a kept reply's buffer released; the clear write of a STATION_CLEAR by the OK (R118).
R112, R84, R85, R124: the final state write makes its record the anchor, raises REQUEST_DONE under NOTIFY, lets a
CYCLE_PAUSE or CYCLE_RESUME act, and takes the successor the group found FRESH or ends the unit; R106, R80: in WAITING
or PAUSED that begins the chain read of the new anchor. R78, R79, R83: with the last opportunity the cycle ends.
In STOPPING that read is begun too, until the STOPPED record write is asked for (log 19).
R70, R78: at an opportunity before the last entry the poll index moves on, and the next entry is due. That no opportunity
passes in STOPPING, so that no cycle ends there, is the model's reading (log 31, DEDUCED). R106: the chain read asked for at the unit's end begins, is noted beside one under way, or is discarded.
R103, R172 and the layout of the request record (11): the place of each field, and the nine kinds by their codes.
R84, R85: what a pause and a resume do; with no poll entries the resumed cycle holds its opportunity open, or ends at its begin
(R83, R79); a pause leaves the poll index (log 45), one served at the opportunity held open
leaves no cycle end (log 22), and a begin held by a resume outside LOCKED stays held at a pause (log 39). -/
def Obligations.RequestAccessesFollow : Prop :=
  (∀ (s : State) (k : Seg) (g : Segment) (src : Source) (a : Access) (r : ReqUnit), s.serves k src a → s.segs.get k = g →
      g.unit = .request r →
      (∀ d, a.op = .takeRead → rdByte d 0x0E = 1 →
        exec (.accessComplete d) s = .next (s.freePort.afterEvent k { g with
          unit := .request { r with step := .taken, body := parseReqRecord d },
          waits := { g.waits with unit := some ⟨.takenWrite, r.addr + 0x0E, 0, [(r.addr + 0x0E, 2)]⟩ } } []))
      ∧ (∀ d q u, a.op = .takeRead → rdByte d 0x0E ≠ 1 → g.req.count = 0 →
          q = { g.req with cand := none, ready := false, count := 0, cond := .none, losses := 0, lineHeld := true,
                           sent := false, gap := .none } →
          u = { g with unit := .none, xact := .idle, req := q } →
        exec (.accessComplete d) s = .next (s.freePort.afterEvent k
          (let v := if g.cycle.point = .inOpp then u.passOpportunity else u
           if g.req.anchor.isSome then v else { v with req := { v.req with anchor := some r.addr } }.chainRequest) []))
      ∧ (∀ d, a.op = .takeRead → rdByte d 0x0E ≠ 1 → g.req.count ≠ 0 →
        exec (.accessComplete d) s = .next (s.freePort.afterEvent k
          (Segment.endUnit { g with req := { g.req with cand := none, ready := false } }) []))
      ∧ (∀ x, a.op = .takenWrite → g.req.anchor = some x →
        exec (.accessComplete []) s = .next (s.freePort.afterEvent k { g with
          unit := .request { r with step := .linkSeen },
          waits := { g.waits with unit := some ⟨.linkSeen, x + 0x94, 0, [(x + 0x94, 1)]⟩ } } []))
      ∧ (a.op = .clearWrite → r.succ.reading = false →
        exec (.accessComplete []) s = .next (s.freePort.afterEvent k
          (g.tryComplete { r with step := .serve, outcome := some .ok }) []))
      ∧ (∀ o, a.op = .outcomeWrite → r.outcome = some o → r.buf = none →
        exec (.accessComplete []) s = .next (s.freePort.afterEvent k { g with
          unit := .request { r with step := .state },
          waits := { g.waits with unit := some (Access.mk
            .stateWrite (r.addr + 0x0E) 0 [(r.addr + 0x0E, if o = .ok then 3 else 4)]) } } []))
      ∧ (∀ o b, a.op = .outcomeWrite → r.outcome = some o → r.buf = some b →
        exec (.accessComplete []) s = .next (s.freePort.afterEvent k { g with
          unit := .request { r with step := .state, buf := none }, line := g.line.release b,
          waits := { g.waits with unit := some (Access.mk
            .stateWrite (r.addr + 0x0E) 0 [(r.addr + 0x0E, if o = .ok then 3 else 4)]) } } []))
      ∧ (∀ o u v, a.op = .stateWrite → r.outcome = some o →
          u = { g with req := { g.req with anchor := some r.addr, current := none } } →
          v = (if o = .ok ∧ r.body.kind = some .cyclePause then u.pauseCycle
               else if o = .ok ∧ r.body.kind = some .cycleResume then u.resumeCycle else u) →
        exec (.accessComplete []) s = .next (s.freePort.afterEvent k
          (if r.last = false ∧ r.succ = .fresh then v.startTake else v.endUnit)
          (if r.body.notify then
            [⟨.requestDone, BitVec.ofNat 8 k.toNat, 0xFF,
              if r.body.kind = some .pollOnce ∨ r.body.kind = some .set then r.body.target else 0, o.code, r.doneCycle,
              r.addr⟩]
           else []))))
    -- the end of a unit
    ∧ (∀ g u : Segment, u = { g with
        unit := .none, xact := .idle,
        req := { g.req with count := 0, cond := .none, losses := 0, lineHeld := true, sent := false, gap := .none } } →
      g.endUnit = (if g.cycle.point = .inOpp ∧ g.state ≠ .stopping then u.passOpportunity else u).chainRequest)
    -- an opportunity passes: before the last entry, with the last one a cycle's end, and a cycle that then waits
    ∧ (∀ g : Segment,
      (g.cycle.index + 1 < g.blk.pollLength.toNat →
        g.passOpportunity = { g with cycle := { g.cycle with index := g.cycle.index + 1, point := .entryDue } })
      ∧ (g.blk.pollLength.toNat ≤ g.cycle.index + 1 →
        g.passOpportunity = { g with
          waits := { g.waits with control := some g.progressWait }, prEnded := some g.cycle.number,
          cycle := if g.cycle.expired = true ∨ g.blk.period = 0 then { g.cycle with held := true, point := .notBegun }
            else { g.cycle with state := .waiting, point := .notBegun } }))
    -- a chain read is asked for
    ∧ (∀ g : Segment,
      (∀ x, g.stopWrite = false → g.req.chain = .idle → g.req.ready = false → g.req.current = none → g.req.anchor = some x →
        g.chainRequest = { g with
          req := { g.req with chain := .link }, waits := { g.waits with chain := some ⟨.chainLink, x, 4, []⟩ } })
      ∧ (g.stopWrite = false → (g.req.chain = .link ∨ ∃ x, g.req.chain = .state x) →
        g.chainRequest = { g with req := { g.req with more := true } })
      ∧ (g.stopWrite = true ∨ g.req.chain = .exam
          ∨ (g.req.chain = .idle ∧ (g.req.ready = true ∨ g.req.current ≠ none ∨ g.req.anchor = none)) →
        g.chainRequest = g))
    -- a unit served at an opportunity before the last entry, and one served with none of them
    ∧ (∀ (g : Segment) (x : Word) (c : Cycle), g.stopWrite = false → g.req.chain = .idle → g.req.ready = false →
      g.req.current = none → g.req.anchor = some x →
      (g.cycle.point = .inOpp ∧ g.state ≠ .stopping ∧ g.cycle.index + 1 < g.blk.pollLength.toNat
          ∧ c = { g.cycle with index := g.cycle.index + 1, point := .entryDue }
        ∨ (g.cycle.point ≠ .inOpp ∨ g.state = .stopping) ∧ c = g.cycle) →
      g.endUnit = { g with
        unit := .none, xact := .idle, cycle := c,
        req := { g.req with chain := .link, count := 0, cond := .none, losses := 0, lineHeld := true, sent := false,
                            gap := .none },
        waits := { g.waits with chain := some ⟨.chainLink, x, 4, []⟩ } })
    -- a unit served at the last opportunity of its cycle
    ∧ (∀ (g : Segment) (x : Word) (c : Cycle), g.cycle.point = .inOpp → g.state ≠ .stopping → g.stopWrite = false →
      g.blk.pollLength.toNat ≤ g.cycle.index + 1 → g.req.chain = .idle → g.req.ready = false → g.req.current = none →
      g.req.anchor = some x →
      c = (if g.cycle.expired = true ∨ g.blk.period = 0 then { g.cycle with held := true, point := .notBegun }
        else { g.cycle with state := .waiting, point := .notBegun }) →
      g.endUnit = { g with
        unit := .none, xact := .idle, cycle := c,
        req := { g.req with chain := .link, count := 0, cond := .none, losses := 0, lineHeld := true, sent := false,
                            gap := .none },
        waits := { g.waits with control := some g.progressWait, chain := some ⟨.chainLink, x, 4, []⟩ },
        prEnded := some g.cycle.number })
    -- the take of a found successor
    ∧ (∀ (g : Segment) (x : Word), g.req.cand = some x →
      g.startTake = { g with
        unit := .request (ReqUnit.begin x (g.req.cond == .breaking)), req := { g.req with losses := 0 },
        waits := { g.waits with unit := some ⟨.takeRead, x, 160, []⟩ } })
    ∧ (∀ (x : Word) (broken : Bool), ∃ body, ReqUnit.begin x broken = {
        step := .takeRead, addr := x, body := body, outcome := none, attempt := 0, used := 0, buf := none, result := 0,
        holdUnmet := false, succ := .none, broken := broken, last := false, doneCycle := 0 })
    -- the layout of a request record
    ∧ (∀ d : List Byte, parseReqRecord d = {
        arg := rdWord d 0x04,
        kind := match (rdByte d 0x08).toNat with
          | 1 => some .pollOnce | 2 => some .set | 3 => some .announce | 4 => some .stationClear | 5 => some .cyclePause
          | 6 => some .cycleResume | 7 => some .conserve | 8 => some .supplySweep | 9 => some .mark | _ => none,
        hold := (rdByte d 0x09).getLsbD 0, notify := (rdByte d 0x09).getLsbD 1, heavy := (rdByte d 0x09).getLsbD 2,
        target := rdByte d 0x0A, limit := rdByte d 0x0B, payLen := rdByte d 0x0C, ackBit := rdByte d 0x0D,
        payload := (List.range 64).map fun i => rdByte d (0x10 + i) })
    -- pause and resume
    ∧ ∀ g : Segment,
      (g.cycle.state = .paused → g.pauseCycle = g)
      ∧ (g.cycle.state ≠ .paused → g.pauseCycle = { g with cycle := { g.cycle with
          state := .paused, timer := .stopped, expired := false, held := false, point := .notBegun } })
      ∧ (g.cycle.state ≠ .paused → g.resumeCycle = g)
      ∧ (g.cycle.state = .paused → g.state = .locked → g.faultHeld = none → g.blk.pollLength ≠ 0 →
        g.resumeCycle = { g with cycle := { g.cycle with
          number := g.cycle.number + 1, state := .running, index := 0, expired := false, held := false,
          timer := if g.blk.period = 0 then .stopped else .running g.blk.period.toNat, point := .entryDue } })
      ∧ (g.cycle.state = .paused → g.state = .locked → g.faultHeld = none → g.blk.pollLength = 0 →
        g.resumeCycle = if g.blk.period = 0 then { g with cycle := { g.cycle with
            number := g.cycle.number + 1, state := .running, index := 0, expired := false, held := false,
            timer := .stopped, point := .oppOpen } }
          else { g with
            waits := { g.waits with control := some g.progressWait }, prEnded := some (g.cycle.number + 1),
            cycle := { g.cycle with
              number := g.cycle.number + 1, state := .waiting, index := 0, expired := false, held := false,
              timer := .running g.blk.period.toNat, point := .notBegun } })
      ∧ (g.cycle.state = .paused → (g.state ≠ .locked ∨ g.faultHeld ≠ none) →
        g.resumeCycle = { g with cycle := { g.cycle with held := true } })

/-- R70, R86: the read of a poll entry. One that a stop has ended leaves no unit; index FFH is skipped, with its
pause-after running; an index not below the station count raises BAD_ENTRY with the entry's address; any other draws the
read of its station record.
R71, R50, R51, R61, R144: the judgement of the station record, the first line that applies: POLL_ENABLE clear; the first
range of R51 that fails, with BAD_RECORD; LOST in a cycle that is not a revisit cycle; HEAVY in conserve. Each ends the
entry with no write. R49: a status half out of range is taken as cleared. R47, R172 and the layout of the station
record (11): the place of each field of the config half.
R72, R87, R86: an entry that passes makes its first attempt ready in LOCKED; in STOPPING it ends ABORTED, and in another
state by the cause of the departure, with its status write. -/
def Obligations.PollEntryIsJudged : Prop :=
  (∀ (s : State) (k : Seg) (g ended : Segment) (src : Source) (a : Access) (e : EntryUnit), s.serves k src a →
      s.segs.get k = g → g.unit = .entry e →
      ended = { g with unit := .none, xact := .idle,
                       cycle := { g.cycle with point := .oppDue, losses := 0, attempt := 0 } } →
      (∀ idx pause, a.op = .entryRead →
        (g.state = .stopping → exec (.accessComplete [idx, pause]) s = .next (s.freePort.afterEvent k ended []))
        ∧ (g.state ≠ .stopping → idx = 0xFF →
          exec (.accessComplete [idx, pause]) s = .next (s.freePort.afterEvent k
            { ended with cycle := { ended.cycle with pause := if pause = 0 then .none else .running } } []))
        ∧ (g.state ≠ .stopping → idx ≠ 0xFF → g.blk.stationCount.toNat ≤ idx.toNat →
          exec (.accessComplete [idx, pause]) s = .next (s.freePort.afterEvent k ended
            [⟨.badEntry, BitVec.ofNat 8 k.toNat, idx, 0, BitVec.ofNat 8 g.cycle.index, g.cycle.number,
              g.blk.pollList + BitVec.ofNat 32 (2 * g.cycle.index)⟩]))
        ∧ (g.state ≠ .stopping → idx ≠ 0xFF → idx.toNat < g.blk.stationCount.toNat →
          exec (.accessComplete [idx, pause]) s = .next (s.freePort.afterEvent k { g with
            unit := .entry { e with step := .stationRead, station := idx, pauseAfter := pause,
                                    recAddr := g.blk.stationTable + BitVec.ofNat 32 (32 * idx.toNat) },
            waits := { g.waits with
              unit := some ⟨.stationRead, g.blk.stationTable + BitVec.ofNat 32 (32 * idx.toNat), 32, []⟩ } } [])))
      ∧ (∀ d c st skip u, a.op = .stationRead → c = parseStationCfg d → st = parseStatus d →
          skip = ((st.state = .lost ∧ g.cycle.number.toNat % g.blk.revisit.toNat ≠ 0)
            ∨ (c.heavy = true ∧ (g.supply.auto = true ∨ g.supply.forced = true))) →
          u = { e with cfg := c, st := st } →
        (c.pollEnable = false → exec (.accessComplete d) s = .next (s.freePort.afterEvent k ended []))
        ∧ (∀ n, c.pollEnable = true → ¬StationCfgMeets g.blk c n → (∀ m, m < n → StationCfgMeets g.blk c m) →
          exec (.accessComplete d) s = .next (s.freePort.afterEvent k ended
            [⟨.badRecord, BitVec.ofNat 8 k.toNat, e.station, c.addr, BitVec.ofNat 8 n, g.cycle.number, e.recAddr⟩]))
        ∧ (c.pollEnable = true → (∀ n, StationCfgMeets g.blk c n) →
          (skip → exec (.accessComplete d) s = .next (s.freePort.afterEvent k ended []))
          ∧ (¬skip → g.state = .locked →
            exec (.accessComplete d) s = .next (s.freePort.afterEvent k { g with
              unit := .entry { u with step := .polling }, xact := .ready,
              cycle := { g.cycle with attempt := 1, losses := 0 } } []))
          ∧ (∀ o, ¬skip → g.state ≠ .locked →
              o = (if g.state = .stopping then .aborted
                   else if g.departed = .lockLoss then .framingLost else .lineStall) →
            exec (.accessComplete d) s = .next (s.freePort.afterEvent k { g with
              unit := .entry { u with step := .status, outcome := some o }, xact := .idle,
              cycle := { g.cycle with pause := .none },
              waits := { g.waits with unit := some (.write .statusWrite (e.recAddr + 16)
                (Status.bytes { st with state := healthOf c.threshold st.miss st.heard } o.code)) } } [])))))
    ∧ ∀ d : List Byte,
      (3 < (rdByte d 0x10).toNat ∨ (1 < (rdByte d 0x12).toNat ∧ rdByte d 0x12 ≠ 0xFF) →
        parseStatus d = { state := .unknown, heard := false, lastSeq := none, miss := 0, accepted := 0, duplicates := 0,
                          drops := 0, lastCycle := 0 })
      ∧ ((rdByte d 0x10).toNat ≤ 3 → ((rdByte d 0x12).toNat ≤ 1 ∨ rdByte d 0x12 = 0xFF) → ∃ h, h.code = rdByte d 0x10
        ∧ parseStatus d = {
            state := h, heard := rdByte d 0x11 != 0,
            lastSeq := if rdByte d 0x12 = 0xFF then none else some (rdByte d 0x12 == 1), miss := rdByte d 0x13,
            accepted := rdHalf d 0x14, duplicates := rdHalf d 0x16, drops := rdHalf d 0x18, lastCycle := rdWord d 0x1C })
      ∧ parseStationCfg d = {
          addr := rdByte d 0x00, pollEnable := (rdByte d 0x01).getLsbD 0, heavy := (rdByte d 0x01).getLsbD 1,
          acceptDamaged := (rdByte d 0x01).getLsbD 2, expectSeq := (rdByte d 0x01).getLsbD 3,
          notifyHealth := (rdByte d 0x01).getLsbD 4, expLen := rdByte d 0x02, retry := rdByte d 0x03,
          threshold := rdByte d 0x04, payLen := rdByte d 0x05,
          payload := (List.range 8).map fun i => rdByte d (0x08 + i) }

/-- R92, R93, R56: the capture's marker read. A clear marker draws the body write of the slot from byte 02H; a set one
drops the capture, releases the buffer, sets the latch with CAPTURE_FULL at the first drop, and draws the status write
with the drop counted.
R92, R21: the body write is followed by the release of the buffer and the marker write; the marker write by the advance
of the capture next index, with the latch cleared, and the status write.
R94 to R98: the body of a slot: its header fields, SHORT, LONG and DAMAGED, the data cut or padded with zeros to the
expected length, the pad mark of each data block, and its damage mark. -/
def Obligations.CaptureMarkerDecides : Prop :=
  (∀ (s : State) (k : Seg) (g : Segment) (src : Source) (a : Access) (e : EntryUnit), s.serves k src a →
    s.segs.get k = g → g.unit = .entry e → ∀ slot : Word, slot = g.blk.capBase + BitVec.ofNat 32 (80 * g.cap.next) →
    (∀ b f lo hi, a.op = .capMarkerRead → e.buf = some b → g.line.held b = some f →
      (lo = 0 ∧ hi = 0 →
        exec (.accessComplete [lo, hi]) s = .next (s.freePort.afterEvent k { g with
          unit := .entry { e with step := .capBody },
          waits := { g.waits with unit := some (Access.mk
            .capBody slot 0 (placeAt (slot + 2) (captureBody e f g.cycle.number))) } } []))
      ∧ (¬(lo = 0 ∧ hi = 0) →
        exec (.accessComplete [lo, hi]) s = .next (s.freePort.afterEvent k { g with
          unit := .entry { e with step := .status, outcome := some .replied, buf := none, dropped := true },
          line := g.line.release b, cap := { g.cap with full := true },
          waits := { g.waits with unit := some (.write .statusWrite (e.recAddr + 16) (Status.bytes
            { state := healthOf e.cfg.threshold 0 true, heard := true, lastSeq := some e.seq, miss := 0,
              accepted := e.st.accepted + 1, duplicates := e.st.duplicates, drops := e.st.drops + 1,
              lastCycle := g.cycle.number } 1)) } }
          (if g.cap.full then []
           else [{ s.segNotice k .captureFull 0 with station := e.station, addr := e.cfg.addr, ref := slot }]))))
    ∧ (∀ b, a.op = .capBody → e.buf = some b →
      exec (.accessComplete []) s = .next (s.freePort.afterEvent k { g with
        unit := .entry { e with step := .capMark, buf := none }, line := g.line.release b,
        waits := { g.waits with unit := some (Access.mk
          .capMarkerWrite slot 0 [(slot, 1), (slot + 1, 0)]) } } []))
    ∧ (a.op = .capMarkerWrite →
      exec (.accessComplete []) s = .next (s.freePort.afterEvent k { g with
        unit := .entry { e with step := .status, outcome := some .replied },
        cap := ⟨if g.cap.next + 1 < g.blk.capSlots.toNat then g.cap.next + 1 else 0, false⟩,
        waits := { g.waits with unit := some (.write .statusWrite (e.recAddr + 16) (Status.bytes
          { state := healthOf e.cfg.threshold 0 true, heard := true, lastSeq := some e.seq, miss := 0,
            accepted := e.st.accepted + 1, duplicates := e.st.duplicates,
            drops := if e.dropped then e.st.drops + 1 else e.st.drops, lastCycle := g.cycle.number } 1)) } } [])))
    -- the body of the slot
    ∧ ∀ (e : EntryUnit) (f : RxFrame) (cycle : Word) (len n : Nat), len = (lenOf f.chars).toNat → n = e.cfg.expLen.toNat →
      ∃ (flags damage pad : Byte) (data : List Byte),
        captureBody e f cycle =
          [e.station, e.cfg.addr, e.cfg.expLen, lenOf f.chars, flags, damage, pad, if seqOf f.chars then 1 else 0,
            BitVec.ofNat 8 e.used, 0] ++ wrWord cycle ++ data
        ∧ (flags.getLsbD 0 = true ↔ len < n) ∧ (flags.getLsbD 1 = true ↔ n < len)
        ∧ (flags.getLsbD 2 = true ↔ f.good = false) ∧ (∀ i, 3 ≤ i → flags.getLsbD i = false)
        ∧ data.length = n
        ∧ (∀ i, i < n → data[i]? =
            some (if i < (payloadOf f.chars).length then (payloadOf f.chars).getD i 0 else 0))
        ∧ (∀ b, pad.getLsbD b = true ↔ b < 4 ∧ ∃ i, 16 * b ≤ i ∧ i < 16 * b + 16 ∧ len ≤ i ∧ i < n)
        ∧ (f.good = true → damage = 0)
        ∧ (f.good = false → (∃ i, i < min len n ∧ 6 + i ∈ f.marks) →
            ∀ b, damage.getLsbD b = true ↔
              b < 4 ∧ ∃ i, 16 * b ≤ i ∧ i < 16 * b + 16 ∧ i < min len n ∧ 6 + i ∈ f.marks)
        ∧ (f.good = false → (¬∃ i, i < min len n ∧ 6 + i ∈ f.marks) →
            ∀ b, damage.getLsbD b = true ↔ b < 4 ∧ ∃ i, 16 * b ≤ i ∧ i < 16 * b + 16 ∧ i < min len n)

/-- R106, R124: a chain read's link. 0 ends the read, and a read noted meanwhile begins (log 19); a multiple of 16 draws
the read of the successor's state, and any other value is the fault BAD_LINK with the link as reference word, in a
group's read too.
R106: the successor's state: FRESH makes it the candidate, and the read ends. A read noted meanwhile is then judged
again: it is begun, unless the successor was found FRESH, a record is current or there is no anchor, where it is dropped
(log 19).
R105: the state of the chain head: FRESH makes it the candidate, any other state the anchor, whose link is read.
R124: the reads of a held group's successor: link 0, or a state not FRESH, ends the group with this member, which
carries HOLD_UNMET; FRESH makes it the candidate; the member is then completed when its action is done.
R112, R113, R115, R156: the outcome write. A REPLY that is kept goes into the record with it: its payload from 50H, its
length at 92H, DAMAGED and its seq bit beside HOLD_UNMET at 93H. That the address of the write, which a fault on it reports,
is that of the first byte written is the model's reading (log 24, DEDUCED). -/
def Obligations.ChainAndGroupReadsDecide : Prop :=
  (∀ (s : State) (k : Seg) (g : Segment) (src : Source) (a : Access) (b0 b1 b2 b3 : Byte), s.serves k src a →
    s.segs.get k = g → ∀ link : Word, link = ((b3 ++ b2 : Half) ++ (b1 ++ b0 : Half) : Word) →
    (a.op = .chainLink → link = 0 →
        (g.req.more = false ∨ g.stopWrite = true ∨ g.req.ready = true ∨ g.req.current ≠ none ∨ g.req.anchor = none) →
      exec (.accessComplete [b0, b1, b2, b3]) s = .next (s.freePort.afterEvent k
        { g with req := { g.req with chain := .idle, more := false } } []))
    ∧ (∀ x, a.op = .chainLink → link = 0 → g.req.more = true → g.stopWrite = false → g.req.ready = false →
        g.req.current = none → g.req.anchor = some x →
      exec (.accessComplete [b0, b1, b2, b3]) s = .next (s.freePort.afterEvent k
        { g with req := { g.req with chain := .link, more := false },
                 waits := { g.waits with chain := some ⟨.chainLink, x, 4, []⟩ } } []))
    ∧ (a.op = .chainLink → link ≠ 0 → link.toNat % 16 = 0 →
      exec (.accessComplete [b0, b1, b2, b3]) s = .next (s.freePort.afterEvent k
        { g with req := { g.req with chain := .state link },
                 waits := { g.waits with chain := some ⟨.chainState, link + 0x0E, 1, []⟩ } } []))
    ∧ (∀ r, (a.op = .chainLink ∨ (a.op = .groupLink ∧ g.unit = .request r)) → link.toNat % 16 ≠ 0 → g.state ≠ .stopped →
        g.state ≠ .faulted → g.faultHeld = none → g.line.tx = none →
      ∃ t, exec (.accessComplete [b0, b1, b2, b3]) s = .next t
      ∧ (t.segs.get k).state = .faulted ∧ (t.segs.get k).fault = .badLink ∧ (t.segs.get k).faultOwed = some link)
    ∧ (∀ r, a.op = .groupLink → g.unit = .request r → link ≠ 0 → link.toNat % 16 = 0 →
      exec (.accessComplete [b0, b1, b2, b3]) s = .next (s.freePort.afterEvent k
        { g with unit := .request { r with succ := .state link },
                 waits := { g.waits with unit := some ⟨.groupState, link + 0x0E, 1, []⟩ } } []))
    ∧ (∀ r, a.op = .groupLink → g.unit = .request r → link = 0 →
      exec (.accessComplete [b0, b1, b2, b3]) s = .next (s.freePort.afterEvent k
        (Segment.tryComplete
          { g with req := { g.req with cond := if g.req.cond = .holding ∧ g.req.count = 1 then .none else g.req.cond } }
          { r with succ := .unmet, holdUnmet := true }) [])))
    ∧ (∀ (s : State) (k : Seg) (g : Segment) (src : Source) (a : Access) (st : Byte), s.serves k src a →
      s.segs.get k = g →
      (∀ x q, a.op = .chainState → g.req.chain = .state x →
          q = (if st = 1 then { g.req with cand := some x, ready := true, chain := .idle, more := false }
               else { g.req with chain := .idle, more := false }) →
        exec (.accessComplete [st]) s = .next (s.freePort.afterEvent k
          (if g.req.more then Segment.chainRequest { g with req := q } else { g with req := q }) []))
      ∧ (a.op = .headState → st = 1 →
        exec (.accessComplete [st]) s = .next (s.freePort.afterEvent k { g with
          req := { g.req with chain := .idle, examined := true, cand := some g.blk.chainHead, ready := true } } []))
      ∧ (a.op = .headState → st ≠ 1 → g.stopWrite = false → g.req.ready = false → g.req.current = none →
        exec (.accessComplete [st]) s = .next (s.freePort.afterEvent k { g with
          req := { g.req with chain := .link, examined := true, anchor := some g.blk.chainHead },
          waits := { g.waits with chain := some ⟨.chainLink, g.blk.chainHead, 4, []⟩ } } []))
      ∧ (∀ r x, a.op = .groupState → g.unit = .request r → r.succ = .state x → st = 1 →
        exec (.accessComplete [st]) s = .next (s.freePort.afterEvent k
          (Segment.tryComplete { g with req := { g.req with cand := some x, ready := true } }
            { r with succ := .fresh }) []))
      ∧ (∀ r x, a.op = .groupState → g.unit = .request r → r.succ = .state x → st ≠ 1 →
        exec (.accessComplete [st]) s = .next (s.freePort.afterEvent k
          (Segment.tryComplete
            { g with req := { g.req with cond := if g.req.cond = .holding ∧ g.req.count = 1 then .none else g.req.cond } }
            { r with succ := .unmet, holdUnmet := true }) [])))
    -- completion: the outcome write, or the clear write of a STATION_CLEAR, once the successor read has returned
    ∧ ∀ (g : Segment) (r : ReqUnit),
      (r.step ≠ .serve ∨ r.succ.reading = true → g.tryComplete r = { g with unit := .request r })
      ∧ (∀ o, r.step = .serve → r.succ.reading = false → r.outcome = some o → r.buf = none →
        g.tryComplete r = { g with
          unit := .request { r with step := .outcome, doneCycle := g.cycle.number },
          waits := { g.waits with unit := some ⟨.outcomeWrite, r.addr + 0x90, 0,
            placeAt (r.addr + 0x90) [o.code, BitVec.ofNat 8 r.used, 0, if r.holdUnmet then 4 else 0]
              ++ placeAt (r.addr + 0x98) (wrWord g.cycle.number ++ wrWord r.result)⟩ } })
      ∧ (∀ o b f, r.step = .serve → r.succ.reading = false → r.outcome = some o → r.buf = some b →
          g.line.held b = some f →
        g.tryComplete r = { g with
          unit := .request { r with step := .outcome, doneCycle := g.cycle.number },
          waits := { g.waits with unit := some ⟨.outcomeWrite,
            if payloadOf f.chars = [] then r.addr + 0x90 else r.addr + 0x50, 0,
            placeAt (r.addr + 0x50) (payloadOf f.chars)
              ++ placeAt (r.addr + 0x90) [o.code, BitVec.ofNat 8 r.used, lenOf f.chars,
                  (if f.good then 0 else 1) ||| (if seqOf f.chars then 2 else 0) ||| (if r.holdUnmet then 4 else 0)]
              ++ placeAt (r.addr + 0x98) (wrWord g.cycle.number ++ wrWord r.result)⟩ } })
      ∧ (r.step = .serve → r.succ.reading = false → r.outcome = none → r.body.kind = some .stationClear →
        g.tryComplete r = { g with
          unit := .request { r with step := .clear },
          waits := { g.waits with unit := some (.write .clearWrite
            (g.blk.stationTable + BitVec.ofNat 32 (32 * r.body.target.toNat) + 16)
            [0, 0, 0xFF, 0, 0, 0, 0, 0, 0, 0, 0xFF, 0, 0, 0, 0, 0]) } })

/-- R131: the read of a responder record answers a POLL REPLY when the record is armed and fit, and NAK otherwise.
R133, R136: the marker read for a SET or NOTICE: clear gives ACK, and the frame waits for its ACK's end; set gives NAK
and drops the frame, counted, with its buffer free, the latch set and INBOUND_FULL at the first drop. That the buffer is
free at once, and not when the NAK has ended, is the model's reading of R136 ahead of R21 (log 23). An urgent read whose
answer is decided or abandoned is discarded (R130).
R134, R136: the accesses of a filing. A clear marker makes the body write due, a set one drops the frame; the body write
frees the buffer and makes the marker write due; the marker write advances the next index and clears the latch. A
write-back that has completed changes nothing more (R132).
R134: the filing turn goes to one frame at a time, and to a SET or NOTICE waiting for its answer first.
R135, R152: the normal source issues what fell due first, while it has nothing waiting or on the bus, and a slot is
filled with the fields of R135; R131, R133: the urgent read of a pending answer is issued as soon as its source is free
(log 26). -/
def Obligations.InboundFramesAreFiled : Prop :=
  (∀ (s : State) (k : Seg) (g : Segment) (a : Access), s.serves k .urgent a → (a.op = .respRecord ∨ a.op = .inbMarkerUrgent) →
      s.segs.get k = g →
      (∀ p d, g.resp.pend = some p → p.read = .live → p.ans = .undecided → p.kind = .poll →
        exec (.accessComplete d) s = .next (s.freePort.afterEvent k { g with resp := { g.resp with pend := some { p with
          read := .none,
          ans := if rdByte d 0 = 1 ∧ (rdByte d 3).toNat ≤ 64 ∧ (rdByte d 2).toNat ≤ 1 then
              .reply { addr := a.addr, oneShot := rdByte d 1 != 0, seq := rdByte d 2 == 1, count := rdWord d 4,
                       data := rdBytes d 0x10 (rdByte d 3).toNat }
            else .nak } } } []))
      ∧ (∀ p lo hi, g.resp.pend = some p → p.read = .live → p.ans = .undecided → p.kind ≠ .poll → lo = 0 ∧ hi = 0 →
        exec (.accessComplete [lo, hi]) s = .next (s.freePort.afterEvent k { g with resp := { g.resp with
          pend := some { p with read := .none, ans := .ack },
          hands := updFirst (fun h => h.stage == .reading) (fun h => { h with stage := .cleared }) g.resp.hands } } []))
      ∧ (∀ p h lo hi, g.resp.pend = some p → p.read = .live → p.ans = .undecided → p.kind ≠ .poll → ¬(lo = 0 ∧ hi = 0) →
          g.resp.hands.find? (fun h => h.stage == .reading) = some h →
        exec (.accessComplete [lo, hi]) s = .next (s.freePort.afterEvent k { g with
          counters := { g.counters with inbDrops := g.counters.inbDrops + 1 }, line := g.line.release h.buf,
          resp := { g.resp with
            pend := some { p with read := .none, ans := .nak, buf := none }, full := true,
            hands := dropFirst (fun h => h.stage == .reading) g.resp.hands } }
          (if g.resp.full then []
           else [{ s.segNotice k .inboundFull h.kind.code with
                   addr := srcOf (g.frameIn h.buf).chars, ref := g.blk.inbBase + BitVec.ofNat 32 (80 * g.resp.next) }])))
      ∧ (∀ d, (∀ p, g.resp.pend = some p → ¬(p.read = .live ∧ p.ans = .undecided)) →
        exec (.accessComplete d) s = .next (s.freePort.afterEvent k g [])))
    ∧ (∀ (s : State) (k : Seg) (g : Segment) (a : Access), s.serves k .responder a → s.segs.get k = g →
      (∀ lo hi, a.op = .inbMarkerRead → lo = 0 ∧ hi = 0 →
        exec (.accessComplete [lo, hi]) s = .next (s.freePort.afterEvent k { g with resp := { g.resp with
          due := g.resp.due ++ [.filing],
          hands := updFirst (fun h => h.stage == .markerOut) (fun h => { h with stage := .bodyDue }) g.resp.hands } } []))
      ∧ (∀ h lo hi, a.op = .inbMarkerRead → ¬(lo = 0 ∧ hi = 0) →
          g.resp.hands.find? (fun h => h.stage == .markerOut) = some h →
        exec (.accessComplete [lo, hi]) s = .next (s.freePort.afterEvent k { g with
          counters := { g.counters with inbDrops := g.counters.inbDrops + 1 }, line := g.line.release h.buf,
          resp := { g.resp with full := true, hands := dropFirst (fun h => h.stage == .markerOut) g.resp.hands } }
          (if g.resp.full then []
           else [{ s.segNotice k .inboundFull h.kind.code with
                   addr := srcOf (g.frameIn h.buf).chars, ref := g.blk.inbBase + BitVec.ofNat 32 (80 * g.resp.next) }])))
      ∧ (∀ h, a.op = .inbBody → g.resp.hands.find? (fun h => h.stage == .bodyOut) = some h →
        exec (.accessComplete []) s = .next (s.freePort.afterEvent k { g with
          line := g.line.release h.buf,
          resp := { g.resp with
            due := g.resp.due ++ [.filing],
            hands := updFirst (fun h => h.stage == .bodyOut) (fun h => { h with stage := .markDue }) g.resp.hands } } []))
      ∧ (a.op = .inbMarkerWrite →
        exec (.accessComplete []) s = .next (s.freePort.afterEvent k { g with resp := { g.resp with
          next := if g.resp.next + 1 < g.blk.inbSlots.toNat then g.resp.next + 1 else 0, full := false,
          hands := dropFirst (fun h => h.stage == .markOut) g.resp.hands } } []))
      ∧ (a.op = .writeBack → exec (.accessComplete []) s = .next (s.freePort.afterEvent k g [])))
    -- the filing turn
    ∧ (∀ (g : Segment) (busy : List Stage),
      busy = [.reading, .cleared, .markerDue, .markerOut, .bodyDue, .bodyOut, .markDue, .markOut] →
      ((∃ h ∈ g.resp.hands, h.stage ∈ busy) → g.filingTurn = g)
      ∧ (∀ p, (∀ h ∈ g.resp.hands, h.stage ∉ busy) → (∃ h ∈ g.resp.hands, h.stage = .wantRead) → g.resp.pend = some p →
        g.filingTurn = { g with resp := { g.resp with
          pend := some { p with read := .owed },
          hands := updFirst (fun h => h.stage == .wantRead) (fun h => { h with stage := .reading }) g.resp.hands } })
      ∧ ((∀ h ∈ g.resp.hands, h.stage ∉ busy ∧ h.stage ≠ .wantRead) → (∃ h ∈ g.resp.hands, h.stage = .queued) →
        g.filingTurn = { g with resp := { g.resp with
          due := g.resp.due ++ [.filing],
          hands := updFirst (fun h => h.stage == .queued) (fun h => { h with stage := .markerDue }) g.resp.hands } }))
    -- the accesses that are issued
    ∧ ∀ (s : State) (k : Seg) (g t : Segment) (ns : List Notice) (slot : Word), g.state ≠ .stopped → g.state ≠ .faulted →
      g.faultHeld = none → (s.afterEvent k g ns).segs.get k = t →
      slot = g.blk.inbBase + BitVec.ofNat 32 (80 * g.resp.next) →
      (∀ wb rest, g.waits.responder = none → (∀ b, s.port.busy = some b → b.req ≠ .segment k .responder) →
          g.resp.due = .writeBack wb :: rest →
        t.waits.responder = some ⟨.writeBack, wb.addr, 0,
          (if wb.disarm then [(wb.addr, 0)] else []) ++ placeAt (wb.addr + 4) (wrWord wb.count)⟩)
      ∧ (∀ h rest cs, g.waits.responder = none → (∀ b, s.port.busy = some b → b.req ≠ .segment k .responder) →
          g.resp.due = .filing :: rest →
          g.resp.hands.find? (fun h => h.stage == .markerDue || h.stage == .bodyDue || h.stage == .markDue) = some h →
          cs = (g.frameIn h.buf).chars →
        (h.stage = .markerDue → t.waits.responder = some ⟨.inbMarkerRead, slot, 2, []⟩)
        ∧ (h.stage = .bodyDue → t.waits.responder = some (.write .inbBody (slot + 2)
            ([h.kind.code, srcOf cs, destOf cs, ctrlOf cs, lenOf cs, h.given.code, 0, 0, 0, 0] ++ wrWord h.cycle
              ++ payloadOf cs)))
        ∧ (h.stage = .markDue → t.waits.responder = some (.write .inbMarkerWrite slot [1, 0])))
      ∧ (∀ a, g.waits.responder = some a → t.waits.responder = some a)
      ∧ (∀ p, g.resp.pend = some p → p.read = .owed → g.waits.urgent = none →
          (∀ b, s.port.busy = some b → b.req ≠ .segment k .urgent) →
        t.waits.urgent = some
          (if p.kind = .poll then ⟨.respRecord, g.blk.respTable + BitVec.ofNat 32 (80 * p.k), 80, []⟩
           else ⟨.inbMarkerUrgent, slot, 2, []⟩))

/-- R48, R62, R63, R76: the completion of a status write ends the entry, its opportunity is due, and the change of
health is raised under NOTIFY_HEALTH. -/
def Obligations.StatusWriteEndsEntry : Prop :=
  ∀ (s : State) (k : Seg) (g : Segment) (src : Source) (a : Access) (e : EntryUnit) (o : Ending) (new : Health),
    s.serves k src a → a.op = .statusWrite → s.segs.get k = g → g.unit = .entry e → e.outcome = some o →
    new = (e.newStatus o g.cycle.number).state →
    exec (.accessComplete []) s = .next (s.freePort.afterEvent k { g with
      unit := .none, xact := .idle, cycle := { g.cycle with point := .oppDue, losses := 0, attempt := 0 } }
      (if e.cfg.notifyHealth = true ∧ new = .lost ∧ e.st.state ≠ .lost then
        [⟨.stationLost, BitVec.ofNat 8 k.toNat, e.station, e.cfg.addr, (e.newStatus o g.cycle.number).miss,
          g.cycle.number, e.recAddr⟩]
       else if e.cfg.notifyHealth = true ∧ new = .active ∧ e.st.state = .lost then
        [⟨.stationBack, BitVec.ofNat 8 k.toNat, e.station, e.cfg.addr, e.st.miss, g.cycle.number, e.recAddr⟩]
       else []))

/-! ## What an event makes due -/

/-- A segment unit in which nothing is due stays at the value its event gave it; the notices are raised in order, and
with none raised in a settled block nothing else changes.
R159: a request that the segment withdraws is no longer among those that had arrived when the last response returned (log
32). R154: no event of a segment adds a request to those: what it makes due arrives at the port with the rest.
R38, R145: when a STOPPING segment has no frame on the line, no unit, no answer, no filing and no access on the bus or
waiting, the sample timer stops and the record write that carries STOPPED is asked for, merging with a record write that
waits (log 21); until then it is not.
R75, R141: a unit that has lost the line ends LINE_LOST once no answer is owed (log 16): a poll entry with its status
write, its pause-after running on (R77), a request as its outcome decides. -/
def Obligations.NothingDueStaysAsGiven : Prop :=
  (∀ (s : State) (k : Seg) (g : Segment) (ns : List Notice), g.calm →
      s.afterEvent k g ns = ((s.takeSeg k g).raiseAll ns).settle
        ∧ (ns = [] → s.settled → g.runBit = (s.segs.get k).runBit → s.afterEvent k g ns = s.takeSeg k g))
    ∧ (∀ (s : State) (k : Seg) (g : Segment),
      ((∀ src, (s.segs.get k).waits.access src ≠ none → g.waits.access src ≠ none) → s.takeSeg k g = s.putSeg k g)
      ∧ (∀ r, r ∈ (s.takeSeg k g).port.waited ↔ r ∈ s.port.waited
        ∧ ∀ src, r = .segment k src → (s.segs.get k).waits.access src ≠ none → g.waits.access src ≠ none)
      ∧ ∀ ns r, r ∈ (s.afterEvent k g ns).port.waited → r ∈ s.port.waited)
    ∧ (∀ (s : State) (k : Seg) (g : Segment) (ns : List Notice), g.state = .stopping → g.faultHeld = none → g.stopWrite = false →
      g.unit = .none → g.xact = .idle → g.resp.quiet → g.waits.urgent = none → g.waits.responder = none →
      g.waits.unit = none → g.waits.chain = none →
      (g.line.tx = none → (∀ b src, s.port.busy = some b → b.req ≠ .segment k src) →
        (s.afterEvent k g ns).segs.get k = { g with
          stopWrite := true, supply := { g.supply with timer := .stopped },
          waits := { g.waits with control := some g.progressWait } })
      ∧ (g.line.tx ≠ none ∨ (∃ b src, s.port.busy = some b ∧ b.req = .segment k src) →
        (s.afterEvent k g ns).segs.get k = g))
    ∧ (∀ (s : State) (k : Seg) (g t : Segment) (ns : List Notice), g.state ≠ .stopped → g.state ≠ .faulted →
      g.faultHeld = none → g.xact = .lostAnswer → g.unit ≠ .none → (s.afterEvent k g ns).segs.get k = t →
      (∀ p, g.resp.pend = some p → t.unit = g.unit ∧ t.xact = .lostAnswer ∧ t.waits.unit = g.waits.unit)
      ∧ (∀ e, g.resp.pend = none → g.unit = .entry e →
        t.unit = .entry { e with step := .status, outcome := some .lineLost } ∧ t.xact = .idle
        ∧ t.cycle.pause = (if e.pauseAfter = 0 ∨ g.state = .stopping then .none else g.cycle.pause)
        ∧ t.waits.unit = some (.write .statusWrite (e.recAddr + 16)
            (Status.bytes { e.st with state := healthOf e.cfg.threshold e.st.miss e.st.heard } 6)))
      ∧ (∀ r, g.resp.pend = none → g.unit = .request r → t.unit = (g.decideReq r .lineLost).unit ∧ t.xact = .idle
        ∧ t.waits.unit = (g.decideReq r .lineLost).waits.unit))

/-- R13, R72, R53, R5, R12: in LOCKED the POLL of a poll entry that is ready begins at once when the tracker is FREE,
with the last seq read as its ack bit and the tracker BUSY; otherwise it waits.
R130, R129, R13, R140, R5: an owed answer that is decided begins when its turnaround has been reached, whatever the
tracker holds and whatever work frame is ready: from the own address at which the frame arrived to its SRC. -/
def Obligations.FramesBeginWhenDue : Prop :=
  (∀ (s : State) (k : Seg) (g : Segment) (e : EntryUnit) (ns : List Notice), g.state = .locked → g.faultHeld = none →
      g.unit = .entry e → g.xact = .ready → g.line.tx = none → g.resp.quiet →
      (g.line.tracker = .free →
        (s.afterEvent k g ns).segs.get k = { g with
          line := { g.line with
            tx := some ⟨buildFrame e.cfg.addr g.blk.own0 (if e.st.lastSeq = some true then 0x10 else 0x00)
              (e.cfg.payload.take e.cfg.payLen.toNat), .poll, false⟩,
            tracker := .busy, idle := false },
          xact := .sending })
      ∧ (g.line.tracker ≠ .free → (s.afterEvent k g ns).segs.get k = g))
    ∧ (∀ (s : State) (k : Seg) (g : Segment) (p : Pend) (ns : List Notice), g.state = .locked → g.faultHeld = none →
      g.line.tx = none → g.resp.pend = some p → p.turn = true → p.begun = false →
      (∀ r, p.ans = .reply r → ((s.afterEvent k g ns).segs.get k).line.tx =
        some ⟨buildFrame p.src p.own (if r.seq then 0x09 else 0x01) r.data, .reply, true⟩)
      ∧ (p.ans = .ack → ((s.afterEvent k g ns).segs.get k).line.tx = some ⟨buildFrame p.src p.own 0x03 [], .ack, true⟩)
      ∧ (p.ans = .nak → ((s.afterEvent k g ns).segs.get k).line.tx = some ⟨buildFrame p.src p.own 0x04 [], .nak, true⟩)
      ∧ (p.ans ≠ .undecided → ((s.afterEvent k g ns).segs.get k).line.tracker = .busy
          ∧ ∃ q, ((s.afterEvent k g ns).segs.get k).resp.pend = some q ∧ q.begun = true))

/-- R70, R67, R78, R79, R80, R108, R69: the next unit of work of a LOCKED segment that serves none: the entry at the
poll index, the unit of a ready request at an opportunity, in WAITING or in PAUSED, the entry after an opportunity that
passes, and the entry of a cycle that begins. R78, R83: a request taken at an opportunity makes the cycle stand in that
opportunity until the unit ends; R104, R124: its group begins afresh.
R79, R83: a cycle with no poll entries. With period 0 its opportunity stays open until a request is ready; with another
period the cycle ends at its begin, its record write is asked for, and the engine waits. -/
def Obligations.SequencerBeginsNextUnit : Prop :=
  ∀ (s : State) (k : Seg) (g : Segment) (ns : List Notice), g.state = .locked → g.faultHeld = none → g.unit = .none →
    g.xact = .idle → g.resp.quiet → g.line.tx = none →
    -- the entry that is due is read
    (g.cycle.state = .running → g.cycle.point = .entryDue → g.cycle.held = false →
      (s.afterEvent k g ns).segs.get k = { g with
        unit := .entry EntryUnit.begin,
        waits := { g.waits with
          unit := some ⟨.entryRead, g.blk.pollList + BitVec.ofNat 32 (2 * g.cycle.index), 2, []⟩ },
        cycle := { g.cycle with point := .inEntry, pause := .none, losses := 0, attempt := 0 } })
    -- an opportunity with no request ready passes, and the next entry is read
    ∧ (g.cycle.state = .running → g.cycle.point = .oppDue → g.cycle.pause = .none → g.cycle.held = false →
        g.req.ready = false → g.cycle.index + 1 < g.blk.pollLength.toNat →
      (s.afterEvent k g ns).segs.get k = { g with
        unit := .entry EntryUnit.begin,
        waits := { g.waits with
          unit := some ⟨.entryRead, g.blk.pollList + BitVec.ofNat 32 (2 * (g.cycle.index + 1)), 2, []⟩ },
        cycle := { g.cycle with index := g.cycle.index + 1, point := .inEntry, pause := .none, losses := 0,
                                attempt := 0 } })
    -- the opportunity of the last entry ends the cycle: a record write with its number is asked for, and the engine waits
    ∧ (g.cycle.state = .running → g.cycle.point = .oppDue → g.cycle.pause = .none → g.cycle.held = false →
        g.req.ready = false → g.blk.pollLength.toNat ≤ g.cycle.index + 1 → g.cycle.expired = false → g.blk.period ≠ 0 →
      (s.afterEvent k g ns).segs.get k = { g with
        waits := { g.waits with control := some g.progressWait }, prEnded := some g.cycle.number,
        cycle := { g.cycle with state := .waiting, point := .notBegun } })
    -- after an overrun, or with period 0, the next cycle begins at once; the record write carries the ended cycle's number
    ∧ (g.cycle.state = .running → g.cycle.point = .oppDue → g.cycle.pause = .none → g.cycle.held = false →
        g.req.ready = false → g.blk.pollLength.toNat ≤ g.cycle.index + 1 → (g.cycle.expired = true ∨ g.blk.period = 0) →
        g.blk.pollLength ≠ 0 →
      (s.afterEvent k g ns).segs.get k = { g with
        unit := .entry EntryUnit.begin,
        waits := { g.waits with
          control := some g.progressWait, unit := some ⟨.entryRead, g.blk.pollList, 2, []⟩ },
        prEnded := some g.cycle.number,
        cycle := { g.cycle with
          number := g.cycle.number + 1, index := 0, expired := false,
          timer := if g.blk.period = 0 then .stopped else .running g.blk.period.toNat,
          point := .inEntry, losses := 0, attempt := 0 } })
    -- a ready request is taken at an opportunity, in WAITING and in PAUSED
    ∧ (∀ a, g.req.ready = true → g.req.cand = some a → g.cycle.held = false →
        ((g.cycle.state = .running ∧ (g.cycle.point = .oppDue ∧ g.cycle.pause = .none ∨ g.cycle.point = .oppOpen))
          ∨ (g.cycle.state = .waiting ∧ g.cycle.expired = false) ∨ g.cycle.state = .paused) →
      (s.afterEvent k g ns).segs.get k = { g with
        unit := .request (ReqUnit.begin a false),
        waits := { g.waits with unit := some ⟨.takeRead, a, 160, []⟩ },
        req := { g.req with count := 0, cond := .none, losses := 0, lineHeld := true, sent := false, gap := .none },
        cycle := { g.cycle with
          point := if g.cycle.point = .oppDue ∨ g.cycle.point = .oppOpen then .inOpp else g.cycle.point } })
    -- a pause-after holds the opportunity
    ∧ (g.cycle.state = .running → g.cycle.point = .oppDue → g.cycle.pause ≠ .none → g.cycle.held = false →
      (s.afterEvent k g ns).segs.get k = g)
    -- a cycle with no poll entries begins, and its opportunity stays open
    ∧ ((g.cycle.held = true ∧ g.cycle.point = .notBegun) ∨ (g.cycle.state = .waiting ∧ g.cycle.expired = true) →
        g.blk.pollLength = 0 → g.req.ready = false →
      (s.afterEvent k g ns).segs.get k =
        if g.blk.period = 0 then { g with cycle := { g.cycle with
          state := .running, number := g.cycle.number + 1, index := 0, expired := false, held := false,
          timer := .stopped, point := .oppOpen } }
        else { g with
          waits := { g.waits with control := some g.progressWait }, prEnded := some (g.cycle.number + 1),
          cycle := { g.cycle with
            state := .waiting, number := g.cycle.number + 1, index := 0, expired := false, held := false,
            timer := .running g.blk.period.toNat, point := .notBegun } })
    ∧ (g.cycle.state = .running → g.cycle.point = .oppOpen → g.cycle.held = false → g.req.ready = false →
      (s.afterEvent k g ns).segs.get k = g)
    -- a cycle begins: held from an earlier event, or on an expiry in WAITING
    ∧ ((g.cycle.held = true ∧ g.cycle.point = .notBegun) ∨ (g.cycle.state = .waiting ∧ g.cycle.expired = true) →
        g.blk.pollLength ≠ 0 →
      (s.afterEvent k g ns).segs.get k = { g with
        unit := .entry EntryUnit.begin,
        waits := { g.waits with unit := some ⟨.entryRead, g.blk.pollList, 2, []⟩ },
        cycle := { g.cycle with
          state := .running, number := g.cycle.number + 1, index := 0, expired := false, held := false,
          timer := if g.blk.period = 0 then .stopped else .running g.blk.period.toNat,
          point := .inEntry, pause := .none, losses := 0, attempt := 0 } })
    ∧ ∃ cfg st, EntryUnit.begin = {
        step := .entryRead, station := 0, pauseAfter := 0, recAddr := 0, cfg := cfg, st := st, outcome := none, buf := none,
        seq := false, dropped := false, used := 0 }

/-! ## Fields and frames -/

/-- R52: the state of every status half the part writes is fixed by the miss count, the threshold and the heard flag it
carries. -/
def Obligations.HealthFollowsMissCount : Prop :=
  (∀ (e : EntryUnit) (o : Ending) (cycle : Word) (w : Status), w = e.newStatus o cycle →
    (e.cfg.threshold.toNat ≤ w.miss.toNat → w.state = .lost)
    ∧ (1 ≤ w.miss.toNat → w.miss.toNat < e.cfg.threshold.toNat → w.state = .suspect)
    ∧ (w.miss = 0 → w.miss.toNat < e.cfg.threshold.toNat → w.heard = true → w.state = .active)
    ∧ (w.miss = 0 → w.miss.toNat < e.cfg.threshold.toNat → w.heard = false → w.state = .unknown))
    ∧ Status.cleared.state = .unknown

/-- R55: a REPLY taken as an answer is a duplicate exactly when EXPECT_SEQ is set, the last seq read is 0 or 1, and the
seq bit of the REPLY equals it; in every other case it is accepted. A duplicate ends the attempt and the entry, with
outcome DUPLICATE and its status write: no capture, no further attempt. -/
def Obligations.DuplicateRepeatsLastSeq : Prop :=
  ∀ (e : EntryUnit) (f : RxFrame), srcOf f.chars = e.cfg.addr → kindOf f.chars = some .reply →
    (f.good = true ∨ e.cfg.acceptDamaged = true) →
    (e.cfg.expectSeq = true → (∃ q, e.st.lastSeq = some q ∧ seqOf f.chars = q) → e.judge (some f) = .duplicate)
    ∧ (¬(e.cfg.expectSeq = true ∧ ∃ q, e.st.lastSeq = some q ∧ seqOf f.chars = q) → e.judge (some f) = .replied)
    ∧ (∀ g : Segment, g.unit = .entry e → g.line.freeBuf ≠ none → e.judge (some f) = .duplicate →
        (g.answerReported (some f)).unit = .entry { e with used := e.used + 1, step := .status, outcome := some .duplicate }
        ∧ (g.answerReported (some f)).xact = .idle
        ∧ ∃ a, (g.answerReported (some f)).waits.unit = some a ∧ a.op = .statusWrite)

/-- R4, R5, R6, R7, R8: the characters of every frame the part can build, received one after another with correct parity
and stop bits, are reported as one GOOD frame with the same header fields and payload, and no framing fault. -/
def Obligations.BuiltFrameIsReceivedGood : Prop :=
  ∀ (dest src : Byte) (kind : FrameKind) (seq ack : Bool) (payload : List Byte),
    dest.toNat ≤ 127 → src.toNat ≤ 127 → payload.length ≤ 64 →
    ∃ a : Assembly,
      (buildFrame dest src (ctrlByte kind seq ack) payload).foldl (fun x c => some (assemble x c true true)) none = some a
      ∧ a.cls = .good ∧ a.framingFault = false ∧ a.chars = buildFrame dest src (ctrlByte kind seq ack) payload
      ∧ destOf a.chars = dest ∧ srcOf a.chars = src ∧ kindOf a.chars = some kind ∧ seqOf a.chars = seq
      ∧ payloadOf a.chars = payload ∧ a.frame.good = true ∧ a.frame.marks = []
end

