-- ==== Sys2Proof/Laws/State.lean ====
section
/-! SUPPORT. What each update of a record does to each of its fields: one lemma a field and update, by rfl. -/

namespace Sys2Proof.Machine

/-! ## Four values -/

@[simp] theorem Four.get_put_same {α : Type} (f : Four α) (k : Seg) (a : α) : (f.put k a).get k = a := by cases k <;> rfl

@[simp] theorem Four.get_put_ne {α : Type} (f : Four α) {j k : Seg} (h : j ≠ k) (a : α) :
    (f.put k a).get j = f.get j := by cases j <;> cases k <;> first | rfl | exact absurd rfl h

@[simp] theorem Four.put_get {α : Type} (f : Four α) (k : Seg) : f.put k (f.get k) = f := by cases k <;> rfl

@[simp] theorem Four.put_put {α : Type} (f : Four α) (k : Seg) (a b : α) : (f.put k a).put k b = f.put k b := by
  cases k <;> rfl

theorem Four.get_put {α : Type} (f : Four α) (j k : Seg) (a : α) :
    (f.put k a).get j = if j = k then a else f.get j := by cases j <;> cases k <;> rfl

@[simp] theorem Four.get_map {α β : Type} (f : Four α) (g : α → β) (k : Seg) : (f.map g).get k = g (f.get k) := by
  cases k <;> rfl

@[simp] theorem Four.get_const {α : Type} (a : α) (k : Seg) : (Four.const a).get k = a := by cases k <;> rfl

/-- A statement of every segment, as one of each. -/
theorem Seg.forall_iff {p : Seg → Prop} : (∀ k, p k) ↔ p .s0 ∧ p .s1 ∧ p .s2 ∧ p .s3 :=
  ⟨fun h => ⟨h _, h _, h _, h _⟩, fun h k => by
    obtain ⟨h0, h1, h2, h3⟩ := h
    cases k <;> assumption⟩

/-! ## Segment.setLine -/

@[simp] theorem Segment.setLine_blockPtr (s : Segment) (l : Line) : (s.setLine l).blockPtr = s.blockPtr := rfl
@[simp] theorem Segment.setLine_scanInterval (s : Segment) (l : Line) : (s.setLine l).scanInterval = s.scanInterval := rfl
@[simp] theorem Segment.setLine_run (s : Segment) (l : Line) : (s.setLine l).run = s.run := rfl
@[simp] theorem Segment.setLine_state (s : Segment) (l : Line) : (s.setLine l).state = s.state := rfl
@[simp] theorem Segment.setLine_starting (s : Segment) (l : Line) : (s.setLine l).starting = s.starting := rfl
@[simp] theorem Segment.setLine_fault (s : Segment) (l : Line) : (s.setLine l).fault = s.fault := rfl
@[simp] theorem Segment.setLine_good (s : Segment) (l : Line) : (s.setLine l).good = s.good := rfl
@[simp] theorem Segment.setLine_departed (s : Segment) (l : Line) : (s.setLine l).departed = s.departed := rfl
@[simp] theorem Segment.setLine_everLocked (s : Segment) (l : Line) : (s.setLine l).everLocked = s.everLocked := rfl
@[simp] theorem Segment.setLine_stopWrite (s : Segment) (l : Line) : (s.setLine l).stopWrite = s.stopWrite := rfl
@[simp] theorem Segment.setLine_faultHeld (s : Segment) (l : Line) : (s.setLine l).faultHeld = s.faultHeld := rfl
@[simp] theorem Segment.setLine_faultOwed (s : Segment) (l : Line) : (s.setLine l).faultOwed = s.faultOwed := rfl
@[simp] theorem Segment.setLine_stopOwed (s : Segment) (l : Line) : (s.setLine l).stopOwed = s.stopOwed := rfl
@[simp] theorem Segment.setLine_prWait (s : Segment) (l : Line) : (s.setLine l).prWait = s.prWait := rfl
@[simp] theorem Segment.setLine_prBus (s : Segment) (l : Line) : (s.setLine l).prBus = s.prBus := rfl
@[simp] theorem Segment.setLine_prFault (s : Segment) (l : Line) : (s.setLine l).prFault = s.prFault := rfl
@[simp] theorem Segment.setLine_prEnded (s : Segment) (l : Line) : (s.setLine l).prEnded = s.prEnded := rfl
@[simp] theorem Segment.setLine_counters (s : Segment) (l : Line) : (s.setLine l).counters = s.counters := rfl
@[simp] theorem Segment.setLine_line (s : Segment) (l : Line) : (s.setLine l).line = l := rfl
@[simp] theorem Segment.setLine_waits (s : Segment) (l : Line) : (s.setLine l).waits = s.waits := rfl
@[simp] theorem Segment.setLine_cycle (s : Segment) (l : Line) : (s.setLine l).cycle = s.cycle := rfl
@[simp] theorem Segment.setLine_cap (s : Segment) (l : Line) : (s.setLine l).cap = s.cap := rfl
@[simp] theorem Segment.setLine_req (s : Segment) (l : Line) : (s.setLine l).req = s.req := rfl
@[simp] theorem Segment.setLine_unit (s : Segment) (l : Line) : (s.setLine l).unit = s.unit := rfl
@[simp] theorem Segment.setLine_xact (s : Segment) (l : Line) : (s.setLine l).xact = s.xact := rfl
@[simp] theorem Segment.setLine_resp (s : Segment) (l : Line) : (s.setLine l).resp = s.resp := rfl
@[simp] theorem Segment.setLine_supply (s : Segment) (l : Line) : (s.setLine l).supply = s.supply := rfl

/-! ## Segment.setPend -/

@[simp] theorem Segment.setPend_blockPtr (s : Segment) (p : Option Pend) : (s.setPend p).blockPtr = s.blockPtr := rfl
@[simp] theorem Segment.setPend_scanInterval (s : Segment) (p : Option Pend) : (s.setPend p).scanInterval = s.scanInterval := rfl
@[simp] theorem Segment.setPend_run (s : Segment) (p : Option Pend) : (s.setPend p).run = s.run := rfl
@[simp] theorem Segment.setPend_state (s : Segment) (p : Option Pend) : (s.setPend p).state = s.state := rfl
@[simp] theorem Segment.setPend_starting (s : Segment) (p : Option Pend) : (s.setPend p).starting = s.starting := rfl
@[simp] theorem Segment.setPend_fault (s : Segment) (p : Option Pend) : (s.setPend p).fault = s.fault := rfl
@[simp] theorem Segment.setPend_good (s : Segment) (p : Option Pend) : (s.setPend p).good = s.good := rfl
@[simp] theorem Segment.setPend_departed (s : Segment) (p : Option Pend) : (s.setPend p).departed = s.departed := rfl
@[simp] theorem Segment.setPend_everLocked (s : Segment) (p : Option Pend) : (s.setPend p).everLocked = s.everLocked := rfl
@[simp] theorem Segment.setPend_stopWrite (s : Segment) (p : Option Pend) : (s.setPend p).stopWrite = s.stopWrite := rfl
@[simp] theorem Segment.setPend_faultHeld (s : Segment) (p : Option Pend) : (s.setPend p).faultHeld = s.faultHeld := rfl
@[simp] theorem Segment.setPend_faultOwed (s : Segment) (p : Option Pend) : (s.setPend p).faultOwed = s.faultOwed := rfl
@[simp] theorem Segment.setPend_stopOwed (s : Segment) (p : Option Pend) : (s.setPend p).stopOwed = s.stopOwed := rfl
@[simp] theorem Segment.setPend_prWait (s : Segment) (p : Option Pend) : (s.setPend p).prWait = s.prWait := rfl
@[simp] theorem Segment.setPend_prBus (s : Segment) (p : Option Pend) : (s.setPend p).prBus = s.prBus := rfl
@[simp] theorem Segment.setPend_prFault (s : Segment) (p : Option Pend) : (s.setPend p).prFault = s.prFault := rfl
@[simp] theorem Segment.setPend_prEnded (s : Segment) (p : Option Pend) : (s.setPend p).prEnded = s.prEnded := rfl
@[simp] theorem Segment.setPend_counters (s : Segment) (p : Option Pend) : (s.setPend p).counters = s.counters := rfl
@[simp] theorem Segment.setPend_line (s : Segment) (p : Option Pend) : (s.setPend p).line = s.line := rfl
@[simp] theorem Segment.setPend_waits (s : Segment) (p : Option Pend) : (s.setPend p).waits = s.waits := rfl
@[simp] theorem Segment.setPend_cycle (s : Segment) (p : Option Pend) : (s.setPend p).cycle = s.cycle := rfl
@[simp] theorem Segment.setPend_cap (s : Segment) (p : Option Pend) : (s.setPend p).cap = s.cap := rfl
@[simp] theorem Segment.setPend_req (s : Segment) (p : Option Pend) : (s.setPend p).req = s.req := rfl
@[simp] theorem Segment.setPend_unit (s : Segment) (p : Option Pend) : (s.setPend p).unit = s.unit := rfl
@[simp] theorem Segment.setPend_xact (s : Segment) (p : Option Pend) : (s.setPend p).xact = s.xact := rfl
@[simp] theorem Segment.setPend_resp (s : Segment) (p : Option Pend) : (s.setPend p).resp = { s.resp with pend := p } := rfl
@[simp] theorem Segment.setPend_supply (s : Segment) (p : Option Pend) : (s.setPend p).supply = s.supply := rfl

/-! ## Segment.setHands -/

@[simp] theorem Segment.setHands_blockPtr (s : Segment) (hs : List Hand) : (s.setHands hs).blockPtr = s.blockPtr := rfl
@[simp] theorem Segment.setHands_scanInterval (s : Segment) (hs : List Hand) : (s.setHands hs).scanInterval = s.scanInterval := rfl
@[simp] theorem Segment.setHands_run (s : Segment) (hs : List Hand) : (s.setHands hs).run = s.run := rfl
@[simp] theorem Segment.setHands_state (s : Segment) (hs : List Hand) : (s.setHands hs).state = s.state := rfl
@[simp] theorem Segment.setHands_starting (s : Segment) (hs : List Hand) : (s.setHands hs).starting = s.starting := rfl
@[simp] theorem Segment.setHands_fault (s : Segment) (hs : List Hand) : (s.setHands hs).fault = s.fault := rfl
@[simp] theorem Segment.setHands_good (s : Segment) (hs : List Hand) : (s.setHands hs).good = s.good := rfl
@[simp] theorem Segment.setHands_departed (s : Segment) (hs : List Hand) : (s.setHands hs).departed = s.departed := rfl
@[simp] theorem Segment.setHands_everLocked (s : Segment) (hs : List Hand) : (s.setHands hs).everLocked = s.everLocked := rfl
@[simp] theorem Segment.setHands_stopWrite (s : Segment) (hs : List Hand) : (s.setHands hs).stopWrite = s.stopWrite := rfl
@[simp] theorem Segment.setHands_faultHeld (s : Segment) (hs : List Hand) : (s.setHands hs).faultHeld = s.faultHeld := rfl
@[simp] theorem Segment.setHands_faultOwed (s : Segment) (hs : List Hand) : (s.setHands hs).faultOwed = s.faultOwed := rfl
@[simp] theorem Segment.setHands_stopOwed (s : Segment) (hs : List Hand) : (s.setHands hs).stopOwed = s.stopOwed := rfl
@[simp] theorem Segment.setHands_prWait (s : Segment) (hs : List Hand) : (s.setHands hs).prWait = s.prWait := rfl
@[simp] theorem Segment.setHands_prBus (s : Segment) (hs : List Hand) : (s.setHands hs).prBus = s.prBus := rfl
@[simp] theorem Segment.setHands_prFault (s : Segment) (hs : List Hand) : (s.setHands hs).prFault = s.prFault := rfl
@[simp] theorem Segment.setHands_prEnded (s : Segment) (hs : List Hand) : (s.setHands hs).prEnded = s.prEnded := rfl
@[simp] theorem Segment.setHands_counters (s : Segment) (hs : List Hand) : (s.setHands hs).counters = s.counters := rfl
@[simp] theorem Segment.setHands_line (s : Segment) (hs : List Hand) : (s.setHands hs).line = s.line := rfl
@[simp] theorem Segment.setHands_waits (s : Segment) (hs : List Hand) : (s.setHands hs).waits = s.waits := rfl
@[simp] theorem Segment.setHands_cycle (s : Segment) (hs : List Hand) : (s.setHands hs).cycle = s.cycle := rfl
@[simp] theorem Segment.setHands_cap (s : Segment) (hs : List Hand) : (s.setHands hs).cap = s.cap := rfl
@[simp] theorem Segment.setHands_req (s : Segment) (hs : List Hand) : (s.setHands hs).req = s.req := rfl
@[simp] theorem Segment.setHands_unit (s : Segment) (hs : List Hand) : (s.setHands hs).unit = s.unit := rfl
@[simp] theorem Segment.setHands_xact (s : Segment) (hs : List Hand) : (s.setHands hs).xact = s.xact := rfl
@[simp] theorem Segment.setHands_resp (s : Segment) (hs : List Hand) : (s.setHands hs).resp = { s.resp with hands := hs } := rfl
@[simp] theorem Segment.setHands_supply (s : Segment) (hs : List Hand) : (s.setHands hs).supply = s.supply := rfl

/-! ## Segment.setEntry -/

@[simp] theorem Segment.setEntry_blockPtr (s : Segment) (e : EntryUnit) : (s.setEntry e).blockPtr = s.blockPtr := rfl
@[simp] theorem Segment.setEntry_scanInterval (s : Segment) (e : EntryUnit) : (s.setEntry e).scanInterval = s.scanInterval := rfl
@[simp] theorem Segment.setEntry_run (s : Segment) (e : EntryUnit) : (s.setEntry e).run = s.run := rfl
@[simp] theorem Segment.setEntry_state (s : Segment) (e : EntryUnit) : (s.setEntry e).state = s.state := rfl
@[simp] theorem Segment.setEntry_starting (s : Segment) (e : EntryUnit) : (s.setEntry e).starting = s.starting := rfl
@[simp] theorem Segment.setEntry_fault (s : Segment) (e : EntryUnit) : (s.setEntry e).fault = s.fault := rfl
@[simp] theorem Segment.setEntry_good (s : Segment) (e : EntryUnit) : (s.setEntry e).good = s.good := rfl
@[simp] theorem Segment.setEntry_departed (s : Segment) (e : EntryUnit) : (s.setEntry e).departed = s.departed := rfl
@[simp] theorem Segment.setEntry_everLocked (s : Segment) (e : EntryUnit) : (s.setEntry e).everLocked = s.everLocked := rfl
@[simp] theorem Segment.setEntry_stopWrite (s : Segment) (e : EntryUnit) : (s.setEntry e).stopWrite = s.stopWrite := rfl
@[simp] theorem Segment.setEntry_faultHeld (s : Segment) (e : EntryUnit) : (s.setEntry e).faultHeld = s.faultHeld := rfl
@[simp] theorem Segment.setEntry_faultOwed (s : Segment) (e : EntryUnit) : (s.setEntry e).faultOwed = s.faultOwed := rfl
@[simp] theorem Segment.setEntry_stopOwed (s : Segment) (e : EntryUnit) : (s.setEntry e).stopOwed = s.stopOwed := rfl
@[simp] theorem Segment.setEntry_prWait (s : Segment) (e : EntryUnit) : (s.setEntry e).prWait = s.prWait := rfl
@[simp] theorem Segment.setEntry_prBus (s : Segment) (e : EntryUnit) : (s.setEntry e).prBus = s.prBus := rfl
@[simp] theorem Segment.setEntry_prFault (s : Segment) (e : EntryUnit) : (s.setEntry e).prFault = s.prFault := rfl
@[simp] theorem Segment.setEntry_prEnded (s : Segment) (e : EntryUnit) : (s.setEntry e).prEnded = s.prEnded := rfl
@[simp] theorem Segment.setEntry_counters (s : Segment) (e : EntryUnit) : (s.setEntry e).counters = s.counters := rfl
@[simp] theorem Segment.setEntry_line (s : Segment) (e : EntryUnit) : (s.setEntry e).line = s.line := rfl
@[simp] theorem Segment.setEntry_waits (s : Segment) (e : EntryUnit) : (s.setEntry e).waits = s.waits := rfl
@[simp] theorem Segment.setEntry_cycle (s : Segment) (e : EntryUnit) : (s.setEntry e).cycle = s.cycle := rfl
@[simp] theorem Segment.setEntry_cap (s : Segment) (e : EntryUnit) : (s.setEntry e).cap = s.cap := rfl
@[simp] theorem Segment.setEntry_req (s : Segment) (e : EntryUnit) : (s.setEntry e).req = s.req := rfl
@[simp] theorem Segment.setEntry_unit (s : Segment) (e : EntryUnit) : (s.setEntry e).unit = .entry e := rfl
@[simp] theorem Segment.setEntry_xact (s : Segment) (e : EntryUnit) : (s.setEntry e).xact = s.xact := rfl
@[simp] theorem Segment.setEntry_resp (s : Segment) (e : EntryUnit) : (s.setEntry e).resp = s.resp := rfl
@[simp] theorem Segment.setEntry_supply (s : Segment) (e : EntryUnit) : (s.setEntry e).supply = s.supply := rfl

/-! ## Segment.setReq -/

@[simp] theorem Segment.setReq_blockPtr (s : Segment) (r : ReqUnit) : (s.setReq r).blockPtr = s.blockPtr := rfl
@[simp] theorem Segment.setReq_scanInterval (s : Segment) (r : ReqUnit) : (s.setReq r).scanInterval = s.scanInterval := rfl
@[simp] theorem Segment.setReq_run (s : Segment) (r : ReqUnit) : (s.setReq r).run = s.run := rfl
@[simp] theorem Segment.setReq_state (s : Segment) (r : ReqUnit) : (s.setReq r).state = s.state := rfl
@[simp] theorem Segment.setReq_starting (s : Segment) (r : ReqUnit) : (s.setReq r).starting = s.starting := rfl
@[simp] theorem Segment.setReq_fault (s : Segment) (r : ReqUnit) : (s.setReq r).fault = s.fault := rfl
@[simp] theorem Segment.setReq_good (s : Segment) (r : ReqUnit) : (s.setReq r).good = s.good := rfl
@[simp] theorem Segment.setReq_departed (s : Segment) (r : ReqUnit) : (s.setReq r).departed = s.departed := rfl
@[simp] theorem Segment.setReq_everLocked (s : Segment) (r : ReqUnit) : (s.setReq r).everLocked = s.everLocked := rfl
@[simp] theorem Segment.setReq_stopWrite (s : Segment) (r : ReqUnit) : (s.setReq r).stopWrite = s.stopWrite := rfl
@[simp] theorem Segment.setReq_faultHeld (s : Segment) (r : ReqUnit) : (s.setReq r).faultHeld = s.faultHeld := rfl
@[simp] theorem Segment.setReq_faultOwed (s : Segment) (r : ReqUnit) : (s.setReq r).faultOwed = s.faultOwed := rfl
@[simp] theorem Segment.setReq_stopOwed (s : Segment) (r : ReqUnit) : (s.setReq r).stopOwed = s.stopOwed := rfl
@[simp] theorem Segment.setReq_prWait (s : Segment) (r : ReqUnit) : (s.setReq r).prWait = s.prWait := rfl
@[simp] theorem Segment.setReq_prBus (s : Segment) (r : ReqUnit) : (s.setReq r).prBus = s.prBus := rfl
@[simp] theorem Segment.setReq_prFault (s : Segment) (r : ReqUnit) : (s.setReq r).prFault = s.prFault := rfl
@[simp] theorem Segment.setReq_prEnded (s : Segment) (r : ReqUnit) : (s.setReq r).prEnded = s.prEnded := rfl
@[simp] theorem Segment.setReq_counters (s : Segment) (r : ReqUnit) : (s.setReq r).counters = s.counters := rfl
@[simp] theorem Segment.setReq_line (s : Segment) (r : ReqUnit) : (s.setReq r).line = s.line := rfl
@[simp] theorem Segment.setReq_waits (s : Segment) (r : ReqUnit) : (s.setReq r).waits = s.waits := rfl
@[simp] theorem Segment.setReq_cycle (s : Segment) (r : ReqUnit) : (s.setReq r).cycle = s.cycle := rfl
@[simp] theorem Segment.setReq_cap (s : Segment) (r : ReqUnit) : (s.setReq r).cap = s.cap := rfl
@[simp] theorem Segment.setReq_req (s : Segment) (r : ReqUnit) : (s.setReq r).req = s.req := rfl
@[simp] theorem Segment.setReq_unit (s : Segment) (r : ReqUnit) : (s.setReq r).unit = .request r := rfl
@[simp] theorem Segment.setReq_xact (s : Segment) (r : ReqUnit) : (s.setReq r).xact = s.xact := rfl
@[simp] theorem Segment.setReq_resp (s : Segment) (r : ReqUnit) : (s.setReq r).resp = s.resp := rfl
@[simp] theorem Segment.setReq_supply (s : Segment) (r : ReqUnit) : (s.setReq r).supply = s.supply := rfl

/-! ## Segment.issueUnit -/

@[simp] theorem Segment.issueUnit_blockPtr (s : Segment) (a : Access) : (s.issueUnit a).blockPtr = s.blockPtr := rfl
@[simp] theorem Segment.issueUnit_scanInterval (s : Segment) (a : Access) : (s.issueUnit a).scanInterval = s.scanInterval := rfl
@[simp] theorem Segment.issueUnit_run (s : Segment) (a : Access) : (s.issueUnit a).run = s.run := rfl
@[simp] theorem Segment.issueUnit_state (s : Segment) (a : Access) : (s.issueUnit a).state = s.state := rfl
@[simp] theorem Segment.issueUnit_starting (s : Segment) (a : Access) : (s.issueUnit a).starting = s.starting := rfl
@[simp] theorem Segment.issueUnit_fault (s : Segment) (a : Access) : (s.issueUnit a).fault = s.fault := rfl
@[simp] theorem Segment.issueUnit_good (s : Segment) (a : Access) : (s.issueUnit a).good = s.good := rfl
@[simp] theorem Segment.issueUnit_departed (s : Segment) (a : Access) : (s.issueUnit a).departed = s.departed := rfl
@[simp] theorem Segment.issueUnit_everLocked (s : Segment) (a : Access) : (s.issueUnit a).everLocked = s.everLocked := rfl
@[simp] theorem Segment.issueUnit_stopWrite (s : Segment) (a : Access) : (s.issueUnit a).stopWrite = s.stopWrite := rfl
@[simp] theorem Segment.issueUnit_faultHeld (s : Segment) (a : Access) : (s.issueUnit a).faultHeld = s.faultHeld := rfl
@[simp] theorem Segment.issueUnit_faultOwed (s : Segment) (a : Access) : (s.issueUnit a).faultOwed = s.faultOwed := rfl
@[simp] theorem Segment.issueUnit_stopOwed (s : Segment) (a : Access) : (s.issueUnit a).stopOwed = s.stopOwed := rfl
@[simp] theorem Segment.issueUnit_prWait (s : Segment) (a : Access) : (s.issueUnit a).prWait = s.prWait := rfl
@[simp] theorem Segment.issueUnit_prBus (s : Segment) (a : Access) : (s.issueUnit a).prBus = s.prBus := rfl
@[simp] theorem Segment.issueUnit_prFault (s : Segment) (a : Access) : (s.issueUnit a).prFault = s.prFault := rfl
@[simp] theorem Segment.issueUnit_prEnded (s : Segment) (a : Access) : (s.issueUnit a).prEnded = s.prEnded := rfl
@[simp] theorem Segment.issueUnit_counters (s : Segment) (a : Access) : (s.issueUnit a).counters = s.counters := rfl
@[simp] theorem Segment.issueUnit_line (s : Segment) (a : Access) : (s.issueUnit a).line = s.line := rfl
@[simp] theorem Segment.issueUnit_waits (s : Segment) (a : Access) : (s.issueUnit a).waits = { s.waits with unit := some a } := rfl
@[simp] theorem Segment.issueUnit_cycle (s : Segment) (a : Access) : (s.issueUnit a).cycle = s.cycle := rfl
@[simp] theorem Segment.issueUnit_cap (s : Segment) (a : Access) : (s.issueUnit a).cap = s.cap := rfl
@[simp] theorem Segment.issueUnit_req (s : Segment) (a : Access) : (s.issueUnit a).req = s.req := rfl
@[simp] theorem Segment.issueUnit_unit (s : Segment) (a : Access) : (s.issueUnit a).unit = s.unit := rfl
@[simp] theorem Segment.issueUnit_xact (s : Segment) (a : Access) : (s.issueUnit a).xact = s.xact := rfl
@[simp] theorem Segment.issueUnit_resp (s : Segment) (a : Access) : (s.issueUnit a).resp = s.resp := rfl
@[simp] theorem Segment.issueUnit_supply (s : Segment) (a : Access) : (s.issueUnit a).supply = s.supply := rfl

/-! ## Segment.issueResp -/

@[simp] theorem Segment.issueResp_blockPtr (s : Segment) (a : Access) : (s.issueResp a).blockPtr = s.blockPtr := rfl
@[simp] theorem Segment.issueResp_scanInterval (s : Segment) (a : Access) : (s.issueResp a).scanInterval = s.scanInterval := rfl
@[simp] theorem Segment.issueResp_run (s : Segment) (a : Access) : (s.issueResp a).run = s.run := rfl
@[simp] theorem Segment.issueResp_state (s : Segment) (a : Access) : (s.issueResp a).state = s.state := rfl
@[simp] theorem Segment.issueResp_starting (s : Segment) (a : Access) : (s.issueResp a).starting = s.starting := rfl
@[simp] theorem Segment.issueResp_fault (s : Segment) (a : Access) : (s.issueResp a).fault = s.fault := rfl
@[simp] theorem Segment.issueResp_good (s : Segment) (a : Access) : (s.issueResp a).good = s.good := rfl
@[simp] theorem Segment.issueResp_departed (s : Segment) (a : Access) : (s.issueResp a).departed = s.departed := rfl
@[simp] theorem Segment.issueResp_everLocked (s : Segment) (a : Access) : (s.issueResp a).everLocked = s.everLocked := rfl
@[simp] theorem Segment.issueResp_stopWrite (s : Segment) (a : Access) : (s.issueResp a).stopWrite = s.stopWrite := rfl
@[simp] theorem Segment.issueResp_faultHeld (s : Segment) (a : Access) : (s.issueResp a).faultHeld = s.faultHeld := rfl
@[simp] theorem Segment.issueResp_faultOwed (s : Segment) (a : Access) : (s.issueResp a).faultOwed = s.faultOwed := rfl
@[simp] theorem Segment.issueResp_stopOwed (s : Segment) (a : Access) : (s.issueResp a).stopOwed = s.stopOwed := rfl
@[simp] theorem Segment.issueResp_prWait (s : Segment) (a : Access) : (s.issueResp a).prWait = s.prWait := rfl
@[simp] theorem Segment.issueResp_prBus (s : Segment) (a : Access) : (s.issueResp a).prBus = s.prBus := rfl
@[simp] theorem Segment.issueResp_prFault (s : Segment) (a : Access) : (s.issueResp a).prFault = s.prFault := rfl
@[simp] theorem Segment.issueResp_prEnded (s : Segment) (a : Access) : (s.issueResp a).prEnded = s.prEnded := rfl
@[simp] theorem Segment.issueResp_counters (s : Segment) (a : Access) : (s.issueResp a).counters = s.counters := rfl
@[simp] theorem Segment.issueResp_line (s : Segment) (a : Access) : (s.issueResp a).line = s.line := rfl
@[simp] theorem Segment.issueResp_waits (s : Segment) (a : Access) : (s.issueResp a).waits = { s.waits with responder := some a } := rfl
@[simp] theorem Segment.issueResp_cycle (s : Segment) (a : Access) : (s.issueResp a).cycle = s.cycle := rfl
@[simp] theorem Segment.issueResp_cap (s : Segment) (a : Access) : (s.issueResp a).cap = s.cap := rfl
@[simp] theorem Segment.issueResp_req (s : Segment) (a : Access) : (s.issueResp a).req = s.req := rfl
@[simp] theorem Segment.issueResp_unit (s : Segment) (a : Access) : (s.issueResp a).unit = s.unit := rfl
@[simp] theorem Segment.issueResp_xact (s : Segment) (a : Access) : (s.issueResp a).xact = s.xact := rfl
@[simp] theorem Segment.issueResp_resp (s : Segment) (a : Access) : (s.issueResp a).resp = s.resp := rfl
@[simp] theorem Segment.issueResp_supply (s : Segment) (a : Access) : (s.issueResp a).supply = s.supply := rfl

/-! ## Segment.issueUrgent -/

@[simp] theorem Segment.issueUrgent_blockPtr (s : Segment) (a : Access) : (s.issueUrgent a).blockPtr = s.blockPtr := rfl
@[simp] theorem Segment.issueUrgent_scanInterval (s : Segment) (a : Access) : (s.issueUrgent a).scanInterval = s.scanInterval := rfl
@[simp] theorem Segment.issueUrgent_run (s : Segment) (a : Access) : (s.issueUrgent a).run = s.run := rfl
@[simp] theorem Segment.issueUrgent_state (s : Segment) (a : Access) : (s.issueUrgent a).state = s.state := rfl
@[simp] theorem Segment.issueUrgent_starting (s : Segment) (a : Access) : (s.issueUrgent a).starting = s.starting := rfl
@[simp] theorem Segment.issueUrgent_fault (s : Segment) (a : Access) : (s.issueUrgent a).fault = s.fault := rfl
@[simp] theorem Segment.issueUrgent_good (s : Segment) (a : Access) : (s.issueUrgent a).good = s.good := rfl
@[simp] theorem Segment.issueUrgent_departed (s : Segment) (a : Access) : (s.issueUrgent a).departed = s.departed := rfl
@[simp] theorem Segment.issueUrgent_everLocked (s : Segment) (a : Access) : (s.issueUrgent a).everLocked = s.everLocked := rfl
@[simp] theorem Segment.issueUrgent_stopWrite (s : Segment) (a : Access) : (s.issueUrgent a).stopWrite = s.stopWrite := rfl
@[simp] theorem Segment.issueUrgent_faultHeld (s : Segment) (a : Access) : (s.issueUrgent a).faultHeld = s.faultHeld := rfl
@[simp] theorem Segment.issueUrgent_faultOwed (s : Segment) (a : Access) : (s.issueUrgent a).faultOwed = s.faultOwed := rfl
@[simp] theorem Segment.issueUrgent_stopOwed (s : Segment) (a : Access) : (s.issueUrgent a).stopOwed = s.stopOwed := rfl
@[simp] theorem Segment.issueUrgent_prWait (s : Segment) (a : Access) : (s.issueUrgent a).prWait = s.prWait := rfl
@[simp] theorem Segment.issueUrgent_prBus (s : Segment) (a : Access) : (s.issueUrgent a).prBus = s.prBus := rfl
@[simp] theorem Segment.issueUrgent_prFault (s : Segment) (a : Access) : (s.issueUrgent a).prFault = s.prFault := rfl
@[simp] theorem Segment.issueUrgent_prEnded (s : Segment) (a : Access) : (s.issueUrgent a).prEnded = s.prEnded := rfl
@[simp] theorem Segment.issueUrgent_counters (s : Segment) (a : Access) : (s.issueUrgent a).counters = s.counters := rfl
@[simp] theorem Segment.issueUrgent_line (s : Segment) (a : Access) : (s.issueUrgent a).line = s.line := rfl
@[simp] theorem Segment.issueUrgent_waits (s : Segment) (a : Access) : (s.issueUrgent a).waits = { s.waits with urgent := some a } := rfl
@[simp] theorem Segment.issueUrgent_cycle (s : Segment) (a : Access) : (s.issueUrgent a).cycle = s.cycle := rfl
@[simp] theorem Segment.issueUrgent_cap (s : Segment) (a : Access) : (s.issueUrgent a).cap = s.cap := rfl
@[simp] theorem Segment.issueUrgent_req (s : Segment) (a : Access) : (s.issueUrgent a).req = s.req := rfl
@[simp] theorem Segment.issueUrgent_unit (s : Segment) (a : Access) : (s.issueUrgent a).unit = s.unit := rfl
@[simp] theorem Segment.issueUrgent_xact (s : Segment) (a : Access) : (s.issueUrgent a).xact = s.xact := rfl
@[simp] theorem Segment.issueUrgent_resp (s : Segment) (a : Access) : (s.issueUrgent a).resp = s.resp := rfl
@[simp] theorem Segment.issueUrgent_supply (s : Segment) (a : Access) : (s.issueUrgent a).supply = s.supply := rfl

/-! ## Segment.reqProgress -/

@[simp] theorem Segment.reqProgress_blockPtr (s : Segment) (cs : List Change) : (s.reqProgress cs).blockPtr = s.blockPtr := rfl
@[simp] theorem Segment.reqProgress_scanInterval (s : Segment) (cs : List Change) : (s.reqProgress cs).scanInterval = s.scanInterval := rfl
@[simp] theorem Segment.reqProgress_run (s : Segment) (cs : List Change) : (s.reqProgress cs).run = s.run := rfl
@[simp] theorem Segment.reqProgress_state (s : Segment) (cs : List Change) : (s.reqProgress cs).state = s.state := rfl
@[simp] theorem Segment.reqProgress_starting (s : Segment) (cs : List Change) : (s.reqProgress cs).starting = s.starting := rfl
@[simp] theorem Segment.reqProgress_fault (s : Segment) (cs : List Change) : (s.reqProgress cs).fault = s.fault := rfl
@[simp] theorem Segment.reqProgress_good (s : Segment) (cs : List Change) : (s.reqProgress cs).good = s.good := rfl
@[simp] theorem Segment.reqProgress_departed (s : Segment) (cs : List Change) : (s.reqProgress cs).departed = s.departed := rfl
@[simp] theorem Segment.reqProgress_everLocked (s : Segment) (cs : List Change) : (s.reqProgress cs).everLocked = s.everLocked := rfl
@[simp] theorem Segment.reqProgress_stopWrite (s : Segment) (cs : List Change) : (s.reqProgress cs).stopWrite = s.stopWrite := rfl
@[simp] theorem Segment.reqProgress_faultHeld (s : Segment) (cs : List Change) : (s.reqProgress cs).faultHeld = s.faultHeld := rfl
@[simp] theorem Segment.reqProgress_faultOwed (s : Segment) (cs : List Change) : (s.reqProgress cs).faultOwed = s.faultOwed := rfl
@[simp] theorem Segment.reqProgress_stopOwed (s : Segment) (cs : List Change) : (s.reqProgress cs).stopOwed = s.stopOwed := rfl
@[simp] theorem Segment.reqProgress_prWait (s : Segment) (cs : List Change) : (s.reqProgress cs).prWait = s.prWait ++ cs := rfl
@[simp] theorem Segment.reqProgress_prBus (s : Segment) (cs : List Change) : (s.reqProgress cs).prBus = s.prBus := rfl
@[simp] theorem Segment.reqProgress_prFault (s : Segment) (cs : List Change) : (s.reqProgress cs).prFault = s.prFault := rfl
@[simp] theorem Segment.reqProgress_prEnded (s : Segment) (cs : List Change) : (s.reqProgress cs).prEnded = s.prEnded := rfl
@[simp] theorem Segment.reqProgress_counters (s : Segment) (cs : List Change) : (s.reqProgress cs).counters = s.counters := rfl
@[simp] theorem Segment.reqProgress_line (s : Segment) (cs : List Change) : (s.reqProgress cs).line = s.line := rfl
@[simp] theorem Segment.reqProgress_waits (s : Segment) (cs : List Change) : (s.reqProgress cs).waits = { s.waits with control := some ⟨.progress, s.blk.progress, 0, []⟩ } := rfl
@[simp] theorem Segment.reqProgress_cycle (s : Segment) (cs : List Change) : (s.reqProgress cs).cycle = s.cycle := rfl
@[simp] theorem Segment.reqProgress_cap (s : Segment) (cs : List Change) : (s.reqProgress cs).cap = s.cap := rfl
@[simp] theorem Segment.reqProgress_req (s : Segment) (cs : List Change) : (s.reqProgress cs).req = s.req := rfl
@[simp] theorem Segment.reqProgress_unit (s : Segment) (cs : List Change) : (s.reqProgress cs).unit = s.unit := rfl
@[simp] theorem Segment.reqProgress_xact (s : Segment) (cs : List Change) : (s.reqProgress cs).xact = s.xact := rfl
@[simp] theorem Segment.reqProgress_resp (s : Segment) (cs : List Change) : (s.reqProgress cs).resp = s.resp := rfl
@[simp] theorem Segment.reqProgress_supply (s : Segment) (cs : List Change) : (s.reqProgress cs).supply = s.supply := rfl

/-! ## Segment.release -/

@[simp] theorem Segment.release_blockPtr (s : Segment) (b : Buf) : (s.release b).blockPtr = s.blockPtr := rfl
@[simp] theorem Segment.release_scanInterval (s : Segment) (b : Buf) : (s.release b).scanInterval = s.scanInterval := rfl
@[simp] theorem Segment.release_run (s : Segment) (b : Buf) : (s.release b).run = s.run := rfl
@[simp] theorem Segment.release_state (s : Segment) (b : Buf) : (s.release b).state = s.state := rfl
@[simp] theorem Segment.release_starting (s : Segment) (b : Buf) : (s.release b).starting = s.starting := rfl
@[simp] theorem Segment.release_fault (s : Segment) (b : Buf) : (s.release b).fault = s.fault := rfl
@[simp] theorem Segment.release_good (s : Segment) (b : Buf) : (s.release b).good = s.good := rfl
@[simp] theorem Segment.release_departed (s : Segment) (b : Buf) : (s.release b).departed = s.departed := rfl
@[simp] theorem Segment.release_everLocked (s : Segment) (b : Buf) : (s.release b).everLocked = s.everLocked := rfl
@[simp] theorem Segment.release_stopWrite (s : Segment) (b : Buf) : (s.release b).stopWrite = s.stopWrite := rfl
@[simp] theorem Segment.release_faultHeld (s : Segment) (b : Buf) : (s.release b).faultHeld = s.faultHeld := rfl
@[simp] theorem Segment.release_faultOwed (s : Segment) (b : Buf) : (s.release b).faultOwed = s.faultOwed := rfl
@[simp] theorem Segment.release_stopOwed (s : Segment) (b : Buf) : (s.release b).stopOwed = s.stopOwed := rfl
@[simp] theorem Segment.release_prWait (s : Segment) (b : Buf) : (s.release b).prWait = s.prWait := rfl
@[simp] theorem Segment.release_prBus (s : Segment) (b : Buf) : (s.release b).prBus = s.prBus := rfl
@[simp] theorem Segment.release_prFault (s : Segment) (b : Buf) : (s.release b).prFault = s.prFault := rfl
@[simp] theorem Segment.release_prEnded (s : Segment) (b : Buf) : (s.release b).prEnded = s.prEnded := rfl
@[simp] theorem Segment.release_counters (s : Segment) (b : Buf) : (s.release b).counters = s.counters := rfl
@[simp] theorem Segment.release_line (s : Segment) (b : Buf) : (s.release b).line = s.line.release b := rfl
@[simp] theorem Segment.release_waits (s : Segment) (b : Buf) : (s.release b).waits = s.waits := rfl
@[simp] theorem Segment.release_cycle (s : Segment) (b : Buf) : (s.release b).cycle = s.cycle := rfl
@[simp] theorem Segment.release_cap (s : Segment) (b : Buf) : (s.release b).cap = s.cap := rfl
@[simp] theorem Segment.release_req (s : Segment) (b : Buf) : (s.release b).req = s.req := rfl
@[simp] theorem Segment.release_unit (s : Segment) (b : Buf) : (s.release b).unit = s.unit := rfl
@[simp] theorem Segment.release_xact (s : Segment) (b : Buf) : (s.release b).xact = s.xact := rfl
@[simp] theorem Segment.release_resp (s : Segment) (b : Buf) : (s.release b).resp = s.resp := rfl
@[simp] theorem Segment.release_supply (s : Segment) (b : Buf) : (s.release b).supply = s.supply := rfl

/-! ## Segment.countInbDrop -/

@[simp] theorem Segment.countInbDrop_blockPtr (s : Segment) : (s.countInbDrop).blockPtr = s.blockPtr := rfl
@[simp] theorem Segment.countInbDrop_scanInterval (s : Segment) : (s.countInbDrop).scanInterval = s.scanInterval := rfl
@[simp] theorem Segment.countInbDrop_run (s : Segment) : (s.countInbDrop).run = s.run := rfl
@[simp] theorem Segment.countInbDrop_state (s : Segment) : (s.countInbDrop).state = s.state := rfl
@[simp] theorem Segment.countInbDrop_starting (s : Segment) : (s.countInbDrop).starting = s.starting := rfl
@[simp] theorem Segment.countInbDrop_fault (s : Segment) : (s.countInbDrop).fault = s.fault := rfl
@[simp] theorem Segment.countInbDrop_good (s : Segment) : (s.countInbDrop).good = s.good := rfl
@[simp] theorem Segment.countInbDrop_departed (s : Segment) : (s.countInbDrop).departed = s.departed := rfl
@[simp] theorem Segment.countInbDrop_everLocked (s : Segment) : (s.countInbDrop).everLocked = s.everLocked := rfl
@[simp] theorem Segment.countInbDrop_stopWrite (s : Segment) : (s.countInbDrop).stopWrite = s.stopWrite := rfl
@[simp] theorem Segment.countInbDrop_faultHeld (s : Segment) : (s.countInbDrop).faultHeld = s.faultHeld := rfl
@[simp] theorem Segment.countInbDrop_faultOwed (s : Segment) : (s.countInbDrop).faultOwed = s.faultOwed := rfl
@[simp] theorem Segment.countInbDrop_stopOwed (s : Segment) : (s.countInbDrop).stopOwed = s.stopOwed := rfl
@[simp] theorem Segment.countInbDrop_prWait (s : Segment) : (s.countInbDrop).prWait = s.prWait := rfl
@[simp] theorem Segment.countInbDrop_prBus (s : Segment) : (s.countInbDrop).prBus = s.prBus := rfl
@[simp] theorem Segment.countInbDrop_prFault (s : Segment) : (s.countInbDrop).prFault = s.prFault := rfl
@[simp] theorem Segment.countInbDrop_prEnded (s : Segment) : (s.countInbDrop).prEnded = s.prEnded := rfl
@[simp] theorem Segment.countInbDrop_counters (s : Segment) : (s.countInbDrop).counters = { s.counters with inbDrops := s.counters.inbDrops + 1 } := rfl
@[simp] theorem Segment.countInbDrop_line (s : Segment) : (s.countInbDrop).line = s.line := rfl
@[simp] theorem Segment.countInbDrop_waits (s : Segment) : (s.countInbDrop).waits = s.waits := rfl
@[simp] theorem Segment.countInbDrop_cycle (s : Segment) : (s.countInbDrop).cycle = s.cycle := rfl
@[simp] theorem Segment.countInbDrop_cap (s : Segment) : (s.countInbDrop).cap = s.cap := rfl
@[simp] theorem Segment.countInbDrop_req (s : Segment) : (s.countInbDrop).req = s.req := rfl
@[simp] theorem Segment.countInbDrop_unit (s : Segment) : (s.countInbDrop).unit = s.unit := rfl
@[simp] theorem Segment.countInbDrop_xact (s : Segment) : (s.countInbDrop).xact = s.xact := rfl
@[simp] theorem Segment.countInbDrop_resp (s : Segment) : (s.countInbDrop).resp = s.resp := rfl
@[simp] theorem Segment.countInbDrop_supply (s : Segment) : (s.countInbDrop).supply = s.supply := rfl

/-! ## Segment.countStray -/

@[simp] theorem Segment.countStray_blockPtr (s : Segment) : (s.countStray).blockPtr = s.blockPtr := rfl
@[simp] theorem Segment.countStray_scanInterval (s : Segment) : (s.countStray).scanInterval = s.scanInterval := rfl
@[simp] theorem Segment.countStray_run (s : Segment) : (s.countStray).run = s.run := rfl
@[simp] theorem Segment.countStray_state (s : Segment) : (s.countStray).state = s.state := rfl
@[simp] theorem Segment.countStray_starting (s : Segment) : (s.countStray).starting = s.starting := rfl
@[simp] theorem Segment.countStray_fault (s : Segment) : (s.countStray).fault = s.fault := rfl
@[simp] theorem Segment.countStray_good (s : Segment) : (s.countStray).good = s.good := rfl
@[simp] theorem Segment.countStray_departed (s : Segment) : (s.countStray).departed = s.departed := rfl
@[simp] theorem Segment.countStray_everLocked (s : Segment) : (s.countStray).everLocked = s.everLocked := rfl
@[simp] theorem Segment.countStray_stopWrite (s : Segment) : (s.countStray).stopWrite = s.stopWrite := rfl
@[simp] theorem Segment.countStray_faultHeld (s : Segment) : (s.countStray).faultHeld = s.faultHeld := rfl
@[simp] theorem Segment.countStray_faultOwed (s : Segment) : (s.countStray).faultOwed = s.faultOwed := rfl
@[simp] theorem Segment.countStray_stopOwed (s : Segment) : (s.countStray).stopOwed = s.stopOwed := rfl
@[simp] theorem Segment.countStray_prWait (s : Segment) : (s.countStray).prWait = s.prWait := rfl
@[simp] theorem Segment.countStray_prBus (s : Segment) : (s.countStray).prBus = s.prBus := rfl
@[simp] theorem Segment.countStray_prFault (s : Segment) : (s.countStray).prFault = s.prFault := rfl
@[simp] theorem Segment.countStray_prEnded (s : Segment) : (s.countStray).prEnded = s.prEnded := rfl
@[simp] theorem Segment.countStray_counters (s : Segment) : (s.countStray).counters = { s.counters with strays := s.counters.strays + 1 } := rfl
@[simp] theorem Segment.countStray_line (s : Segment) : (s.countStray).line = s.line := rfl
@[simp] theorem Segment.countStray_waits (s : Segment) : (s.countStray).waits = s.waits := rfl
@[simp] theorem Segment.countStray_cycle (s : Segment) : (s.countStray).cycle = s.cycle := rfl
@[simp] theorem Segment.countStray_cap (s : Segment) : (s.countStray).cap = s.cap := rfl
@[simp] theorem Segment.countStray_req (s : Segment) : (s.countStray).req = s.req := rfl
@[simp] theorem Segment.countStray_unit (s : Segment) : (s.countStray).unit = s.unit := rfl
@[simp] theorem Segment.countStray_xact (s : Segment) : (s.countStray).xact = s.xact := rfl
@[simp] theorem Segment.countStray_resp (s : Segment) : (s.countStray).resp = s.resp := rfl
@[simp] theorem Segment.countStray_supply (s : Segment) : (s.countStray).supply = s.supply := rfl

/-! ## Segment.clearUnit -/

@[simp] theorem Segment.clearUnit_blockPtr (s : Segment) : (s.clearUnit).blockPtr = s.blockPtr := rfl
@[simp] theorem Segment.clearUnit_scanInterval (s : Segment) : (s.clearUnit).scanInterval = s.scanInterval := rfl
@[simp] theorem Segment.clearUnit_run (s : Segment) : (s.clearUnit).run = s.run := rfl
@[simp] theorem Segment.clearUnit_state (s : Segment) : (s.clearUnit).state = s.state := rfl
@[simp] theorem Segment.clearUnit_starting (s : Segment) : (s.clearUnit).starting = s.starting := rfl
@[simp] theorem Segment.clearUnit_fault (s : Segment) : (s.clearUnit).fault = s.fault := rfl
@[simp] theorem Segment.clearUnit_good (s : Segment) : (s.clearUnit).good = s.good := rfl
@[simp] theorem Segment.clearUnit_departed (s : Segment) : (s.clearUnit).departed = s.departed := rfl
@[simp] theorem Segment.clearUnit_everLocked (s : Segment) : (s.clearUnit).everLocked = s.everLocked := rfl
@[simp] theorem Segment.clearUnit_stopWrite (s : Segment) : (s.clearUnit).stopWrite = s.stopWrite := rfl
@[simp] theorem Segment.clearUnit_faultHeld (s : Segment) : (s.clearUnit).faultHeld = s.faultHeld := rfl
@[simp] theorem Segment.clearUnit_faultOwed (s : Segment) : (s.clearUnit).faultOwed = s.faultOwed := rfl
@[simp] theorem Segment.clearUnit_stopOwed (s : Segment) : (s.clearUnit).stopOwed = s.stopOwed := rfl
@[simp] theorem Segment.clearUnit_prWait (s : Segment) : (s.clearUnit).prWait = s.prWait := rfl
@[simp] theorem Segment.clearUnit_prBus (s : Segment) : (s.clearUnit).prBus = s.prBus := rfl
@[simp] theorem Segment.clearUnit_prFault (s : Segment) : (s.clearUnit).prFault = s.prFault := rfl
@[simp] theorem Segment.clearUnit_prEnded (s : Segment) : (s.clearUnit).prEnded = s.prEnded := rfl
@[simp] theorem Segment.clearUnit_counters (s : Segment) : (s.clearUnit).counters = s.counters := rfl
@[simp] theorem Segment.clearUnit_line (s : Segment) : (s.clearUnit).line = s.line := rfl
@[simp] theorem Segment.clearUnit_waits (s : Segment) : (s.clearUnit).waits = s.waits := rfl
@[simp] theorem Segment.clearUnit_cycle (s : Segment) : (s.clearUnit).cycle = s.cycle := rfl
@[simp] theorem Segment.clearUnit_cap (s : Segment) : (s.clearUnit).cap = s.cap := rfl
@[simp] theorem Segment.clearUnit_req (s : Segment) : (s.clearUnit).req = { s.req with count := 0, cond := .none, losses := 0, lineHeld := true, sent := false, gap := .none } := rfl
@[simp] theorem Segment.clearUnit_unit (s : Segment) : (s.clearUnit).unit = .none := rfl
@[simp] theorem Segment.clearUnit_xact (s : Segment) : (s.clearUnit).xact = .idle := rfl
@[simp] theorem Segment.clearUnit_resp (s : Segment) : (s.clearUnit).resp = s.resp := rfl
@[simp] theorem Segment.clearUnit_supply (s : Segment) : (s.clearUnit).supply = s.supply := rfl

/-! ## Segment.sweepOff -/

@[simp] theorem Segment.sweepOff_blockPtr (s : Segment) : (s.sweepOff).blockPtr = s.blockPtr := rfl
@[simp] theorem Segment.sweepOff_scanInterval (s : Segment) : (s.sweepOff).scanInterval = s.scanInterval := rfl
@[simp] theorem Segment.sweepOff_run (s : Segment) : (s.sweepOff).run = s.run := rfl
@[simp] theorem Segment.sweepOff_state (s : Segment) : (s.sweepOff).state = s.state := rfl
@[simp] theorem Segment.sweepOff_starting (s : Segment) : (s.sweepOff).starting = s.starting := rfl
@[simp] theorem Segment.sweepOff_fault (s : Segment) : (s.sweepOff).fault = s.fault := rfl
@[simp] theorem Segment.sweepOff_good (s : Segment) : (s.sweepOff).good = s.good := rfl
@[simp] theorem Segment.sweepOff_departed (s : Segment) : (s.sweepOff).departed = s.departed := rfl
@[simp] theorem Segment.sweepOff_everLocked (s : Segment) : (s.sweepOff).everLocked = s.everLocked := rfl
@[simp] theorem Segment.sweepOff_stopWrite (s : Segment) : (s.sweepOff).stopWrite = s.stopWrite := rfl
@[simp] theorem Segment.sweepOff_faultHeld (s : Segment) : (s.sweepOff).faultHeld = s.faultHeld := rfl
@[simp] theorem Segment.sweepOff_faultOwed (s : Segment) : (s.sweepOff).faultOwed = s.faultOwed := rfl
@[simp] theorem Segment.sweepOff_stopOwed (s : Segment) : (s.sweepOff).stopOwed = s.stopOwed := rfl
@[simp] theorem Segment.sweepOff_prWait (s : Segment) : (s.sweepOff).prWait = s.prWait := rfl
@[simp] theorem Segment.sweepOff_prBus (s : Segment) : (s.sweepOff).prBus = s.prBus := rfl
@[simp] theorem Segment.sweepOff_prFault (s : Segment) : (s.sweepOff).prFault = s.prFault := rfl
@[simp] theorem Segment.sweepOff_prEnded (s : Segment) : (s.sweepOff).prEnded = s.prEnded := rfl
@[simp] theorem Segment.sweepOff_counters (s : Segment) : (s.sweepOff).counters = s.counters := rfl
@[simp] theorem Segment.sweepOff_line (s : Segment) : (s.sweepOff).line = s.line := rfl
@[simp] theorem Segment.sweepOff_waits (s : Segment) : (s.sweepOff).waits = s.waits := rfl
@[simp] theorem Segment.sweepOff_cycle (s : Segment) : (s.sweepOff).cycle = s.cycle := rfl
@[simp] theorem Segment.sweepOff_cap (s : Segment) : (s.sweepOff).cap = s.cap := rfl
@[simp] theorem Segment.sweepOff_req (s : Segment) : (s.sweepOff).req = s.req := rfl
@[simp] theorem Segment.sweepOff_unit (s : Segment) : (s.sweepOff).unit = s.unit := rfl
@[simp] theorem Segment.sweepOff_xact (s : Segment) : (s.sweepOff).xact = s.xact := rfl
@[simp] theorem Segment.sweepOff_resp (s : Segment) : (s.sweepOff).resp = s.resp := rfl
@[simp] theorem Segment.sweepOff_supply (s : Segment) : (s.sweepOff).supply = { s.supply with sweep := .idle, weakCmp := s.blk.weakStep.toNat } := rfl

/-! ## Work.on -/

@[simp] theorem Work.on_k (w : Work) (f : Segment → Segment) : (w.on f).k = w.k := rfl
@[simp] theorem Work.on_low (w : Work) (f : Segment → Segment) : (w.on f).low = w.low := rfl
@[simp] theorem Work.on_high (w : Work) (f : Segment → Segment) : (w.on f).high = w.high := rfl
@[simp] theorem Work.on_mute (w : Work) (f : Segment → Segment) : (w.on f).mute = w.mute := rfl
@[simp] theorem Work.on_wide (w : Work) (f : Segment → Segment) : (w.on f).wide = w.wide := rfl
@[simp] theorem Work.on_free (w : Work) (f : Segment → Segment) : (w.on f).free = w.free := rfl
@[simp] theorem Work.on_bus (w : Work) (f : Segment → Segment) : (w.on f).bus = w.bus := rfl
@[simp] theorem Work.on_seg (w : Work) (f : Segment → Segment) : (w.on f).seg = f w.seg := rfl
@[simp] theorem Work.on_notices (w : Work) (f : Segment → Segment) : (w.on f).notices = w.notices := rfl
@[simp] theorem Work.on_drop (w : Work) (f : Segment → Segment) : (w.on f).drop = w.drop := rfl
@[simp] theorem Work.on_segStop (w : Work) (f : Segment → Segment) : (w.on f).segStop = w.segStop := rfl
@[simp] theorem Work.on_drew (w : Work) (f : Segment → Segment) : (w.on f).drew = w.drew := rfl

/-! ## Work.raise -/

@[simp] theorem Work.raise_k (w : Work) (kind : NoticeKind) (station addr detail : Byte) (ref : Word) : (w.raise kind station addr detail ref).k = w.k := rfl
@[simp] theorem Work.raise_low (w : Work) (kind : NoticeKind) (station addr detail : Byte) (ref : Word) : (w.raise kind station addr detail ref).low = w.low := rfl
@[simp] theorem Work.raise_high (w : Work) (kind : NoticeKind) (station addr detail : Byte) (ref : Word) : (w.raise kind station addr detail ref).high = w.high := rfl
@[simp] theorem Work.raise_mute (w : Work) (kind : NoticeKind) (station addr detail : Byte) (ref : Word) : (w.raise kind station addr detail ref).mute = w.mute := rfl
@[simp] theorem Work.raise_wide (w : Work) (kind : NoticeKind) (station addr detail : Byte) (ref : Word) : (w.raise kind station addr detail ref).wide = w.wide := rfl
@[simp] theorem Work.raise_free (w : Work) (kind : NoticeKind) (station addr detail : Byte) (ref : Word) : (w.raise kind station addr detail ref).free = w.free := rfl
@[simp] theorem Work.raise_bus (w : Work) (kind : NoticeKind) (station addr detail : Byte) (ref : Word) : (w.raise kind station addr detail ref).bus = w.bus := rfl
@[simp] theorem Work.raise_seg (w : Work) (kind : NoticeKind) (station addr detail : Byte) (ref : Word) : (w.raise kind station addr detail ref).seg = w.seg := rfl
@[simp] theorem Work.raise_notices (w : Work) (kind : NoticeKind) (station addr detail : Byte) (ref : Word) : (w.raise kind station addr detail ref).notices = w.notices ++ [⟨kind, segByte w.k, station, addr, detail, w.seg.cycle.number, ref⟩] := rfl
@[simp] theorem Work.raise_drop (w : Work) (kind : NoticeKind) (station addr detail : Byte) (ref : Word) : (w.raise kind station addr detail ref).drop = w.drop := rfl
@[simp] theorem Work.raise_segStop (w : Work) (kind : NoticeKind) (station addr detail : Byte) (ref : Word) : (w.raise kind station addr detail ref).segStop = w.segStop := rfl
@[simp] theorem Work.raise_drew (w : Work) (kind : NoticeKind) (station addr detail : Byte) (ref : Word) : (w.raise kind station addr detail ref).drew = w.drew := rfl

/-! ## Work.raiseSeg -/

@[simp] theorem Work.raiseSeg_k (w : Work) (kind : NoticeKind) (detail : Byte) (ref : Word) : (w.raiseSeg kind detail ref).k = w.k := rfl
@[simp] theorem Work.raiseSeg_low (w : Work) (kind : NoticeKind) (detail : Byte) (ref : Word) : (w.raiseSeg kind detail ref).low = w.low := rfl
@[simp] theorem Work.raiseSeg_high (w : Work) (kind : NoticeKind) (detail : Byte) (ref : Word) : (w.raiseSeg kind detail ref).high = w.high := rfl
@[simp] theorem Work.raiseSeg_mute (w : Work) (kind : NoticeKind) (detail : Byte) (ref : Word) : (w.raiseSeg kind detail ref).mute = w.mute := rfl
@[simp] theorem Work.raiseSeg_wide (w : Work) (kind : NoticeKind) (detail : Byte) (ref : Word) : (w.raiseSeg kind detail ref).wide = w.wide := rfl
@[simp] theorem Work.raiseSeg_free (w : Work) (kind : NoticeKind) (detail : Byte) (ref : Word) : (w.raiseSeg kind detail ref).free = w.free := rfl
@[simp] theorem Work.raiseSeg_bus (w : Work) (kind : NoticeKind) (detail : Byte) (ref : Word) : (w.raiseSeg kind detail ref).bus = w.bus := rfl
@[simp] theorem Work.raiseSeg_seg (w : Work) (kind : NoticeKind) (detail : Byte) (ref : Word) : (w.raiseSeg kind detail ref).seg = w.seg := rfl
@[simp] theorem Work.raiseSeg_notices (w : Work) (kind : NoticeKind) (detail : Byte) (ref : Word) : (w.raiseSeg kind detail ref).notices = w.notices ++ [⟨kind, segByte w.k, 0xFF, 0, detail, w.seg.cycle.number, ref⟩] := rfl
@[simp] theorem Work.raiseSeg_drop (w : Work) (kind : NoticeKind) (detail : Byte) (ref : Word) : (w.raiseSeg kind detail ref).drop = w.drop := rfl
@[simp] theorem Work.raiseSeg_segStop (w : Work) (kind : NoticeKind) (detail : Byte) (ref : Word) : (w.raiseSeg kind detail ref).segStop = w.segStop := rfl
@[simp] theorem Work.raiseSeg_drew (w : Work) (kind : NoticeKind) (detail : Byte) (ref : Word) : (w.raiseSeg kind detail ref).drew = w.drew := rfl

/-! ## State.setCause -/

@[simp] theorem State.setCause_pending (s : State) (c : Cause) : (s.setCause c).pending = s.pending := rfl
@[simp] theorem State.setCause_block (s : State) (c : Cause) : (s.setCause c).block = s.block := rfl
@[simp] theorem State.setCause_mask (s : State) (c : Cause) : (s.setCause c).mask = s.mask := rfl
@[simp] theorem State.setCause_attention (s : State) (c : Cause) : (s.setCause c).attention = s.attention ||| BitVec.ofNat 8 (2 ^ c.bit) := rfl
@[simp] theorem State.setCause_readData (s : State) (c : Cause) : (s.setCause c).readData = s.readData := rfl
@[simp] theorem State.setCause_draws (s : State) (c : Cause) : (s.setCause c).draws = s.draws := rfl
@[simp] theorem State.setCause_dev (s : State) (c : Cause) : (s.setCause c).dev = s.dev := rfl
@[simp] theorem State.setCause_nw (s : State) (c : Cause) : (s.setCause c).nw = s.nw := rfl
@[simp] theorem State.setCause_port (s : State) (c : Cause) : (s.setCause c).port = s.port := rfl
@[simp] theorem State.setCause_segs (s : State) (c : Cause) : (s.setCause c).segs = s.segs := rfl

/-! ## State.freePort -/

@[simp] theorem State.freePort_pending (s : State) : (s.freePort).pending = s.pending := rfl
@[simp] theorem State.freePort_block (s : State) : (s.freePort).block = s.block := rfl
@[simp] theorem State.freePort_mask (s : State) : (s.freePort).mask = s.mask := rfl
@[simp] theorem State.freePort_attention (s : State) : (s.freePort).attention = s.attention := rfl
@[simp] theorem State.freePort_readData (s : State) : (s.freePort).readData = s.readData := rfl
@[simp] theorem State.freePort_draws (s : State) : (s.freePort).draws = s.draws := rfl
@[simp] theorem State.freePort_dev (s : State) : (s.freePort).dev = s.dev := rfl
@[simp] theorem State.freePort_nw (s : State) : (s.freePort).nw = s.nw := rfl
@[simp] theorem State.freePort_port (s : State) :
    (s.freePort).port = { s.port with busy := none, waited := s.arrived } := rfl
@[simp] theorem State.freePort_segs (s : State) : (s.freePort).segs = s.segs := rfl

/-! ## State.issue -/

@[simp] theorem State.issue_pending (s : State) (r : Requester) (a : Access) : (s.issue r a).pending = s.pending := rfl
@[simp] theorem State.issue_block (s : State) (r : Requester) (a : Access) : (s.issue r a).block = s.block := rfl
@[simp] theorem State.issue_mask (s : State) (r : Requester) (a : Access) : (s.issue r a).mask = s.mask := rfl
@[simp] theorem State.issue_attention (s : State) (r : Requester) (a : Access) : (s.issue r a).attention = s.attention := rfl
@[simp] theorem State.issue_readData (s : State) (r : Requester) (a : Access) : (s.issue r a).readData = s.readData := rfl
@[simp] theorem State.issue_draws (s : State) (r : Requester) (a : Access) : (s.issue r a).draws = s.draws := rfl
@[simp] theorem State.issue_dev (s : State) (r : Requester) (a : Access) : (s.issue r a).dev = s.dev := rfl
@[simp] theorem State.issue_nw (s : State) (r : Requester) (a : Access) : (s.issue r a).nw = s.nw := rfl
@[simp] theorem State.issue_port (s : State) (r : Requester) (a : Access) : (s.issue r a).port = { s.port with busy := some ⟨r, a, false⟩ } := rfl
@[simp] theorem State.issue_segs (s : State) (r : Requester) (a : Access) : (s.issue r a).segs = s.segs := rfl

/-! ## State.throttleLoad -/

@[simp] theorem State.throttleLoad_pending (s : State) (k : Seg) : (s.throttleLoad k).pending = s.pending := rfl
@[simp] theorem State.throttleLoad_block (s : State) (k : Seg) : (s.throttleLoad k).block = s.block := rfl
@[simp] theorem State.throttleLoad_mask (s : State) (k : Seg) : (s.throttleLoad k).mask = s.mask := rfl
@[simp] theorem State.throttleLoad_attention (s : State) (k : Seg) : (s.throttleLoad k).attention = s.attention := rfl
@[simp] theorem State.throttleLoad_readData (s : State) (k : Seg) : (s.throttleLoad k).readData = s.readData := rfl
@[simp] theorem State.throttleLoad_draws (s : State) (k : Seg) : (s.throttleLoad k).draws = s.draws := rfl
@[simp] theorem State.throttleLoad_dev (s : State) (k : Seg) : (s.throttleLoad k).dev = s.dev := rfl
@[simp] theorem State.throttleLoad_nw (s : State) (k : Seg) : (s.throttleLoad k).nw = s.nw := rfl
@[simp] theorem State.throttleLoad_port (s : State) (k : Seg) : (s.throttleLoad k).port = { s.port with throttle := s.port.throttle.put k (s.port.throttle.get k).load } := rfl
@[simp] theorem State.throttleLoad_segs (s : State) (k : Seg) : (s.throttleLoad k).segs = s.segs := rfl

/-! ## State.putSeg -/

@[simp] theorem State.putSeg_pending (s : State) (k : Seg) (g : Segment) : (s.putSeg k g).pending = s.pending := rfl
@[simp] theorem State.putSeg_block (s : State) (k : Seg) (g : Segment) : (s.putSeg k g).block = s.block := rfl
@[simp] theorem State.putSeg_mask (s : State) (k : Seg) (g : Segment) : (s.putSeg k g).mask = s.mask := rfl
@[simp] theorem State.putSeg_attention (s : State) (k : Seg) (g : Segment) : (s.putSeg k g).attention = s.attention := rfl
@[simp] theorem State.putSeg_readData (s : State) (k : Seg) (g : Segment) : (s.putSeg k g).readData = s.readData := rfl
@[simp] theorem State.putSeg_draws (s : State) (k : Seg) (g : Segment) : (s.putSeg k g).draws = s.draws := rfl
@[simp] theorem State.putSeg_dev (s : State) (k : Seg) (g : Segment) : (s.putSeg k g).dev = s.dev := rfl
@[simp] theorem State.putSeg_nw (s : State) (k : Seg) (g : Segment) : (s.putSeg k g).nw = s.nw := rfl
@[simp] theorem State.putSeg_port (s : State) (k : Seg) (g : Segment) : (s.putSeg k g).port = s.port := rfl
@[simp] theorem State.putSeg_segs (s : State) (k : Seg) (g : Segment) : (s.putSeg k g).segs = s.segs.put k g := rfl

/-! ## State.takeSeg -/

@[simp] theorem State.takeSeg_pending (s : State) (k : Seg) (g : Segment) : (s.takeSeg k g).pending = s.pending := rfl
@[simp] theorem State.takeSeg_block (s : State) (k : Seg) (g : Segment) : (s.takeSeg k g).block = s.block := rfl
@[simp] theorem State.takeSeg_mask (s : State) (k : Seg) (g : Segment) : (s.takeSeg k g).mask = s.mask := rfl
@[simp] theorem State.takeSeg_attention (s : State) (k : Seg) (g : Segment) : (s.takeSeg k g).attention = s.attention := rfl
@[simp] theorem State.takeSeg_readData (s : State) (k : Seg) (g : Segment) : (s.takeSeg k g).readData = s.readData := rfl
@[simp] theorem State.takeSeg_draws (s : State) (k : Seg) (g : Segment) : (s.takeSeg k g).draws = s.draws := rfl
@[simp] theorem State.takeSeg_dev (s : State) (k : Seg) (g : Segment) : (s.takeSeg k g).dev = s.dev := rfl
@[simp] theorem State.takeSeg_nw (s : State) (k : Seg) (g : Segment) : (s.takeSeg k g).nw = s.nw := rfl
@[simp] theorem State.takeSeg_port (s : State) (k : Seg) (g : Segment) :
    (s.takeSeg k g).port = { s.port with waited := s.waitedAfter k g } := rfl
@[simp] theorem State.takeSeg_segs (s : State) (k : Seg) (g : Segment) : (s.takeSeg k g).segs = s.segs.put k g := rfl

/-! ## State.refusal -/

@[simp] theorem State.refusal_pending (s : State) : (s.refusal).pending = s.pending := rfl
@[simp] theorem State.refusal_block (s : State) : (s.refusal).block = s.block := rfl
@[simp] theorem State.refusal_mask (s : State) : (s.refusal).mask = s.mask := rfl
@[simp] theorem State.refusal_attention (s : State) : (s.refusal).attention = s.attention := rfl
@[simp] theorem State.refusal_readData (s : State) : (s.refusal).readData = s.readData := rfl
@[simp] theorem State.refusal_draws (s : State) : (s.refusal).draws = s.draws := rfl
@[simp] theorem State.refusal_dev (s : State) : (s.refusal).dev = s.dev := rfl
@[simp] theorem State.refusal_nw (s : State) : (s.refusal).nw = s.nw := rfl
@[simp] theorem State.refusal_port (s : State) :
    (s.refusal).port = { s.port with waited := s.waiting } := rfl
@[simp] theorem State.refusal_segs (s : State) : (s.refusal).segs = s.segs := rfl

end Sys2Proof.Machine
end

