-- ==== Sys2Proof/Laws/Block.lean ====
section
/-! SUPPORT. What an event of a segment unit, a raised notice and the settling of the block can change, said once for all
events. -/

namespace Sys2Proof.Machine

/-! ## Notices -/

/-- A record write request changes at most recWaiting. -/
theorem State.requestRecord_cases (s : State) :
    s.requestRecord = s ∨ s.requestRecord = { s with nw := { s.nw with recWaiting := true } } := by
  unfold State.requestRecord
  repeat' split
  · exact .inl rfl
  · exact .inl rfl
  · exact .inr rfl
  · exact .inr rfl

/-- Raising notices changes the notice writer and ATTENTION alone. -/
theorem State.raise_frame (s : State) (n : Notice) :
    ∃ v a, s.raise n = { s with nw := v, attention := a } := by
  unfold State.raise State.dropNotice
  split
  · rcases State.requestRecord_cases
      ({ s with nw := { s.nw with dropped := s.nw.dropped + 1 } }.setCause .noticeLost) with h | h <;> rw [h]
    · exact ⟨_, _, rfl⟩
    · exact ⟨_, _, rfl⟩
  · exact ⟨_, s.attention, rfl⟩

theorem State.raiseAll_frame (s : State) (ns : List Notice) :
    ∃ v a, s.raiseAll ns = { s with nw := v, attention := a } := by
  induction ns generalizing s with
  | nil => exact ⟨s.nw, s.attention, rfl⟩
  | cons n ns ih =>
    obtain ⟨v, a, h⟩ := s.raise_frame n
    obtain ⟨v', a', h'⟩ := ih (s.raise n)
    refine ⟨v', a', ?_⟩
    show (s.raise n).raiseAll ns = _
    rw [h', h]

theorem State.requestRecord_queue (s : State) : s.requestRecord.nw.queue = s.nw.queue := by
  rcases s.requestRecord_cases with h | h <;> rw [h]

theorem State.dropNotice_queue (s : State) : s.dropNotice.nw.queue = s.nw.queue := State.requestRecord_queue _

/-- R168: a raise keeps the queue within its 8 places. -/
theorem State.raise_queue_le (s : State) (n : Notice) (h : s.nw.queue.length ≤ Config.queueDepth) :
    (s.raise n).nw.queue.length ≤ Config.queueDepth := by
  unfold State.raise
  split
  · rw [State.dropNotice_queue]; exact h
  · rename_i hn
    have hn := not_or.mp hn
    simp only [List.length_append, List.length_singleton]
    omega

theorem State.raiseAll_queue_le (s : State) (ns : List Notice) (h : s.nw.queue.length ≤ Config.queueDepth) :
    (s.raiseAll ns).nw.queue.length ≤ Config.queueDepth := by
  induction ns generalizing s with
  | nil => exact h
  | cons n ns ih => exact ih _ (s.raise_queue_le n h)

/-! ## Events of a segment unit -/

/-- The granted access after an event: as it was, or with its result discarded. -/
def State.busAfter (s : State) (drop : Bool) : Option Busy :=
  if drop then s.port.busy.map Busy.discarded else s.port.busy

/-- Everything an event of segment k can change: its own segment unit, the notice writer, ATTENTION, the discard mark of
the granted access, the noted requests that it withdraws, and the free values drawn. -/
theorem State.onSeg_frame (s : State) (k : Seg) (f : Work → Work) :
    ∃ v a, s.onSeg k f = { s with
      segs := s.segs.put k (f (s.work k)).finish.seg,
      port := { s.port with
        busy := s.busAfter (f (s.work k)).finish.drop, waited := s.waitedAfter k (f (s.work k)).finish.seg },
      draws := if (f (s.work k)).finish.drew then s.draws + 1 else s.draws,
      nw := v, attention := a } := by
  unfold State.onSeg State.commit
  dsimp only
  obtain ⟨v, a, h⟩ := State.raiseAll_frame
    { s with segs := s.segs.put k (f (s.work k)).finish.seg,
             port := { s.port with
               busy := s.busAfter (f (s.work k)).finish.drop, waited := s.waitedAfter k (f (s.work k)).finish.seg },
             draws := if (f (s.work k)).finish.drew then s.draws + 1 else s.draws } (f (s.work k)).finish.notices
  unfold State.busAfter at h
  split
  · exact ⟨v, a ||| BitVec.ofNat 8 (2 ^ (Cause.segStop k).bit), by rw [h]; rfl⟩
  · exact ⟨v, a, by rw [h]; rfl⟩

theorem State.onSeg_queue_le (s : State) (k : Seg) (f : Work → Work) (h : s.nw.queue.length ≤ Config.queueDepth) :
    (s.onSeg k f).nw.queue.length ≤ Config.queueDepth := by
  unfold State.onSeg State.commit
  dsimp only
  split
  · exact State.raiseAll_queue_le _ _ h
  · exact State.raiseAll_queue_le _ _ h

section
variable (s : State) (k : Seg) (f : Work → Work)

@[simp] theorem State.onSeg_pending : (s.onSeg k f).pending = s.pending := by
  obtain ⟨v, a, h⟩ := s.onSeg_frame k f; rw [h]
@[simp] theorem State.onSeg_block : (s.onSeg k f).block = s.block := by
  obtain ⟨v, a, h⟩ := s.onSeg_frame k f; rw [h]
@[simp] theorem State.onSeg_mask : (s.onSeg k f).mask = s.mask := by
  obtain ⟨v, a, h⟩ := s.onSeg_frame k f; rw [h]
@[simp] theorem State.onSeg_readData : (s.onSeg k f).readData = s.readData := by
  obtain ⟨v, a, h⟩ := s.onSeg_frame k f; rw [h]
@[simp] theorem State.onSeg_dev : (s.onSeg k f).dev = s.dev := by
  obtain ⟨v, a, h⟩ := s.onSeg_frame k f; rw [h]
@[simp] theorem State.onSeg_port :
    (s.onSeg k f).port = { s.port with
      busy := s.busAfter (f (s.work k)).finish.drop, waited := s.waitedAfter k (f (s.work k)).finish.seg } := by
  obtain ⟨v, a, h⟩ := s.onSeg_frame k f; rw [h]
@[simp] theorem State.onSeg_draws :
    (s.onSeg k f).draws = if (f (s.work k)).finish.drew then s.draws + 1 else s.draws := by
  obtain ⟨v, a, h⟩ := s.onSeg_frame k f; rw [h]
@[simp] theorem State.onSeg_segs : (s.onSeg k f).segs = s.segs.put k (f (s.work k)).finish.seg := by
  obtain ⟨v, a, h⟩ := s.onSeg_frame k f; rw [h]

end

/-! ## A segment unit in which nothing is due -/

theorem Segment.filingTurn_quiet {g : Segment} (h : g.resp.hands = []) : g.filingTurn = g := by
  obtain ⟨⟩ := g; rename_i resp supply; obtain ⟨⟩ := resp; cases h; rfl

theorem Work.respDue_quiet {w : Work} (h : w.seg.resp.quiet) : w.respDue = w := by
  obtain ⟨hp, hh, hw⟩ := h
  have h1 : w.on Segment.filingTurn = w := by
    unfold Work.on; rw [Segment.filingTurn_quiet hh]
  have h2 : w.respNormal = w := by
    unfold Work.respNormal
    split
    · rfl
    · unfold Work.on Segment.issueDue; rw [hw]
  have h3 : w.respUrgent = w := by
    unfold Work.respUrgent; simp [hp]
  unfold Work.respDue
  rw [h1, h2, h3]

/-- Nothing is due in a calm segment unit. -/
theorem Work.finish_calm {w : Work} (h : w.seg.calm) : w.finish = w := by
  obtain ⟨hf, hs, hr, hl, hu, hq⟩ := h
  have e1 : w.heldFault = w := by unfold Work.heldFault; rw [hf]
  have e2 : w.seg.lostDue = w.seg := by unfold Segment.lostDue; rw [if_neg]; exact fun c => hl c.1
  have e3 : w.seg.kick = w.seg := by
    unfold Segment.kick
    rw [if_neg]
    rintro ⟨hk, hn⟩
    refine hu ?_ hn
    have := (Bool.and_eq_true _ _).mp hk
    simpa using this.1
  have e4 : w.seg.tryBegin = w.seg := by
    have hb : w.seg.beginAnswer = w.seg := by unfold Segment.beginAnswer; rw [hq.1]
    unfold Segment.tryBegin
    split
    · dsimp only; rw [hb, if_neg]; exact fun c => hr c.2.1
    · rfl
  have e5 : (w.on fun s => s.lostDue.kick) = w := by unfold Work.on; dsimp only; rw [e2, e3]
  have e6 : w.on Segment.tryBegin = w := by unfold Work.on; rw [e4]
  have e7 : w.stopCheck = w := by
    unfold Work.stopCheck
    rw [if_neg]
    unfold Work.stopReady
    simp [hs]
  unfold Work.finish
  dsimp only
  rw [e1, e5, Work.respDue_quiet hq, e6, ite_self, e7]

/-- A value that withdraws no request leaves the noted requests as they are. -/
theorem State.takeSeg_keeps {s : State} {k : Seg} {g : Segment}
    (h : ∀ src, (s.segs.get k).waits.access src ≠ none → g.waits.access src ≠ none) : s.takeSeg k g = s.putSeg k g := by
  have hw : ∀ r, s.withdraws k g r = false := by
    intro r
    match r with
    | .notice | .device => rfl
    | .segment j src =>
      simp only [State.withdraws, Bool.and_eq_false_iff]
      by_cases hs : (s.segs.get k).waits.access src = none
      · exact .inl (.inr (by rw [hs]; rfl))
      · exact .inr (Option.isNone_eq_false_iff.mpr (Option.isSome_iff_ne_none.mpr (h src hs)))
  have e : s.waitedAfter k g = s.port.waited := by
    unfold State.waitedAfter
    rw [List.filter_eq_self]
    intro r _
    rw [hw r]; rfl
  unfold State.takeSeg
  rw [e]
  rfl

/-- An event that raises nothing and leaves the segment unit calm gives that unit its new value alone. -/
theorem State.onSeg_calm {s : State} {k : Seg} {f : Work → Work}
    (hn : (f (s.work k)).notices = []) (hd : (f (s.work k)).drop = false) (hs : (f (s.work k)).segStop = false)
    (hw : (f (s.work k)).drew = false) (hc : (f (s.work k)).seg.calm) :
    s.onSeg k f = s.takeSeg k (f (s.work k)).seg := by
  unfold State.onSeg
  rw [Work.finish_calm hc]
  unfold State.commit
  rw [hn, hd, hs, hw]
  rfl

/-! ## Settling -/

theorem Four.all_congr {α : Type} {f g : Four α} {p : α → Bool} (h : ∀ k, p (f.get k) = p (g.get k)) :
    f.all p = g.all p := by
  have h0 := h .s0; have h1 := h .s1; have h2 := h .s2; have h3 := h .s3
  simp only [Four.get] at h0 h1 h2 h3
  simp [Four.all, h0, h1, h2, h3]

theorem State.allAtRest_takeSeg {s : State} {k : Seg} {g : Segment} (h : g.atRest = (s.segs.get k).atRest) :
    (s.takeSeg k g).allAtRest = s.allAtRest := by
  refine Four.all_congr fun j => ?_
  show ((s.segs.put k g).get j).atRest = _
  rw [Four.get_put]
  split
  · rename_i e; rw [h, e]
  · rfl

/-- In READY only the notice writer has something due. -/
theorem State.settle_ready {s : State} (h : s.dev.state = .ready) : s.settle = s.noticeDue := by
  unfold State.settle State.disableDue; rw [if_neg]; simp [h]

/-- The end of the drain (R165). -/
theorem State.drained_iff (s : State) : s.drained = true ↔ s.dev.disabling = true
    ∧ (∀ k, (s.segs.get k).state = .stopped ∧ (s.segs.get k).starting = false) ∧ s.nw.queue = [] := by
  unfold State.drained State.allAtRest Four.all Segment.atRest Segment.runBit
  constructor
  · intro h
    simp only [Bool.and_eq_true, List.isEmpty_iff] at h
    refine ⟨h.1.1, fun k => ?_, h.2⟩
    cases k <;> simp_all [Four.get]
  · rintro ⟨h1, h2, h3⟩
    have a := h2 .s0; have b := h2 .s1; have c := h2 .s2; have d := h2 .s3
    simp only [Four.get] at a b c d
    simp [h1, h3, a, b, c, d]

/-- Every command leaves the block with nothing due. -/
theorem State.settle_settled (s : State) : s.settle.settled := by
  unfold State.settled State.settle
  have hd : ∀ t : State, t.disableDue.disableDue = t.disableDue := by
    intro t
    by_cases c : t.dev.state = .faulted ∧ t.dev.disableAsked = true ∧ t.allAtRest = true
    · have : t.disableDue = t.enterDisabled := by unfold State.disableDue; rw [if_pos c]
      rw [this]
      unfold State.disableDue
      rw [if_neg]
      intro h; cases h.1
    · have : t.disableDue = t := by unfold State.disableDue; rw [if_neg c]
      rw [this, this]
  have hnd : ∀ t : State, t.disableDue = t → t.noticeDue.disableDue = t.noticeDue := by
    intro t h
    by_cases c : t.dev.state = .ready ∧ t.port.notice = none ∧ t.noticeOnBus = false
    · have : ∀ u : State, u.dev = t.dev → u.disableDue = u := by
        intro u hu
        unfold State.disableDue
        rw [if_neg]
        rw [hu, c.1]
        intro h; cases h.1
      apply this
      unfold State.noticeDue
      rw [if_pos c]
      repeat' split
      all_goals rfl
    · have : t.noticeDue = t := by unfold State.noticeDue; rw [if_neg c]
      rw [this, h]
  have hnn : ∀ t : State, t.noticeDue.noticeDue = t.noticeDue := by
    intro t
    by_cases c : t.noticeDue.port.notice = none
    · have : t.noticeDue = t := by
        unfold State.noticeDue at c ⊢
        split
        · rename_i hc
          rw [if_pos hc] at c
          split
          · rename_i hr; rw [if_pos hr] at c; cases c
          · rename_i hr
            rw [if_neg hr] at c
            split
            · rfl
            · rename_i q; rw [q] at c; cases c
        · rfl
      rw [this, this]
    · generalize t.noticeDue = u at c
      unfold State.noticeDue
      rw [if_neg]
      rintro ⟨-, h, -⟩
      exact c h
  rw [hnd _ (hd s), hnn]

/-- In a block with nothing due, device control and the notice writer each have nothing due. -/
theorem State.settled_parts {s : State} (h : s.settled) : s.disableDue = s ∧ s.noticeDue = s := by
  have hd : s.disableDue = s := by
    by_cases c : s.dev.state = .faulted ∧ s.dev.disableAsked = true ∧ s.allAtRest = true
    · have h1 : s.settle.dev = s.disableDue.dev := by
        unfold State.settle State.noticeDue
        repeat' split
        all_goals rfl
      have h2 : s.disableDue.dev.state = .disabled := by unfold State.disableDue; rw [if_pos c]; rfl
      rw [show s.settle = s from h] at h1
      rw [← h1, c.1] at h2
      cases h2
    · unfold State.disableDue; rw [if_neg c]
  refine ⟨hd, ?_⟩
  have h1 : s.disableDue.noticeDue = s := h
  rwa [hd] at h1

/-- A segment unit that takes a value with the same RUN bit leaves nothing due. -/
theorem State.settled_takeSeg {s : State} {k : Seg} {g : Segment} (hs : s.settled)
    (h : g.atRest = (s.segs.get k).atRest) : (s.takeSeg k g).settle = s.takeSeg k g := by
  obtain ⟨hd, hn⟩ := State.settled_parts hs
  have ha : (s.takeSeg k g).allAtRest = s.allAtRest := State.allAtRest_takeSeg h
  have hd' : (s.takeSeg k g).disableDue = s.takeSeg k g := by
    by_cases c : s.dev.state = .faulted ∧ s.dev.disableAsked = true ∧ s.allAtRest = true
    · have : s.disableDue.dev.state = .disabled := by unfold State.disableDue; rw [if_pos c]; rfl
      rw [hd, c.1] at this
      cases this
    · unfold State.disableDue
      rw [ha]
      exact if_neg c
  have hn' : (s.takeSeg k g).noticeDue = s.noticeDue.takeSeg k g := by
    have hdr : (s.takeSeg k g).drained = s.drained := by unfold State.drained; rw [ha]; rfl
    unfold State.noticeDue
    rw [hdr]
    show (if s.dev.state = .ready ∧ s.port.notice = none ∧ s.noticeOnBus = false then _ else _) = _
    split
    · show (if s.nw.recWaiting = true ∨ s.drained = true then _ else _) = _
      split
      · rfl
      · show (match s.nw.queue with
          | [] => s.takeSeg k g
          | n :: _ => _) = _
        cases s.nw.queue <;> rfl
    · rfl
  unfold State.settle
  rw [hd', hn', hn]

/-! ## Events in the form of the statements -/

/-- An event of a segment unit alone gives it the value its operation answers. -/
theorem State.segEvent_after {s : State} {k : Seg} {f : Segment → Segment} {g : Segment} (h : f (s.segs.get k) = g) :
    s.segEvent k f = .next (s.afterEvent k g []) := by subst h; rfl

/-- An event that may raise notices. -/
theorem State.workEvent_after {s : State} {k : Seg} {f : Work → Work} {g : Segment} {ns : List Notice}
    (h : f (s.work k) = { s.work k with seg := g, notices := ns }) :
    s.workEvent k f = .next (s.afterEvent k g ns) := by
  show Host.Outcome.next (s.commit k (f (s.work k)).finish).settle = _
  rw [h]; rfl

/-- An event that leaves a calm segment unit with the same RUN bit, and raises nothing, gives that unit its new value alone. -/
theorem State.afterEvent_calm {s : State} {k : Seg} {g : Segment} (hs : s.settled) (hc : g.calm)
    (ha : g.atRest = (s.segs.get k).atRest) : s.afterEvent k g [] = s.takeSeg k g := by
  unfold State.afterEvent
  rw [State.onSeg_calm (f := fun w => { w with seg := g, notices := [] }) rfl rfl rfl rfl hc]
  exact State.settled_takeSeg hs ha

end Sys2Proof.Machine
end

