-- ==== Sys2Proof/Laws/Frames.lean ====
section
/-! SUPPORT. What the work of a segment unit leaves alone: outside the segment controller no operation changes the
controller's own values, and no operation on a working copy changes what it may only read. -/

namespace Sys2Proof.Machine

/-- The values that only the segment controller changes. -/
def Segment.ctl (s : Segment) : SegState × Bool × Option Word × FaultCode × Option SegBlock × Word × Byte :=
  (s.state, s.starting, s.faultHeld, s.fault, s.run, s.blockPtr, s.scanInterval)

/-! ## Supply monitor -/

theorem Segment.sweepOff_ctl (s : Segment) : s.sweepOff.ctl = s.ctl := rfl

theorem Work.sample_ctl (w : Work) (r : Readings) : (w.sample r).seg.ctl = w.seg.ctl := by
  unfold Work.sample; dsimp only; split <;> rfl

theorem Work.sampleAt_ctl (w : Work) (mv : Nat) : (w.sampleAt mv).seg.ctl = w.seg.ctl := Work.sample_ctl _ _

theorem Work.deferredSample_ctl (w : Work) (mv : Nat) : (w.deferredSample mv).seg.ctl = w.seg.ctl := by
  unfold Work.deferredSample; split
  · rw [Work.sampleAt_ctl]; rfl
  · rfl

theorem Work.sweepStop_ctl (w : Work) : w.sweepStop.seg.ctl = w.seg.ctl := by
  unfold Work.sweepStop; split
  · rfl
  · exact Work.deferredSample_ctl _ _

/-! ## Responder -/

theorem Segment.stageFirst_ctl (s : Segment) (p : Hand → Bool) (st : Stage) : (s.stageFirst p st).ctl = s.ctl := rfl

theorem Segment.releaseOpt_ctl (s : Segment) (b : Option Buf) : (s.releaseOpt b).ctl = s.ctl := by cases b <;> rfl

theorem Segment.filingTurn_ctl (s : Segment) : s.filingTurn.ctl = s.ctl := by
  unfold Segment.filingTurn; split
  · rfl
  · split
    · dsimp only; split <;> rfl
    · split <;> rfl

theorem Segment.issueFiling_ctl (s : Segment) : s.issueFiling.ctl = s.ctl := by
  unfold Segment.issueFiling
  repeat' split
  all_goals rfl

theorem Segment.issueDue_ctl (s : Segment) : s.issueDue.ctl = s.ctl := by
  unfold Segment.issueDue; split
  · rfl
  · rfl
  · exact (Segment.issueFiling_ctl _).trans rfl

theorem Work.respNormal_ctl (w : Work) : w.respNormal.seg.ctl = w.seg.ctl := by
  unfold Work.respNormal; split
  · rfl
  · exact Segment.issueDue_ctl _

theorem Work.respUrgent_ctl (w : Work) : w.respUrgent.seg.ctl = w.seg.ctl := by
  unfold Work.respUrgent
  repeat' split
  all_goals rfl

theorem Work.respDue_ctl (w : Work) : w.respDue.seg.ctl = w.seg.ctl := by
  rw [Work.respDue, Work.respUrgent_ctl, Work.respNormal_ctl]
  exact Segment.filingTurn_ctl _

theorem Segment.answerOver_ctl (s : Segment) (sent : Bool) : (s.answerOver sent).ctl = s.ctl := by
  unfold Segment.answerOver
  repeat' split
  all_goals rfl

theorem Segment.abandonAnswer_ctl (s : Segment) : s.abandonAnswer.ctl = s.ctl := by
  unfold Segment.abandonAnswer
  repeat' split
  all_goals first | rfl | exact Segment.answerOver_ctl _ _

theorem Segment.dropHand_ctl (s : Segment) (p : Hand → Bool) (b : Buf) : (s.dropHand p b).ctl = s.ctl := by
  unfold Segment.dropHand Segment.release Segment.setHands Segment.countInbDrop Segment.ctl; rfl

theorem Work.inbFull_ctl (w : Work) (p : Hand → Bool) : (w.inbFull p).seg.ctl = w.seg.ctl := by
  unfold Work.inbFull
  split
  · rfl
  · dsimp only
    split
    · exact Segment.dropHand_ctl _ _ _
    · exact Segment.dropHand_ctl _ _ _

theorem Work.urgentDone_ctl (w : Work) (acc : Access) (d : List Byte) : (w.urgentDone acc d).seg.ctl = w.seg.ctl := by
  unfold Work.urgentDone
  repeat' split
  all_goals first | rfl | exact Work.inbFull_ctl _ _

theorem Segment.deadline_ctl (s : Segment) : s.deadline.ctl = s.ctl := by
  unfold Segment.deadline
  repeat' split
  all_goals rfl

theorem Work.respDone_ctl (w : Work) (acc : Access) (d : List Byte) : (w.respDone acc d).seg.ctl = w.seg.ctl := by
  unfold Work.respDone
  repeat' split
  all_goals first | rfl | exact Work.inbFull_ctl _ _

theorem Segment.takePoll_ctl (s : Segment) (k : Nat) (f : RxFrame) (b : Buf) : (s.takePoll k f b).ctl = s.ctl :=
  (rfl : _ = s.abandonAnswer.ctl).trans s.abandonAnswer_ctl

theorem Segment.takeSet_ctl (s : Segment) (k : Nat) (kind : FrameKind) (f : RxFrame) (b : Buf) :
    (s.takeSet k kind f b).ctl = s.ctl := (rfl : _ = s.abandonAnswer.ctl).trans s.abandonAnswer_ctl

theorem Segment.takeHeader_ctl (s : Segment) (k : Nat) (kind : FrameKind) (f : RxFrame) :
    (s.takeHeader k kind f).ctl = s.ctl := (rfl : _ = s.abandonAnswer.ctl).trans s.abandonAnswer_ctl

theorem Segment.takeFiling_ctl (s : Segment) (kind : EntryKind) (f : RxFrame) (b : Buf) :
    (s.takeFiling kind f b).ctl = s.ctl := by
  unfold Segment.takeFiling; split <;> rfl

/-! ## Work sequencer -/

theorem Segment.chainRequest_ctl (s : Segment) : s.chainRequest.ctl = s.ctl := by
  unfold Segment.chainRequest
  repeat' split
  all_goals rfl

theorem Segment.chainEnd_ctl (s : Segment) : s.chainEnd.ctl = s.ctl := by
  unfold Segment.chainEnd; dsimp only; split
  · exact Segment.chainRequest_ctl _
  · rfl

theorem Segment.examineHead_ctl (s : Segment) : s.examineHead.ctl = s.ctl := by
  unfold Segment.examineHead; split <;> rfl

theorem Segment.beginCycle_ctl (s : Segment) : s.beginCycle.ctl = s.ctl := by
  unfold Segment.beginCycle; dsimp only; split
  · rfl
  · split <;> rfl

theorem Segment.cycleEnd_ctl (s : Segment) : s.cycleEnd.ctl = s.ctl := by
  unfold Segment.cycleEnd; dsimp only; split <;> rfl

theorem Segment.passOpportunity_ctl (s : Segment) : s.passOpportunity.ctl = s.ctl := by
  unfold Segment.passOpportunity; split
  · rfl
  · exact Segment.cycleEnd_ctl _

theorem Segment.startTake_ctl (s : Segment) : s.startTake.ctl = s.ctl := by
  unfold Segment.startTake; split <;> rfl

theorem Segment.startUnit_ctl (s : Segment) : s.startUnit.ctl = s.ctl := Segment.startTake_ctl _

theorem Segment.testOpportunity_ctl (s : Segment) : s.testOpportunity.ctl = s.ctl := by
  unfold Segment.testOpportunity
  repeat' split
  · exact Segment.startUnit_ctl _
  · exact Segment.passOpportunity_ctl _
  · rfl

theorem Segment.beginDue_ctl (s : Segment) : s.beginDue.ctl = s.ctl := by
  unfold Segment.beginDue; split
  · exact Segment.beginCycle_ctl _
  · rfl

theorem Segment.dispatch_ctl (s : Segment) : s.dispatch.ctl = s.ctl := by
  unfold Segment.dispatch
  repeat' split
  all_goals first | rfl | exact Segment.startUnit_ctl _

theorem Segment.kick_ctl (s : Segment) : s.kick.ctl = s.ctl := by
  unfold Segment.kick; split
  · rw [Segment.dispatch_ctl, Segment.beginDue_ctl, Segment.testOpportunity_ctl]
  · rfl

theorem Segment.endUnit_ctl (s : Segment) : s.endUnit.ctl = s.ctl := by
  unfold Segment.endUnit; dsimp only; split
  · rw [Segment.chainRequest_ctl, Segment.passOpportunity_ctl]; rfl
  · rw [Segment.chainRequest_ctl]; rfl

theorem Segment.dropTake_ctl (s : Segment) (a : Word) : (s.dropTake a).ctl = s.ctl := by
  unfold Segment.dropTake
  dsimp only
  repeat' split
  all_goals
    first
      | rfl
      | (rw [Segment.endUnit_ctl]; rfl)
      | (rw [Segment.passOpportunity_ctl]; rfl)
      | (rw [Segment.chainRequest_ctl]; rfl)
      | (rw [Segment.chainRequest_ctl]; exact (Segment.passOpportunity_ctl _).trans rfl)

theorem Segment.pauseCycle_ctl (s : Segment) : s.pauseCycle.ctl = s.ctl := by
  unfold Segment.pauseCycle; split <;> rfl

theorem Segment.resumeCycle_ctl (s : Segment) : s.resumeCycle.ctl = s.ctl := by
  unfold Segment.resumeCycle
  repeat' split
  · exact Segment.beginCycle_ctl _
  all_goals rfl

/-! ## Poll entries -/

theorem Segment.writeStatus_ctl (s : Segment) (e : EntryUnit) (o : Ending) : (s.writeStatus e o).ctl = s.ctl := rfl

theorem Segment.decideEntry_ctl (s : Segment) (e : EntryUnit) (o : Ending) (p : Pause) :
    (s.decideEntry e o p).ctl = s.ctl := by
  unfold Segment.decideEntry; dsimp only; split <;> rfl

theorem Work.entryReadDone_ctl (w : Work) (e : EntryUnit) (d : List Byte) : (w.entryReadDone e d).seg.ctl = w.seg.ctl := by
  unfold Work.entryReadDone; dsimp only
  repeat' split
  all_goals rfl

theorem Work.stationReadDone_ctl (w : Work) (e : EntryUnit) (d : List Byte) :
    (w.stationReadDone e d).seg.ctl = w.seg.ctl := by
  unfold Work.stationReadDone; dsimp only
  repeat' split
  all_goals first | rfl | exact Segment.decideEntry_ctl _ _ _ _

theorem Work.capMarkerDone_ctl (w : Work) (e : EntryUnit) (d : List Byte) : (w.capMarkerDone e d).seg.ctl = w.seg.ctl := by
  unfold Work.capMarkerDone; split
  · rfl
  · dsimp only; split <;> exact Segment.releaseOpt_ctl _ _

theorem Segment.capBodyDone_ctl (s : Segment) (e : EntryUnit) : (s.capBodyDone e).ctl = s.ctl :=
  s.releaseOpt_ctl e.buf

theorem Segment.capMarkDone_ctl (s : Segment) (e : EntryUnit) : (s.capMarkDone e).ctl = s.ctl := rfl

theorem Work.statusDone_ctl (w : Work) (e : EntryUnit) : (w.statusDone e).seg.ctl = w.seg.ctl := by
  unfold Work.statusDone; dsimp only
  repeat' split
  all_goals rfl

theorem Work.entryDone_ctl (w : Work) (e : EntryUnit) (op : Op) (d : List Byte) : (w.entryDone e op d).seg.ctl = w.seg.ctl := by
  unfold Work.entryDone; split
  · exact Work.entryReadDone_ctl _ _ _
  · exact Work.stationReadDone_ctl _ _ _
  · exact Work.capMarkerDone_ctl _ _ _
  · exact Segment.capBodyDone_ctl _ _
  · exact Segment.capMarkDone_ctl _ _
  · exact Work.statusDone_ctl _ _
  · rfl

/-! ## Requests -/

theorem Segment.tryComplete_ctl (s : Segment) (r : ReqUnit) : (s.tryComplete r).ctl = s.ctl := by
  unfold Segment.tryComplete
  repeat' split
  all_goals rfl

theorem Segment.decideReq_ctl (s : Segment) (r : ReqUnit) (o : Ending) : (s.decideReq r o).ctl = s.ctl :=
  Segment.tryComplete_ctl _ _

theorem Segment.beginSweep_ctl (s : Segment) : s.beginSweep.ctl = s.ctl := by
  unfold Segment.beginSweep; split <;> rfl

theorem Segment.serveReq_ctl (s : Segment) (r : ReqUnit) : (s.serveReq r).ctl = s.ctl := by
  unfold Segment.serveReq
  repeat' split
  all_goals
    first
      | rfl
      | exact Segment.decideReq_ctl _ _ _
      | exact Segment.tryComplete_ctl _ _
      | exact (Segment.beginSweep_ctl _).trans rfl

theorem Segment.becomeCurrent_ctl (s : Segment) (r : ReqUnit) : (s.becomeCurrent r).ctl = s.ctl := by
  unfold Segment.becomeCurrent; dsimp only
  repeat' split
  all_goals exact Segment.serveReq_ctl _ _

theorem Segment.takeDone_ctl (s : Segment) (r : ReqUnit) (d : List Byte) : (s.takeDone r d).ctl = s.ctl := by
  unfold Segment.takeDone; split
  · rfl
  · exact Segment.dropTake_ctl _ _

theorem Segment.takenDone_ctl (s : Segment) (r : ReqUnit) : (s.takenDone r).ctl = s.ctl := by
  unfold Segment.takenDone; split
  · rfl
  · exact Segment.becomeCurrent_ctl _ _

theorem Segment.outcomeDone_ctl (s : Segment) (r : ReqUnit) (o : Ending) : (s.outcomeDone r o).ctl = s.ctl :=
  s.releaseOpt_ctl r.buf

theorem Work.stateDone_ctl (w : Work) (r : ReqUnit) : (w.stateDone r).seg.ctl = w.seg.ctl := by
  unfold Work.stateDone; dsimp only
  repeat' split
  all_goals
    first
      | exact (Segment.startTake_ctl _).trans ((Segment.pauseCycle_ctl _).trans rfl)
      | exact (Segment.startTake_ctl _).trans ((Segment.resumeCycle_ctl _).trans rfl)
      | exact (Segment.startTake_ctl _).trans rfl
      | exact (Segment.endUnit_ctl _).trans ((Segment.pauseCycle_ctl _).trans rfl)
      | exact (Segment.endUnit_ctl _).trans ((Segment.resumeCycle_ctl _).trans rfl)
      | exact (Segment.endUnit_ctl _).trans rfl

theorem Segment.groupLinkDone_ctl (s : Segment) (r : ReqUnit) (link : Word) : (s.groupLinkDone r link).ctl = s.ctl := by
  unfold Segment.groupLinkDone; split
  · exact Segment.tryComplete_ctl _ _
  · rfl

theorem Segment.groupStateDone_ctl (s : Segment) (r : ReqUnit) (st : Byte) : (s.groupStateDone r st).ctl = s.ctl := by
  unfold Segment.groupStateDone
  repeat' split
  all_goals first | rfl | exact Segment.tryComplete_ctl _ _

theorem Work.reqDone_ctl (w : Work) (r : ReqUnit) (op : Op) (d : List Byte) : (w.reqDone r op d).seg.ctl = w.seg.ctl := by
  unfold Work.reqDone; split
  · exact Segment.takeDone_ctl _ _ _
  · exact Segment.takenDone_ctl _ _
  · exact Segment.becomeCurrent_ctl _ _
  · exact Segment.tryComplete_ctl _ _
  · exact Segment.outcomeDone_ctl _ _ _
  · exact Work.stateDone_ctl _ _
  · exact Segment.groupLinkDone_ctl _ _ _
  · exact Segment.groupStateDone_ctl _ _ _
  · rfl

theorem Segment.chainDone_ctl (s : Segment) (op : Op) (d : List Byte) : (s.chainDone op d).ctl = s.ctl := by
  unfold Segment.chainDone Segment.headDone Segment.chainLinkDone Segment.chainStateDone Segment.candidate
  dsimp only
  repeat' split
  all_goals
    first
      | rfl
      | exact (Segment.chainRequest_ctl _).trans rfl
      | exact (Segment.chainEnd_ctl _).trans rfl

/-! ## The line -/

theorem Segment.beginAnswer_ctl (s : Segment) : s.beginAnswer.ctl = s.ctl := by
  unfold Segment.beginAnswer
  repeat' split
  all_goals rfl

theorem Segment.beginWork_ctl (s : Segment) : s.beginWork.ctl = s.ctl := by
  unfold Segment.beginWork; split
  · dsimp only; split <;> rfl
  · rfl

theorem Segment.tryBegin_ctl (s : Segment) : s.tryBegin.ctl = s.ctl := by
  unfold Segment.tryBegin; split
  · dsimp only; split
    · rw [Segment.beginWork_ctl, Segment.beginAnswer_ctl]
    · exact Segment.beginAnswer_ctl _
  · rfl

theorem Segment.finishUnit_ctl (s : Segment) (o : Ending) (p : Pause) : (s.finishUnit o p).ctl = s.ctl := by
  unfold Segment.finishUnit; split
  · exact Segment.decideEntry_ctl _ _ _ _
  · exact Segment.decideReq_ctl _ _ _
  · rfl

theorem Segment.attemptEnds_ctl (s : Segment) (o : Ending) (p : Pause) : (s.attemptEnds o p).ctl = s.ctl := by
  unfold Segment.attemptEnds; split
  · exact Segment.decideEntry_ctl _ _ _ _
  · exact Segment.decideReq_ctl _ _ _
  · rfl

theorem Segment.attemptFails_ctl (s : Segment) (o : Ending) (p : Pause) : (s.attemptFails o p).ctl = s.ctl := by
  unfold Segment.attemptFails
  repeat' split
  all_goals first | rfl | exact Segment.attemptEnds_ctl _ _ _

theorem Segment.exchangeOver_ctl (s : Segment) : s.exchangeOver.ctl = s.ctl := by
  unfold Segment.exchangeOver; split <;> rfl

theorem Segment.keepReply_ctl (s : Segment) (r : ReqUnit) (f : Option RxFrame) (b : Option Buf) :
    (s.keepReply r f b).ctl = s.ctl := by
  unfold Segment.keepReply
  repeat' split
  all_goals rfl

theorem Segment.answerReported_ctl (s : Segment) (f : Option RxFrame) : (s.answerReported f).ctl = s.ctl := by
  have key : ∀ t : Segment, t.ctl = s.ctl → t.exchangeOver.ctl = s.ctl := fun t h => t.exchangeOver_ctl.trans h
  have drop : s.dropFrame.ctl = s.ctl := rfl
  unfold Segment.answerReported
  dsimp only
  repeat' split
  all_goals
    first
      | exact (Segment.attemptEnds_ctl _ _ _).trans (key _ drop)
      | exact (Segment.attemptEnds_ctl _ _ _).trans (key _ rfl)
      | exact (Segment.attemptFails_ctl _ _ _).trans (key _ drop)
      | exact (Segment.attemptFails_ctl _ _ _).trans (key _ rfl)
      | exact (Segment.attemptEnds_ctl _ _ _).trans ((Segment.keepReply_ctl _ _ _ _).trans (key _ drop))
      | exact (Segment.attemptEnds_ctl _ _ _).trans ((Segment.keepReply_ctl _ _ _ _).trans (key _ rfl))
      | exact (Segment.attemptFails_ctl _ _ _).trans ((Segment.keepReply_ctl _ _ _ _).trans (key _ drop))
      | exact (Segment.attemptFails_ctl _ _ _).trans ((Segment.keepReply_ctl _ _ _ _).trans (key _ rfl))
      | exact key _ drop

theorem Segment.noReply_ctl (s : Segment) : s.noReply.ctl = s.ctl := by
  unfold Segment.noReply; split
  · rw [Segment.attemptFails_ctl, Segment.exchangeOver_ctl]
  · rfl

theorem Segment.countLoss_ctl (s : Segment) : s.countLoss.ctl = s.ctl := by
  unfold Segment.countLoss; split <;> rfl

theorem Segment.workLost_ctl (s : Segment) : s.workLost.ctl = s.ctl := by
  unfold Segment.workLost
  dsimp only
  repeat' split
  all_goals
    first
      | rfl
      | exact Segment.countLoss_ctl _
      | exact (Segment.finishUnit_ctl _ _ _).trans (Segment.countLoss_ctl _)

theorem Segment.workCollided_ctl (s : Segment) : s.workCollided.ctl = s.ctl := by
  unfold Segment.workCollided; split
  · dsimp only; split <;> exact Segment.attemptFails_ctl _ _ _
  · exact Segment.finishUnit_ctl _ _ _
  all_goals rfl

theorem Segment.workSent_ctl (s : Segment) (t : Tx) : (s.workSent t).ctl = s.ctl := by
  unfold Segment.workSent
  repeat' split
  all_goals first
    | rfl
    | (rw [Segment.attemptEnds_ctl, Segment.exchangeOver_ctl])
    | exact Segment.finishUnit_ctl _ _ _

theorem Segment.lostDue_ctl (s : Segment) : s.lostDue.ctl = s.ctl := by
  unfold Segment.lostDue; split
  · exact Segment.finishUnit_ctl _ _ _
  · rfl

theorem Segment.handGood_ctl (s : Segment) (f : RxFrame) (kind : FrameKind) : (s.handGood f kind).ctl = s.ctl := by
  unfold Segment.handGood
  repeat' split
  all_goals
    first
      | rfl
      | exact (Segment.takePoll_ctl _ _ _ _).trans rfl
      | exact (Segment.takeSet_ctl _ _ _ _ _).trans rfl
      | exact (Segment.takeHeader_ctl _ _ _ _).trans rfl
      | exact Segment.takeFiling_ctl _ _ _ _

theorem Segment.handOver_ctl (s : Segment) (c : Class) (f : RxFrame) : (s.handOver c f).ctl = s.ctl := by
  unfold Segment.handOver
  dsimp only
  repeat' split
  all_goals first | rfl | exact Segment.answerReported_ctl _ _ | exact Segment.handGood_ctl _ _ _

/-! ## What the sequencer leaves alone -/

/-- The values of a segment unit that beginning a unit of work, or ending one, leaves alone. -/
def Segment.side (s : Segment) :
    Responder × Line × Option Access × Option Access × Counters × Supply × Capture × Departure × Bool × Bool × Nat :=
  (s.resp, s.line, s.waits.responder, s.waits.urgent, s.counters, s.supply, s.cap, s.departed, s.everLocked, s.stopWrite,
    s.good)

theorem Segment.beginCycle_side (s : Segment) : s.beginCycle.side = s.side := by
  unfold Segment.beginCycle; dsimp only; split
  · rfl
  · split <;> rfl

theorem Segment.cycleEnd_side (s : Segment) : s.cycleEnd.side = s.side := by
  unfold Segment.cycleEnd; dsimp only; split <;> rfl

theorem Segment.passOpportunity_side (s : Segment) : s.passOpportunity.side = s.side := by
  unfold Segment.passOpportunity; split
  · rfl
  · exact Segment.cycleEnd_side _

theorem Segment.startTake_side (s : Segment) : s.startTake.side = s.side := by
  unfold Segment.startTake; split <;> rfl

theorem Segment.startUnit_side (s : Segment) : s.startUnit.side = s.side := Segment.startTake_side _

theorem Segment.testOpportunity_side (s : Segment) : s.testOpportunity.side = s.side := by
  unfold Segment.testOpportunity
  repeat' split
  · exact Segment.startUnit_side _
  · exact Segment.passOpportunity_side _
  · rfl

theorem Segment.beginDue_side (s : Segment) : s.beginDue.side = s.side := by
  unfold Segment.beginDue; split
  · exact Segment.beginCycle_side _
  · rfl

theorem Segment.dispatch_side (s : Segment) : s.dispatch.side = s.side := by
  unfold Segment.dispatch
  repeat' split
  all_goals first | rfl | exact Segment.startUnit_side _

theorem Segment.kick_side (s : Segment) : s.kick.side = s.side := by
  unfold Segment.kick; split
  · rw [Segment.dispatch_side, Segment.beginDue_side, Segment.testOpportunity_side]
  · rfl

theorem Segment.decideEntry_side (s : Segment) (e : EntryUnit) (o : Ending) (p : Pause) :
    (s.decideEntry e o p).side = s.side := by
  unfold Segment.decideEntry; dsimp only; split <;> rfl

theorem Segment.tryComplete_side (s : Segment) (r : ReqUnit) : (s.tryComplete r).side = s.side := by
  unfold Segment.tryComplete
  repeat' split
  all_goals rfl

theorem Segment.decideReq_side (s : Segment) (r : ReqUnit) (o : Ending) : (s.decideReq r o).side = s.side :=
  Segment.tryComplete_side _ _

theorem Segment.finishUnit_side (s : Segment) (o : Ending) (p : Pause) : (s.finishUnit o p).side = s.side := by
  unfold Segment.finishUnit; split
  · exact Segment.decideEntry_side _ _ _ _
  · exact Segment.decideReq_side _ _ _
  · rfl

theorem Segment.lostDue_side (s : Segment) : s.lostDue.side = s.side := by
  unfold Segment.lostDue; split
  · exact Segment.finishUnit_side _ _ _
  · rfl

end Sys2Proof.Machine
end

