-- ==== Sys2Proof/Laws/Finish.lean ====
section
/-! SUPPORT. What the epilogue of an event keeps: the absence of an answer, the changes that wait for a record write and
the waiting write, and the controller's values. -/

namespace Sys2Proof.Machine

/-- No answer is pending or on the line, and no write-back is owed or waits. -/
def Segment.noAnswer (g : Segment) : Prop :=
  g.resp.pend = none ∧ g.resp.owesNoWrite ∧ (∀ a, g.waits.responder = some a → a.op ≠ .writeBack)
    ∧ (∀ x, g.line.tx = some x → x.answer = false)

/-- It depends on what the sequencer leaves alone. -/
theorem Segment.noAnswer_side {a b : Segment} (h : a.side = b.side) (hb : b.noAnswer) :
    a.noAnswer ∧ a.counters = b.counters := by
  simp only [Segment.side, Prod.mk.injEq] at h
  obtain ⟨h1, h2, h3, h4, h5, -⟩ := h
  exact ⟨⟨by rw [h1]; exact hb.1, by rw [h1]; exact hb.2.1, by rw [h3]; exact hb.2.2.1, by rw [h2]; exact hb.2.2.2⟩, h5⟩

/-- The next access of a filing is no write-back. -/
theorem Responder.owesNoWrite_filing {r : Responder} (h : r.owesNoWrite) (hs : List Hand) :
    Responder.owesNoWrite { r with hands := hs, due := r.due ++ [NormalDue.filing] } := by
  intro wb hm
  rcases List.mem_append.mp hm with hm | hm
  · exact h wb hm
  · cases List.mem_singleton.mp hm

/-- Issuing the access of a filing keeps it. -/
theorem Segment.issueFiling_noAnswer {g : Segment} (hb : g.noAnswer) :
    g.issueFiling.noAnswer ∧ g.issueFiling.counters = g.counters := by
  have ⟨h1, h2, h3, h4⟩ := hb
  unfold Segment.issueFiling
  split
  · exact ⟨hb, rfl⟩
  · split
    all_goals first | exact ⟨hb, rfl⟩ | refine ⟨⟨h1, h2, fun a ha => ?_, h4⟩, rfl⟩
    all_goals cases ha; simp [Access.read, Access.write]

/-- Issuing the first access that is due keeps it. -/
theorem Segment.issueDue_noAnswer {g : Segment} (hb : g.noAnswer) :
    g.issueDue.noAnswer ∧ g.issueDue.counters = g.counters := by
  have ⟨h1, h2, h3, h4⟩ := hb
  unfold Segment.issueDue
  split
  · exact ⟨hb, rfl⟩
  · rename_i wb rest hd
    exact absurd (by rw [hd]; exact List.mem_cons_self) (h2 wb)
  · rename_i rest hd
    have := Segment.issueFiling_noAnswer (g := { g with resp := { g.resp with due := rest } })
      ⟨h1, fun wb hm => h2 wb (by rw [hd]; exact List.mem_cons_of_mem _ hm), h3, h4⟩
    exact ⟨this.1, this.2⟩

/-- The responder's own accesses keep it. -/
theorem Work.respDue_noAnswer {w : Work} (hb : w.seg.noAnswer) :
    w.respDue.seg.noAnswer ∧ w.respDue.seg.counters = w.seg.counters := by
  have ⟨h1, h2, h3, h4⟩ := hb
  have hf : (w.on Segment.filingTurn).seg.noAnswer ∧ (w.on Segment.filingTurn).seg.counters = w.seg.counters := by
    unfold Work.on Segment.filingTurn
    dsimp only
    split
    · exact ⟨hb, rfl⟩
    · split
      · have : (w.seg.stageFirst (Hand.atStage .wantRead) .reading).resp.pend = none := h1
        rw [this]; exact ⟨hb, rfl⟩
      · split
        · exact ⟨⟨h1, Responder.owesNoWrite_filing h2 _, h3, h4⟩, rfl⟩
        · exact ⟨hb, rfl⟩
  unfold Work.respDue
  generalize w.on Segment.filingTurn = v at hf ⊢
  obtain ⟨⟨g1, g2, g3, g4⟩, g5⟩ := hf
  have hn : v.respNormal.seg.noAnswer ∧ v.respNormal.seg.counters = v.seg.counters := by
    unfold Work.respNormal
    split
    · exact ⟨⟨g1, g2, g3, g4⟩, rfl⟩
    · exact Segment.issueDue_noAnswer ⟨g1, g2, g3, g4⟩
  have hu : v.respNormal.respUrgent = v.respNormal := by
    unfold Work.respUrgent; rw [hn.1.1]
  rw [hu]
  exact ⟨hn.1, hn.2.trans g5⟩

/-- A work frame is no answer. -/
theorem Segment.workFrame_answer (g : Segment) (x : Tx) (h : g.workFrame = some x) : x.answer = false := by
  unfold Segment.workFrame at h
  split at h
  · cases h; rfl
  · dsimp only at h; split at h <;> cases h <;> rfl
  · cases h

/-- Beginning a frame keeps it. -/
theorem Segment.tryBegin_noAnswer {g : Segment} (hb : g.noAnswer) :
    g.tryBegin.noAnswer ∧ g.tryBegin.counters = g.counters := by
  have ⟨h1, h2, h3, h4⟩ := hb
  have hba : g.beginAnswer = g := by unfold Segment.beginAnswer; rw [h1]
  unfold Segment.tryBegin
  split
  · dsimp only; rw [hba]
    split
    · unfold Segment.beginWork
      split
      · rename_i t ht
        dsimp only
        split <;> exact ⟨⟨h1, h2, h3, fun x hx => by cases hx; exact Segment.workFrame_answer _ _ ht⟩, rfl⟩
      · exact ⟨hb, rfl⟩
    · exact ⟨hb, rfl⟩
  · exact ⟨hb, rfl⟩

/-- The epilogue of an event keeps it, and the counters. -/
theorem Work.finish_noAnswer {w : Work} (hb : w.seg.noAnswer) :
    w.finish.seg.noAnswer ∧ w.finish.seg.counters = w.seg.counters := by
  have hh : w.heldFault.seg.noAnswer ∧ w.heldFault.seg.counters = w.seg.counters := by
    unfold Work.heldFault
    split
    · split
      · exact ⟨⟨hb.1, hb.2.1, hb.2.2.1, fun x hx => by cases hx⟩, rfl⟩
      · exact ⟨hb, rfl⟩
    · exact ⟨hb, rfl⟩
  unfold Work.finish
  generalize w.heldFault = v at hh ⊢
  obtain ⟨i, c⟩ := hh
  have key : ∀ u : Work, u.seg.noAnswer → u.seg.counters = w.seg.counters →
      u.stopCheck.seg.noAnswer ∧ u.stopCheck.seg.counters = w.seg.counters := by
    intro u hi hc
    unfold Work.stopCheck
    split
    · exact ⟨⟨hi.1, hi.2.1, hi.2.2.1, hi.2.2.2⟩, hc⟩
    · exact ⟨hi, hc⟩
  dsimp only
  split
  · have a := Segment.noAnswer_side (Segment.kick_side v.seg.lostDue) (Segment.noAnswer_side (Segment.lostDue_side v.seg) i).1
    have a2 := (Segment.noAnswer_side (Segment.lostDue_side v.seg) i).2
    have b := Work.respDue_noAnswer (w := v.on fun s => s.lostDue.kick) a.1
    have d := Segment.tryBegin_noAnswer b.1
    refine key _ d.1 ?_
    exact (d.2.trans b.2).trans ((a.2.trans a2).trans c)
  · exact key _ i c

/-- An abandoned answer leaves none, and owes no write-back (R130, R132). -/
theorem Segment.answerOver_noAnswer {g : Segment} (sent : Bool) (h : sent = false) (h2 : g.resp.owesNoWrite)
    (h3 : ∀ a, g.waits.responder = some a → a.op ≠ .writeBack)
    (h4 : ∀ x, g.line.tx = some x → x.answer = false) :
    (g.answerOver sent).noAnswer ∧ (g.answerOver sent).counters = g.counters := by
  subst h
  unfold Segment.answerOver
  split
  · rename_i hp; exact ⟨⟨hp, h2, h3, h4⟩, rfl⟩
  · rename_i p hp
    have ha : p.ans.writeBack false = [] := by unfold Ans.writeBack; split <;> rfl
    have hw : { g.resp with pend := none, due := g.resp.due ++ p.ans.writeBack false }.owesNoWrite := by
      rw [ha, List.append_nil]; exact h2
    have rel : ∀ (b : Buf) (x : Tx), (g.line.release b).tx = some x → x.answer = false := by
      intro b x hx; refine h4 x ?_; cases b <;> exact hx
    dsimp only
    repeat' split
    all_goals first
      | exact ⟨⟨rfl, hw, h3, h4⟩, rfl⟩
      | exact ⟨⟨rfl, hw, h3, rel _⟩, rfl⟩
      | (rename_i c; cases c.2)

/-! ## The record write that waits -/

/-- From a to b the changes that wait for a record write are the same, and a waiting record write still waits. -/
def Segment.keepsRecord (a b : Segment) : Prop :=
  b.run = a.run ∧ b.prWait = a.prWait ∧ (a.waits.control = some a.progressWait → b.waits.control = some b.progressWait)

theorem Segment.keepsRecord_refl (a : Segment) : a.keepsRecord a := ⟨rfl, rfl, id⟩

theorem Segment.keepsRecord_trans {a b c : Segment} (h : a.keepsRecord b) (h' : b.keepsRecord c) : a.keepsRecord c :=
  ⟨h'.1.trans h.1, h'.2.1.trans h.2.1, fun x => h'.2.2 (h.2.2 x)⟩

/-- A change that touches neither. -/
theorem Segment.keepsRecord_of {a b : Segment} (h1 : b.run = a.run) (h2 : b.prWait = a.prWait)
    (h3 : b.waits.control = a.waits.control) : a.keepsRecord b :=
  ⟨h1, h2, fun h => by rw [h3, h]; unfold Segment.progressWait Segment.blk; rw [h1]⟩

theorem Segment.reqProgress_keepsRecord (a : Segment) : a.keepsRecord (a.reqProgress []) :=
  ⟨rfl, List.append_nil _, fun _ => rfl⟩

theorem Segment.beginCycle_keepsRecord (a : Segment) : a.keepsRecord a.beginCycle := by
  unfold Segment.beginCycle; dsimp only; split
  · exact Segment.keepsRecord_of rfl rfl rfl
  · split
    · exact Segment.keepsRecord_of rfl rfl rfl
    · exact ⟨rfl, List.append_nil _, fun _ => rfl⟩

theorem Segment.cycleEnd_keepsRecord (a : Segment) : a.keepsRecord a.cycleEnd := by
  unfold Segment.cycleEnd; dsimp only
  refine Segment.keepsRecord_trans (Segment.reqProgress_keepsRecord a) ?_
  split <;> exact Segment.keepsRecord_of rfl rfl rfl

theorem Segment.passOpportunity_keepsRecord (a : Segment) : a.keepsRecord a.passOpportunity := by
  unfold Segment.passOpportunity; split
  · exact Segment.keepsRecord_of rfl rfl rfl
  · exact Segment.cycleEnd_keepsRecord _

theorem Segment.startTake_keepsRecord (a : Segment) : a.keepsRecord a.startTake := by
  unfold Segment.startTake; split <;> exact Segment.keepsRecord_of rfl rfl rfl

theorem Segment.startUnit_keepsRecord (a : Segment) : a.keepsRecord a.startUnit :=
  Segment.keepsRecord_trans (Segment.keepsRecord_of rfl rfl rfl) (Segment.startTake_keepsRecord _)

theorem Segment.testOpportunity_keepsRecord (a : Segment) : a.keepsRecord a.testOpportunity := by
  unfold Segment.testOpportunity
  repeat' split
  · exact Segment.startUnit_keepsRecord _
  · exact Segment.passOpportunity_keepsRecord _
  · exact Segment.keepsRecord_refl _

theorem Segment.beginDue_keepsRecord (a : Segment) : a.keepsRecord a.beginDue := by
  unfold Segment.beginDue; split
  · exact Segment.beginCycle_keepsRecord _
  · exact Segment.keepsRecord_refl _

theorem Segment.dispatch_keepsRecord (a : Segment) : a.keepsRecord a.dispatch := by
  unfold Segment.dispatch
  repeat' split
  all_goals first | exact Segment.startUnit_keepsRecord _ | exact Segment.keepsRecord_refl _

theorem Segment.kick_keepsRecord (a : Segment) : a.keepsRecord a.kick := by
  unfold Segment.kick; split
  · exact Segment.keepsRecord_trans (Segment.keepsRecord_trans (Segment.testOpportunity_keepsRecord _)
      (Segment.beginDue_keepsRecord _)) (Segment.dispatch_keepsRecord _)
  · exact Segment.keepsRecord_refl _

theorem Segment.lostDue_keepsRecord (a : Segment) : a.keepsRecord a.lostDue := by
  unfold Segment.lostDue; split
  · unfold Segment.finishUnit; split
    · unfold Segment.decideEntry; dsimp only; split <;> exact Segment.keepsRecord_of rfl rfl rfl
    · unfold Segment.decideReq Segment.tryComplete; dsimp only
      repeat' split
      all_goals exact Segment.keepsRecord_of rfl rfl rfl
    · exact Segment.keepsRecord_of rfl rfl rfl
  · exact Segment.keepsRecord_refl _

theorem Segment.tryBegin_keepsRecord (a : Segment) : a.keepsRecord a.tryBegin := by
  have hb : ∀ g : Segment, g.keepsRecord g.beginAnswer := by
    intro g; unfold Segment.beginAnswer
    repeat' split
    all_goals exact Segment.keepsRecord_of rfl rfl rfl
  unfold Segment.tryBegin; split
  · dsimp only; split
    · refine Segment.keepsRecord_trans (hb a) ?_
      unfold Segment.beginWork; split
      · dsimp only; split <;> exact Segment.keepsRecord_of rfl rfl rfl
      · exact Segment.keepsRecord_refl _
    · exact hb a
  · exact Segment.keepsRecord_refl _

theorem Work.respDue_keepsRecord (w : Work) : w.seg.keepsRecord w.respDue.seg := by
  have hf : w.seg.keepsRecord (w.on Segment.filingTurn).seg := by
    unfold Work.on Segment.filingTurn; dsimp only
    repeat' split
    all_goals exact Segment.keepsRecord_of rfl rfl rfl
  have hi : ∀ g : Segment, g.keepsRecord g.issueFiling := by
    intro g; unfold Segment.issueFiling
    repeat' split
    all_goals exact Segment.keepsRecord_of rfl rfl rfl
  have hd : ∀ g : Segment, g.keepsRecord g.issueDue := by
    intro g; unfold Segment.issueDue
    split
    · exact Segment.keepsRecord_refl _
    · exact Segment.keepsRecord_of rfl rfl rfl
    · exact Segment.keepsRecord_trans (Segment.keepsRecord_of rfl rfl rfl) (hi _)
  have hn : ∀ v : Work, v.seg.keepsRecord v.respNormal.seg := by
    intro v; unfold Work.respNormal; split
    · exact Segment.keepsRecord_refl _
    · exact hd _
  have hu : ∀ v : Work, v.seg.keepsRecord v.respUrgent.seg := by
    intro v; unfold Work.respUrgent
    repeat' split
    all_goals exact Segment.keepsRecord_of rfl rfl rfl
  unfold Work.respDue
  exact Segment.keepsRecord_trans (Segment.keepsRecord_trans hf (hn _)) (hu _)

/-- With no fault held, the epilogue of an event keeps the waiting changes and a waiting record write. -/
theorem Work.finish_keepsRecord {w : Work} (h : w.seg.faultHeld = none) : w.seg.keepsRecord w.finish.seg := by
  have hh : w.heldFault = w := by unfold Work.heldFault; rw [h]
  unfold Work.finish
  dsimp only
  rw [hh]
  have hs : ∀ v : Work, v.seg.keepsRecord v.stopCheck.seg := by
    intro v; unfold Work.stopCheck; split
    · exact ⟨rfl, List.append_nil _, fun _ => rfl⟩
    · exact Segment.keepsRecord_refl _
  split
  · refine Segment.keepsRecord_trans ?_ (hs _)
    refine Segment.keepsRecord_trans ?_ (Segment.tryBegin_keepsRecord _)
    refine Segment.keepsRecord_trans ?_ (Work.respDue_keepsRecord _)
    exact Segment.keepsRecord_trans (Segment.lostDue_keepsRecord _) (Segment.kick_keepsRecord _)
  · exact hs _

/-- With no fault held, the epilogue of an event keeps the controller's values. -/
theorem Work.finish_ctl {w : Work} (h : w.seg.faultHeld = none) : w.finish.seg.ctl = w.seg.ctl := by
  have hh : w.heldFault = w := by unfold Work.heldFault; rw [h]
  unfold Work.finish
  dsimp only
  rw [hh]
  have hs : ∀ v : Work, v.stopCheck.seg.ctl = v.seg.ctl := by
    intro v; unfold Work.stopCheck; split <;> rfl
  rw [hs]
  split
  · show Segment.ctl (Segment.tryBegin _) = _
    rw [Segment.tryBegin_ctl, Work.respDue_ctl]
    show Segment.ctl (Segment.kick _) = _
    rw [Segment.kick_ctl, Segment.lostDue_ctl]
  · rfl
end Sys2Proof.Machine
end

