-- ==== Sys2Proof/Laws/Events.lean ====
section
/-! SUPPORT. Responses of the port and the epilogue of an event, in the form the statements use: what a response leaves,
and which segment unit an event leaves in LOCKED and in STOPPING. -/

namespace Sys2Proof.Machine

/-- Device control and the notice writer leave the segment units alone. -/
theorem State.settle_segs (s : State) : s.settle.segs = s.segs := by
  unfold State.settle State.disableDue State.noticeDue
  repeat' split
  all_goals rfl

/-- The working copy of segment k with the segment unit g and the notices ns. -/
def State.workWith (s : State) (k : Seg) (g : Segment) (ns : List Notice) : Work :=
  { s.work k with seg := g, notices := ns }

@[simp] theorem State.workWith_seg (s : State) (k : Seg) (g : Segment) (ns : List Notice) :
    (s.workWith k g ns).seg = g := rfl

/-- The segment unit after an event is what the epilogue makes of the value the event gave it. -/
theorem State.afterEvent_seg (s : State) (k : Seg) (g : Segment) (ns : List Notice) :
    (s.afterEvent k g ns).segs.get k = (s.workWith k g ns).finish.seg := by
  unfold State.afterEvent
  rw [State.settle_segs, State.onSeg_segs, Four.get_put_same]
  rfl

/-! ## Responses -/

/-- A response to an access of a segment is an event of that segment on an IDLE port. -/
theorem exec_accessComplete {s : State} {k : Seg} {src : Source} {a : Access} (h : s.serves k src a) (d : List Byte) :
    exec (.accessComplete d) s = .next (s.freePort.onSeg k fun w => w.accessDone a d).settle := by
  show Host.Outcome.next (s.complete d).settle = _
  unfold State.complete
  rw [h]
  rfl

theorem exec_errorResponse {s : State} {k : Seg} {src : Source} {a : Access} (h : s.serves k src a) :
    exec .errorResponse s = .next (s.freePort.onSeg k fun w => w.accessError a).settle := by
  show Host.Outcome.next s.errorResponse.settle = _
  unfold State.errorResponse
  rw [h]
  rfl

/-- A completion that only gives the segment unit a new value and raises notices. -/
theorem exec_accessComplete_after {s : State} {k : Seg} {src : Source} {a : Access} {d : List Byte} {g : Segment}
    {ns : List Notice} (h : s.serves k src a)
    (hd : (s.freePort.work k).accessDone a d = { s.freePort.work k with seg := g, notices := ns }) :
    exec (.accessComplete d) s = .next (s.freePort.afterEvent k g ns) := by
  rw [exec_accessComplete h]
  unfold State.afterEvent State.onSeg
  dsimp only
  rw [hd]

theorem exec_errorResponse_after {s : State} {k : Seg} {src : Source} {a : Access} {g : Segment} {ns : List Notice}
    (h : s.serves k src a)
    (hd : (s.freePort.work k).accessError a = { s.freePort.work k with seg := g, notices := ns }) :
    exec .errorResponse s = .next (s.freePort.afterEvent k g ns) := by
  rw [exec_errorResponse h]
  unfold State.afterEvent State.onSeg
  dsimp only
  rw [hd]

/-! ## Grants -/

/-- With no late request the arbiter sees every request. -/
@[simp] theorem State.seen_nil (s : State) : s.seen [] = s := by unfold State.seen; split <;> rfl

/-- No request can be late where no grant is owed to a response. -/
theorem State.seen_open {s : State} (late : List Requester) (h : s.grantOwed = false) : s.seen late = s := by
  simp [State.seen, h]

/-- A request that had arrived when the last response returned cannot be late. -/
theorem State.seen_waited {s : State} {r : Requester} (h : r ∈ s.port.waited) : s.seen [r] = s := by
  simp [State.seen, h]

/-- Any other request can, at the grant owed to that response. -/
theorem State.seen_late {s : State} {r : Requester} (ho : s.grantOwed = true) (h : r ∉ s.port.waited) :
    s.seen [r] = s.without r := by
  simp [State.seen, ho, h]

/-- A grant of a BUSY port changes nothing. -/
theorem State.grant_busy {s : State} (late : List Requester) (h : s.port.busy.isSome = true) : s.grant late = s := by
  unfold State.grant; rw [if_pos h]

/-- A grant of an IDLE port serves the requester granted. -/
theorem State.grant_idle {s : State} (late : List Requester) (h : s.port.busy = none) :
    s.grant late = (match s.granted late with
      | some (.segment k src) => s.grantSegment k src
      | some .notice => s.grantNotice
      | some .device => s.grantDevice
      | none => s) := by
  unfold State.grant; rw [h]; rfl

/-! ## Reads that nothing wants, a lost unit, a sweep -/

theorem Segment.readUnwanted_urgent (g : Segment) {op : Op} (h : op = .respRecord ∨ op = .inbMarkerUrgent) :
    g.readUnwanted op = !g.urgentLive := by rcases h with rfl | rfl <;> rfl

/-- The report of a winner's frame moves a lost unit on; any other unit stays. -/
theorem Segment.winnerReported_other {g : Segment} (h : g.xact ≠ .lostReport) : g.winnerReported = g := if_neg h

theorem Segment.winnerReported_entry {g : Segment} {e : EntryUnit} (h : g.xact = .lostReport) (hu : g.unit = .entry e) :
    g.winnerReported = { g with xact := .lostAnswer, cycle := { g.cycle with pause := .running } } := by
  unfold Segment.winnerReported Segment.lostPause; rw [if_pos h, hu]; rfl

/-- A sweep begins in LOCKED alone. -/
theorem Segment.beginSweep_other {g : Segment} (h : g.state ≠ .locked) : g.beginSweep = g := by
  have hw : g.working = false := by simp [Segment.working, h]
  unfold Segment.beginSweep; rw [hw]; rfl

/-! ## The epilogue in LOCKED and in STOPPING -/

theorem Work.heldFault_none {w : Work} (h : w.seg.faultHeld = none) : w.heldFault = w := by
  unfold Work.heldFault; rw [h]

/-- Outside STOPPING nothing ends a stop. -/
theorem Work.stopCheck_other {w : Work} (h : w.seg.state ≠ .stopping) : w.stopCheck = w := by
  unfold Work.stopCheck
  rw [if_neg]
  unfold Work.stopReady
  simp [h]

theorem Work.finish_locked {w : Work} (hf : w.seg.faultHeld = none) (hl : w.seg.state = .locked) :
    w.finish = ((w.on fun s => s.lostDue.kick).respDue.on Segment.tryBegin).stopCheck := by
  unfold Work.finish
  dsimp only
  rw [Work.heldFault_none hf, if_pos]
  unfold Segment.live
  simp [hf, hl]

/-- Beginning a unit of work moves no transaction. -/
theorem Segment.kick_xact (g : Segment) : g.kick.xact = g.xact := by
  have h1 : ∀ x : Segment, x.startUnit.xact = x.xact := by
    intro x; unfold Segment.startUnit Segment.startTake; dsimp only; split <;> rfl
  have h2 : ∀ x : Segment, x.passOpportunity.xact = x.xact := by
    intro x; unfold Segment.passOpportunity Segment.cycleEnd; dsimp only
    repeat' split
    all_goals rfl
  have h3 : ∀ x : Segment, x.testOpportunity.xact = x.xact := by
    intro x; unfold Segment.testOpportunity
    repeat' split
    all_goals first | rfl | exact h1 _ | exact h2 _
  have h4 : ∀ x : Segment, x.beginDue.xact = x.xact := by
    intro x; unfold Segment.beginDue Segment.beginCycle; dsimp only
    repeat' split
    all_goals rfl
  have h5 : ∀ x : Segment, x.dispatch.xact = x.xact := by
    intro x; unfold Segment.dispatch
    repeat' split
    all_goals first | rfl | exact h1 _
  unfold Segment.kick
  split
  · rw [h5, h4, h3]
  · rfl

/-- In LOCKED, with no transaction and nothing owed by the responder, an event leaves the segment unit with the next unit
of work begun. -/
theorem State.afterEvent_sequencer {s : State} {k : Seg} {g : Segment} {ns : List Notice} (hl : g.state = .locked)
    (hf : g.faultHeld = none) (hx : g.xact = .idle) (hq : g.resp.quiet) :
    (s.afterEvent k g ns).segs.get k = g.kick := by
  have hs := g.kick_side
  have hc := g.kick_ctl
  simp only [Segment.side, Prod.mk.injEq] at hs
  simp only [Segment.ctl, Prod.mk.injEq] at hc
  have hd : g.lostDue = g := by unfold Segment.lostDue; rw [if_neg]; simp [hx]
  have hr : ((s.workWith k g ns).on fun s => s.lostDue.kick).seg.resp.quiet := by
    show g.lostDue.kick.resp.quiet
    rw [hd, hs.1]; exact hq
  have ht : (((s.workWith k g ns).on fun s => s.lostDue.kick).on Segment.tryBegin).seg = g.kick := by
    show g.lostDue.kick.tryBegin = _
    have hb : g.kick.beginAnswer = g.kick := by unfold Segment.beginAnswer; rw [hs.1, hq.1]
    rw [hd]
    unfold Segment.tryBegin
    split
    · dsimp only; rw [hb, if_neg]; simp [g.kick_xact, hx]
    · rfl
  rw [State.afterEvent_seg, Work.finish_locked hf hl, Work.respDue_quiet hr, Work.stopCheck_other, ht]
  rw [ht, hc.1, hl]
  simp

/-- In STOPPING, with no unit, no transaction and nothing owed by the responder, only the end of the stop can be due. -/
theorem Work.finish_stopping {w : Work} (hl : w.seg.state = .stopping) (hf : w.seg.faultHeld = none)
    (hx : w.seg.xact = .idle) (hq : w.seg.resp.quiet) : w.finish = w.stopCheck := by
  have hd : w.seg.lostDue = w.seg := by unfold Segment.lostDue; rw [if_neg]; simp [hx]
  have hk : w.seg.kick = w.seg := by unfold Segment.kick; rw [if_neg]; simp [Segment.working, hl]
  have ht : w.seg.tryBegin = w.seg := by unfold Segment.tryBegin; rw [if_neg]; simp [Segment.working, hl]
  have h5 : (w.on fun s => s.lostDue.kick) = w := by unfold Work.on; dsimp only; rw [hd, hk]
  have h6 : w.on Segment.tryBegin = w := by unfold Work.on; rw [ht]
  unfold Work.finish
  dsimp only
  rw [Work.heldFault_none hf, h5, Work.respDue_quiet hq, h6, ite_self]

/-! ## SCAN: what it does to one segment whose bit is set -/

/-- A segment that ignores a SCAN stays as it is. -/
theorem Segment.scanned_ignored {g : Segment} (h : g.ignoresScan) : g.scanned = g := by
  unfold Segment.scanned Segment.chainRequest Segment.live
  rcases h with h | h | h | h | h | h | h | ⟨h, h' | h' | h'⟩
  · simp [h]
  · simp [h]
  · rw [if_neg]; rintro ⟨c, -⟩; simp at c; exact h c.2
  · simp [h]
  · simp [h]
  · simp [h]
  · simp [h]
  · simp [h, h']
  · simp [h, Option.ne_none_iff_isSome.mp h']
  · simp [h, h']

/-- What a segment that does not ignore a SCAN has. -/
theorem Segment.takesScan {g : Segment} (h : ¬g.ignoresScan) :
    (g.live = true ∧ g.blk.chainHead ≠ 0 ∧ g.req.examined = true) ∧ g.stopWrite = false ∧ g.req.chain ≠ .exam
      ∧ (g.req.chain = .idle → g.req.ready = false ∧ g.req.current = none) := by
  unfold Segment.ignoresScan at h
  simp only [not_or, not_and] at h
  obtain ⟨h1, h2, h3, h4, h5, h6, h7, h8⟩ := h
  have h3 : g.faultHeld = none := by simpa using h3
  refine ⟨⟨by simp [Segment.live, h1, h2, h3], h4, by simpa using h5⟩, by simpa using h6, h7, fun hi => ?_⟩
  exact ⟨by simpa using (h8 hi).1, by simpa using (h8 hi).2.1⟩

/-- A chain read under way is noted (R106). -/
theorem Segment.scanned_noted {g : Segment} (h : ¬g.ignoresScan) (hc : g.req.chain ≠ .idle) :
    g.scanned = { g with req := { g.req with more := true } } := by
  obtain ⟨h1, h2, h3, -⟩ := Segment.takesScan h
  unfold Segment.scanned Segment.chainRequest
  rw [if_pos h1, if_neg (by simp [h2])]
  cases hh : g.req.chain <;> simp_all

/-- With no chain read under way the read of the anchor's link begins (R106). -/
theorem Segment.scanned_begins {g : Segment} {a : Word} (h : ¬g.ignoresScan) (hc : g.req.chain = .idle)
    (ha : g.req.anchor = some a) :
    g.scanned = { g with req := { g.req with chain := .link },
                         waits := { g.waits with chain := some ⟨.chainLink, a, 4, []⟩ } } := by
  obtain ⟨h1, h2, -, h4⟩ := Segment.takesScan h
  unfold Segment.scanned Segment.chainRequest
  rw [if_pos h1, if_neg (by simp [h2])]
  simp [hc, h4 hc, ha, Access.read]

/-! ## An answer given up, a fault taken -/

/-- What abandoning the pending answer leaves (R130, R137, R21). -/
theorem Segment.answerOver_abandons {g : Segment} {p : Pend} {l l' : Line} {r : Responder} (hp : g.resp.pend = some p)
    (h : g.AbandonsAnswer p l l' r) :
    ({ g with line := l } : Segment).answerOver false = { g with line := l', resp := r } := by
  have hw : p.ans.writeBack false = [] := by cases p.ans <;> rfl
  have hg : p.ans.given false = .none := by cases p.ans <;> rfl
  unfold Segment.answerOver
  simp only [hp, hw, List.append_nil, hg]
  rcases h with ⟨hn, rfl, rfl⟩ | ⟨b, x, hb, hf, ⟨h1, h2, h3, rfl, rfl⟩ | ⟨h1, rfl, rfl⟩⟩
  · cases hb : p.buf with
    | none => rfl
    | some b => simp only [hn b hb]
  · simp only [hb, hf]
    exact if_pos ⟨h1, h2, h3⟩
  · simp only [hb, hf]
    refine (if_neg h1).trans ((if_neg ?_).trans rfl)
    simp

/-- What a departure or a start bit of another device leaves of an owed answer (R130). -/
theorem Segment.abandonAnswer_givesUp {g : Segment} {l l' : Line} {r : Responder} (h : g.GivesUpAnswer l l' r) :
    ({ g with line := l } : Segment).abandonAnswer = { g with line := l', resp := r } := by
  unfold Segment.abandonAnswer
  rcases h with ⟨hb, rfl, rfl⟩ | ⟨p, hp, hb, h⟩
  · cases hp : g.resp.pend with
    | none => rfl
    | some p => simp only [hb p hp, if_true]
  · simp only [hp, hb, Bool.false_eq_true, if_false]
    exact Segment.answerOver_abandons hp h

/-- The epilogue does nothing in a FAULTED segment. -/
theorem Work.finish_faulted {w : Work} (hl : w.seg.state = .faulted) (hf : w.seg.faultHeld = none) : w.finish = w := by
  unfold Work.finish
  dsimp only
  rw [Work.heldFault_none hf, if_neg (by simp [Segment.live, hl]), Work.stopCheck_other (by simp [hl])]

/-- Marking the access on the bus changes neither the segment unit nor what the event may read. -/
theorem Work.discard_keeps (w : Work) (p : Op → Bool) : (w.discard p).wide = w.wide ∧ (w.discard p).seg = w.seg := by
  unfold Work.discard; repeat' split
  all_goals exact ⟨rfl, rfl⟩

/-- A fault of a live segment that drives no frame is an entry to FAULTED (R40), under the same device-wide stop. -/
theorem Work.takeFault_enters {w : Work} (code : FaultCode) (ref : Word) (hl : w.seg.live = true)
    (ht : w.seg.line.tx = none) :
    ∃ v : Work, w.takeFault code ref = v.enterFaulted ref ∧ v.seg.stopOwed = w.seg.stopOwed ∧ v.wide = w.wide := by
  obtain ⟨h1, h2⟩ := w.discard_keeps fun op => op != .progress
  unfold Work.takeFault
  rw [if_pos hl]
  dsimp only
  generalize (w.discard fun op => op != .progress) = v at h1 h2
  have hn : ¬v.seg.line.tx.isSome = true := by rw [h2, ht]; simp
  refine ⟨_, if_neg hn, Eq.trans (b := v.seg.stopOwed) rfl (congrArg Segment.stopOwed h2), ?_⟩
  dsimp only [Work.on]; exact h1

/-- A segment that enters FAULTED under a device-wide stop owes the move to STOPPED (R39, R40, R45). -/
theorem Work.enterFaulted_finish (w : Work) (ref : Word) :
    (w.enterFaulted ref).finish.seg.state = .faulted
      ∧ (w.enterFaulted ref).finish.seg.stopOwed = (w.seg.stopOwed || w.wide) := by
  rw [Work.finish_faulted rfl rfl]
  exact ⟨rfl, rfl⟩

end Sys2Proof.Machine
end

