-- ==== Sys2Proof/WellFormed.lean ====
section
/-! DEFINITION. Which commands are well formed: the operand ranges the rules give. The machine gives a meaning to
every command; a well-formed one is one that the hardware's environment can send. -/

namespace Sys2Proof

/-- Operand ranges: a response is at most the longest piece, 160 bytes (R156); an arbitration loss falls in DEST or
SRC (R16); a collision falls in SYNC or after SRC, in a frame of at most 72 characters (R17, R4). -/
def Instr.wellFormed : Instr → Bool
  | .accessComplete data => decide (data.length ≤ 160)
  | .arbitrationLoss _ pos _ => pos == 1 || pos == 2
  | .collision _ pos _ => pos == 0 || (decide (3 ≤ pos) && decide (pos < 72))
  | .pinReset | .softReset | .enableSet | .enableClear | .runSet _ | .runClear _ | .scan _ | .attentionRead
  | .attentionMaskWrite _ | .registerWrite _ _ | .memoryGrant _ | .errorResponse | .throttleExpiry _ | .frameReport _
  | .startBitTaken _ | .transmitEnd _ | .frameGap _ | .reservationExpiry _ | .wExpiry _ | .holdGap _
  | .answerTurnaround _ | .responderDeadline _ | .stallReport _ | .stallEnd _ | .settleExpiry _ _ | .quietInterval _
  | .cycleTimerExpiry _ | .scanTimerExpiry _ | .sampleTimerExpiry _ _ | .sweepStep _ _ _ | .pauseAfterEnd _
  | .characterComplete _ _ _ _ => true

end Sys2Proof
end

