-- ==== Sys2Proof/Laws/PerInstr.lean ====
section
/-! SUPPORT. A law of every command, one lemma a constructor: a command is well formed exactly when its operands lie in the
ranges the rules give. -/

namespace Sys2Proof.Laws.OperandRanges

/-- The ranges of operands that the rules give (R156, R16, R17, R4); every other operand may take any value. -/
def inRange : Instr → Prop
  | .accessComplete data => data.length ≤ 160
  | .arbitrationLoss _ pos _ => pos = 1 ∨ pos = 2
  | .collision _ pos _ => pos = 0 ∨ (3 ≤ pos ∧ pos < 72)
  | .pinReset | .softReset | .enableSet | .enableClear | .runSet _ | .runClear _ | .scan _ | .attentionRead
  | .attentionMaskWrite _ | .registerWrite _ _ | .memoryGrant _ | .errorResponse | .throttleExpiry _
  | .frameReport _ | .startBitTaken _ | .transmitEnd _ | .frameGap _ | .reservationExpiry _ | .wExpiry _
  | .holdGap _ | .answerTurnaround _ | .responderDeadline _ | .stallReport _ | .stallEnd _
  | .settleExpiry _ _ | .quietInterval _ | .cycleTimerExpiry _ | .scanTimerExpiry _ | .sampleTimerExpiry _ _
  | .sweepStep _ _ _ | .pauseAfterEnd _ | .characterComplete _ _ _ _ => True

/-- The law of a command. -/
def Statement (i : Instr) : Prop := i.wellFormed = true ↔ inRange i

theorem pinReset : Statement .pinReset := by
  simp [Statement, inRange, Instr.wellFormed]
theorem softReset : Statement .softReset := by
  simp [Statement, inRange, Instr.wellFormed]
theorem enableSet : Statement .enableSet := by
  simp [Statement, inRange, Instr.wellFormed]
theorem enableClear : Statement .enableClear := by
  simp [Statement, inRange, Instr.wellFormed]
theorem runSet (k : Seg) : Statement (.runSet k) := by
  simp [Statement, inRange, Instr.wellFormed]
theorem runClear (k : Seg) : Statement (.runClear k) := by
  simp [Statement, inRange, Instr.wellFormed]
theorem scan (value : Word) : Statement (.scan value) := by
  simp [Statement, inRange, Instr.wellFormed]
theorem attentionRead : Statement .attentionRead := by
  simp [Statement, inRange, Instr.wellFormed]
theorem attentionMaskWrite (value : Word) : Statement (.attentionMaskWrite value) := by
  simp [Statement, inRange, Instr.wellFormed]
theorem registerWrite (reg : PlainReg) (value : Word) : Statement (.registerWrite reg value) := by
  simp [Statement, inRange, Instr.wellFormed]
theorem memoryGrant (late : List Requester) : Statement (.memoryGrant late) := by
  simp [Statement, inRange, Instr.wellFormed]
theorem accessComplete (data : List Byte) : Statement (.accessComplete data) := by
  simp [Statement, inRange, Instr.wellFormed]
theorem errorResponse : Statement .errorResponse := by
  simp [Statement, inRange, Instr.wellFormed]
theorem throttleExpiry (k : Seg) : Statement (.throttleExpiry k) := by
  simp [Statement, inRange, Instr.wellFormed]
theorem frameReport (k : Seg) : Statement (.frameReport k) := by
  simp [Statement, inRange, Instr.wellFormed]
theorem startBitTaken (k : Seg) : Statement (.startBitTaken k) := by
  simp [Statement, inRange, Instr.wellFormed]
theorem arbitrationLoss (k : Seg) (pos : Nat) (start : Bool) : Statement (.arbitrationLoss k pos start) := by
  simp [Statement, inRange, Instr.wellFormed]
theorem collision (k : Seg) (pos : Nat) (start : Bool) : Statement (.collision k pos start) := by
  simp [Statement, inRange, Instr.wellFormed]
theorem transmitEnd (k : Seg) : Statement (.transmitEnd k) := by
  simp [Statement, inRange, Instr.wellFormed]
theorem frameGap (k : Seg) : Statement (.frameGap k) := by
  simp [Statement, inRange, Instr.wellFormed]
theorem reservationExpiry (k : Seg) : Statement (.reservationExpiry k) := by
  simp [Statement, inRange, Instr.wellFormed]
theorem wExpiry (k : Seg) : Statement (.wExpiry k) := by
  simp [Statement, inRange, Instr.wellFormed]
theorem holdGap (k : Seg) : Statement (.holdGap k) := by
  simp [Statement, inRange, Instr.wellFormed]
theorem answerTurnaround (k : Seg) : Statement (.answerTurnaround k) := by
  simp [Statement, inRange, Instr.wellFormed]
theorem responderDeadline (k : Seg) : Statement (.responderDeadline k) := by
  simp [Statement, inRange, Instr.wellFormed]
theorem stallReport (k : Seg) : Statement (.stallReport k) := by
  simp [Statement, inRange, Instr.wellFormed]
theorem stallEnd (k : Seg) : Statement (.stallEnd k) := by
  simp [Statement, inRange, Instr.wellFormed]
theorem settleExpiry (k : Seg) (mv : Nat) : Statement (.settleExpiry k mv) := by
  simp [Statement, inRange, Instr.wellFormed]
theorem quietInterval (k : Seg) : Statement (.quietInterval k) := by
  simp [Statement, inRange, Instr.wellFormed]
theorem cycleTimerExpiry (k : Seg) : Statement (.cycleTimerExpiry k) := by
  simp [Statement, inRange, Instr.wellFormed]
theorem scanTimerExpiry (k : Seg) : Statement (.scanTimerExpiry k) := by
  simp [Statement, inRange, Instr.wellFormed]
theorem sampleTimerExpiry (k : Seg) (mv : Nat) : Statement (.sampleTimerExpiry k mv) := by
  simp [Statement, inRange, Instr.wellFormed]
theorem sweepStep (k : Seg) (mv next : Nat) : Statement (.sweepStep k mv next) := by
  simp [Statement, inRange, Instr.wellFormed]
theorem pauseAfterEnd (k : Seg) : Statement (.pauseAfterEnd k) := by
  simp [Statement, inRange, Instr.wellFormed]
theorem characterComplete (k : Seg) (c : Byte) (parity stop : Bool) : Statement (.characterComplete k c parity stop) := by
  simp [Statement, inRange, Instr.wellFormed]

end Sys2Proof.Laws.OperandRanges
end

