-- ==== Sys2Proof/Laws/Stop.lean ====
section
/-! SUPPORT. What a RUN write of 0 makes of a segment unit depends on that unit, the granted access and the free value drawn
alone, so that a device-wide stop does the same to each segment (R45). -/

namespace Sys2Proof.Machine

/-- The access of segment k that is on the bus, if one is. -/
def busAccess (k : Seg) (b : Option Busy) : Option (Source × Access) :=
  match b with
  | some ⟨.segment j src, a, _⟩ => if j = k then some (src, a) else none
  | _ => none

/-- Segment k has the same access on the bus, its result discarded or not. -/
def sameAccess (k : Seg) (a b : Option Busy) : Prop := busAccess k a = busAccess k b

theorem busAccess_discarded (k : Seg) (b : Option Busy) : busAccess k (b.map Busy.discarded) = busAccess k b := by
  match b with
  | none => rfl
  | some ⟨.segment _ _, _, _⟩ | some ⟨.notice, _, _⟩ | some ⟨.device, _, _⟩ => rfl

theorem State.busAfter_same (s : State) (drop : Bool) (k : Seg) : sameAccess k (s.busAfter drop) s.port.busy := by
  unfold State.busAfter; split
  · exact busAccess_discarded _ _
  · rfl

theorem Work.busSource_access (w : Work) : w.busSource = (busAccess w.k w.bus).map Prod.fst := by
  unfold Work.busSource busAccess
  generalize w.bus = c
  match c with
  | none | some ⟨.notice, _, _⟩ | some ⟨.device, _, _⟩ => rfl
  | some ⟨.segment _ _, _, _⟩ => dsimp only; split <;> simp_all

theorem Work.discard_access (w : Work) (p : Op → Bool) :
    w.discard p = match busAccess w.k w.bus with
      | some (_, a) => if p a.op = true then { w with drop := true } else w
      | none => w := by
  unfold Work.discard
  rw [Work.busSource_access]
  match hc : w.bus with
  | none | some ⟨.notice, _, _⟩ | some ⟨.device, _, _⟩ => simp [busAccess]
  | some ⟨.segment j src, a, _⟩ =>
    unfold busAccess
    by_cases e : j = w.k <;> simp [e]

/-- The working copy with other values of what a stop does not read: the withheld notices, the device-wide stop, and the
discard mark of the granted access. -/
def Work.env (w : Work) (mute wide : Bool) (bus : Option Busy) : Work := { w with mute := mute, wide := wide, bus := bus }

section
variable {w : Work} {m d : Bool} {b : Option Busy}

theorem Work.env_ite {c : Prop} [Decidable c] (u v : Work) :
    (if c then u else v).env m d b = if c then u.env m d b else v.env m d b :=
  apply_ite (fun x : Work => x.env m d b) c u v

theorem Work.env_busSource (h : sameAccess w.k b w.bus) : (w.env m d b).busSource = w.busSource := by
  rw [Work.busSource_access, Work.busSource_access]
  exact congrArg _ h

theorem Work.env_discard (p : Op → Bool) (h : sameAccess w.k b w.bus) :
    (w.env m d b).discard p = (w.discard p).env m d b := by
  rw [Work.discard_access, Work.discard_access]
  have hb : busAccess (w.env m d b).k (w.env m d b).bus = busAccess w.k w.bus := h
  rw [hb]
  match busAccess w.k w.bus with
  | none => rfl
  | some (_, a) => dsimp only; rw [Work.env_ite]; rfl

theorem Work.discard_bus (w : Work) (p : Op → Bool) : (w.discard p).k = w.k ∧ (w.discard p).bus = w.bus := by
  unfold Work.discard; repeat' split
  all_goals exact ⟨rfl, rfl⟩

theorem Work.env_sampleAt (mv : Nat) : (w.env m d b).sampleAt mv = (w.sampleAt mv).env m d b := by
  unfold Work.sampleAt Work.sample
  have hs : (w.env m d b).seg = w.seg := rfl
  dsimp only
  rw [hs]
  cases levelNotice w.seg.supply.level (levelOf (w.seg.supply.read mv)) <;> rfl

theorem Work.env_deferredSample (mv : Nat) : (w.env m d b).deferredSample mv = (w.deferredSample mv).env m d b := by
  unfold Work.deferredSample
  rw [Work.env_ite, ← Work.env_sampleAt]; rfl

theorem Work.env_sweepStop : (w.env m d b).sweepStop = w.sweepStop.env m d b := by
  unfold Work.sweepStop
  have hs : (w.env m d b).seg = w.seg := rfl
  rw [hs]
  cases w.seg.supply.sweep with
  | idle => rfl
  | sweeping _ _ =>
    dsimp only
    rw [show (w.env m d b).on Segment.sweepOff = (w.on Segment.sweepOff).env m d b from rfl, Work.env_deferredSample]
    rfl

theorem Work.env_enterStopping (h : sameAccess w.k b w.bus) : (w.env m d b).enterStopping = w.enterStopping.env m d b := by
  unfold Work.enterStopping
  rw [Work.env_discard _ h, show ((w.discard Op.stopDrops).env m d b).on Segment.beginStop
    = ((w.discard Op.stopDrops).on Segment.beginStop).env m d b from rfl, Work.env_sweepStop]
  rfl

theorem Work.env_runClear (h : sameAccess w.k b w.bus) : (w.env m d b).runClear = w.runClear.env m d b := by
  unfold Work.runClear
  have hs : (w.env m d b).seg = w.seg := rfl
  rw [hs]
  cases w.seg.state with
  | stopped => dsimp only; unfold Work.cancelStart; rw [Work.env_discard _ h]; rfl
  | settling | acquiring | locked | stalled => exact Work.env_enterStopping h
  | stopping => rfl
  | faulted => dsimp only; unfold Work.faultedToStopped; rw [Work.env_ite]; rfl

/-- The epilogue reads the device-wide stop only at the entry to FAULTED of a segment with no move to STOPPED owed. -/
theorem Work.env_heldFault (hf : w.seg.faultHeld = none ∨ w.seg.stopOwed = true) :
    (w.env m d b).heldFault = w.heldFault.env m d b := by
  unfold Work.heldFault
  have hs : (w.env m d b).seg = w.seg := rfl
  rw [hs]
  cases hr : w.seg.faultHeld with
  | none => rfl
  | some ref =>
    have ho : w.seg.stopOwed = true := hf.resolve_left (by simp [hr])
    dsimp only
    rw [Work.env_ite]
    unfold Work.enterFaulted Work.on Work.env
    dsimp only
    rw [ho]; rfl

theorem Work.heldFault_bus (w : Work) : w.heldFault.k = w.k ∧ w.heldFault.bus = w.bus := by
  unfold Work.heldFault; repeat' split
  all_goals exact ⟨rfl, rfl⟩

theorem Work.respDue_bus (w : Work) : w.respDue.k = w.k ∧ w.respDue.bus = w.bus := by
  unfold Work.respDue Work.respUrgent Work.respNormal; repeat' split
  all_goals exact ⟨rfl, rfl⟩

theorem Work.env_respDue (h : sameAccess w.k b w.bus) : (w.env m d b).respDue = w.respDue.env m d b := by
  have hn : ∀ u : Work, sameAccess u.k b u.bus → (u.env m d b).respNormal = u.respNormal.env m d b := by
    intro u hu
    unfold Work.respNormal; rw [Work.env_busSource hu, Work.env_ite]; rfl
  have hu : ∀ u : Work, sameAccess u.k b u.bus → (u.env m d b).respUrgent = u.respUrgent.env m d b := by
    intro u hu
    unfold Work.respUrgent; rw [Work.env_busSource hu]
    have hs : (u.env m d b).seg = u.seg := rfl
    rw [hs]
    cases u.seg.resp.pend with
    | none => rfl
    | some p => dsimp only; rw [Work.env_ite]; rfl
  have hb : ∀ u : Work, u.respNormal.k = u.k ∧ u.respNormal.bus = u.bus := by
    intro u; unfold Work.respNormal; split <;> exact ⟨rfl, rfl⟩
  unfold Work.respDue
  rw [show (w.env m d b).on Segment.filingTurn = (w.on Segment.filingTurn).env m d b from rfl,
    hn (w.on Segment.filingTurn) h, hu _ (by rw [(hb _).1, (hb _).2]; exact h)]

theorem Work.env_stopCheck (h : sameAccess w.k b w.bus) : (w.env m d b).stopCheck = w.stopCheck.env m d b := by
  have : (w.env m d b).stopReady = w.stopReady := by
    unfold Work.stopReady; rw [Work.env_busSource h]; rfl
  unfold Work.stopCheck; rw [this, Work.env_ite]; rfl

theorem Work.env_finish (h : sameAccess w.k b w.bus) (hf : w.seg.faultHeld = none ∨ w.seg.stopOwed = true) :
    (w.env m d b).finish = w.finish.env m d b := by
  have hd : ∀ u : Work, sameAccess u.k b u.bus →
      ((u.env m d b).respDue.on Segment.tryBegin) = (u.respDue.on Segment.tryBegin).env m d b := by
    intro u hu; rw [Work.env_respDue hu]; rfl
  have hb : sameAccess w.heldFault.k b w.heldFault.bus := by
    rw [w.heldFault_bus.1, w.heldFault_bus.2]; exact h
  unfold Work.finish
  dsimp only
  rw [Work.env_heldFault hf]
  generalize w.heldFault = v at hb
  have key : (if v.seg.live = true then ((v.env m d b).on fun s => s.lostDue.kick).respDue.on Segment.tryBegin else v.env m d b)
      = (if v.seg.live = true then (v.on fun s => s.lostDue.kick).respDue.on Segment.tryBegin else v).env m d b := by
    rw [Work.env_ite, ← hd (v.on fun s => s.lostDue.kick) hb]; rfl
  refine (congrArg Work.stopCheck key).trans (Work.env_stopCheck ?_)
  split
  · have := Work.respDue_bus (v.on fun s => s.lostDue.kick)
    show sameAccess (Work.respDue _).k b (Work.respDue _).bus
    rw [this.1, this.2]; exact hb
  · exact hb

end

/-! ## A RUN write of 0 and its epilogue -/

theorem Work.sampleAt_bus (w : Work) (mv : Nat) : (w.sampleAt mv).k = w.k ∧ (w.sampleAt mv).bus = w.bus := by
  unfold Work.sampleAt Work.sample; dsimp only; split <;> exact ⟨rfl, rfl⟩

theorem Work.deferredSample_bus (w : Work) (mv : Nat) :
    (w.deferredSample mv).k = w.k ∧ (w.deferredSample mv).bus = w.bus := by
  unfold Work.deferredSample; split
  · exact Work.sampleAt_bus _ _
  · exact ⟨rfl, rfl⟩

theorem Work.sweepStop_bus (w : Work) : w.sweepStop.k = w.k ∧ w.sweepStop.bus = w.bus := by
  unfold Work.sweepStop; split
  · exact ⟨rfl, rfl⟩
  · exact Work.deferredSample_bus _ _

theorem Work.runClear_bus (w : Work) : w.runClear.k = w.k ∧ w.runClear.bus = w.bus := by
  have he : w.enterStopping.k = w.k ∧ w.enterStopping.bus = w.bus := by
    have := Work.sweepStop_bus ((w.discard Op.stopDrops).on Segment.beginStop)
    exact ⟨this.1.trans (w.discard_bus _).1, this.2.trans (w.discard_bus _).2⟩
  unfold Work.runClear Work.cancelStart Work.faultedToStopped Work.enterStopped
  repeat' split
  all_goals first | exact ⟨rfl, rfl⟩ | exact w.discard_bus _ | exact he

theorem Segment.stopEntry_ctl (s : Segment) (e : EntryUnit) : (s.stopEntry e).ctl = s.ctl := by
  unfold Segment.stopEntry
  repeat' split
  all_goals rfl

theorem Segment.stopReq_ctl (s : Segment) (r : ReqUnit) : (s.stopReq r).ctl = s.ctl := by
  unfold Segment.stopReq; dsimp only
  repeat' split
  all_goals first | rfl | exact Segment.tryComplete_ctl _ _

theorem Work.discard_seg (w : Work) (p : Op → Bool) : (w.discard p).seg = w.seg := by
  unfold Work.discard; repeat' split
  all_goals rfl

theorem Segment.faultHeld_ctl {a b : Segment} (h : a.ctl = b.ctl) : a.faultHeld = b.faultHeld := by
  simp only [Segment.ctl, Prod.mk.injEq] at h; exact h.2.2.1

/-- An entry to STOPPING changes no fault held back. -/
theorem Work.enterStopping_held (w : Work) : w.enterStopping.seg.faultHeld = w.seg.faultHeld := by
  have hu : ∀ s : Segment, s.stopUnit.ctl = s.ctl := by
    intro s; unfold Segment.stopUnit; split
    · rfl
    · exact Segment.stopEntry_ctl _ _
    · exact Segment.stopReq_ctl _ _
  have hb : ∀ s : Segment, s.beginStop.faultHeld = s.faultHeld := by
    intro s
    show (Segment.abandonAnswer _).faultHeld = _
    rw [Segment.faultHeld_ctl (Segment.abandonAnswer_ctl _)]; rfl
  unfold Work.enterStopping
  show (Segment.stopUnit _).faultHeld = _
  rw [Segment.faultHeld_ctl (hu _), Segment.faultHeld_ctl (Work.sweepStop_ctl _)]
  show (Segment.beginStop _).faultHeld = _
  rw [hb, Work.discard_seg]

/-- A segment that acts on a RUN write of 0 holds no fault back after it, or is FAULTED with its move to STOPPED owed. -/
theorem Work.runClear_held {w : Work} (hs : w.seg.state = .stopped → w.seg.faultHeld = none)
    (ht : w.seg.takesRunClear = true) : w.runClear.seg.faultHeld = none ∨ w.runClear.seg.stopOwed = true := by
  unfold Segment.takesRunClear at ht
  unfold Work.runClear
  cases h : w.seg.state <;> rw [h] at ht <;> simp at ht <;> dsimp only
  · left; unfold Work.cancelStart; show (w.discard _).seg.faultHeld = none; rw [Work.discard_seg]; exact hs h
  · left; rw [Work.enterStopping_held]; exact ht
  · left; rw [Work.enterStopping_held]; exact ht
  · left; rw [Work.enterStopping_held]; exact ht
  · left; rw [Work.enterStopping_held]; exact ht
  · unfold Work.faultedToStopped
    split
    · right; rfl
    · left; rfl

/-- What a RUN write of 0 makes of the working copy of a segment that takes it, whatever the device is doing. -/
theorem Work.env_runClear_finish {w : Work} {m d : Bool} {b : Option Busy} (h : sameAccess w.k b w.bus)
    (hs : w.seg.state = .stopped → w.seg.faultHeld = none) (ht : w.seg.takesRunClear = true) :
    (w.env m d b).runClear.finish = w.runClear.finish.env m d b := by
  rw [Work.env_runClear h]
  exact Work.env_finish (by rw [w.runClear_bus.1, w.runClear_bus.2]; exact h) (Work.runClear_held hs ht)

/-! ## The marks of a working copy -/

/-- The epilogue sets no mark: it discards nothing, sets no SEG_STOP and draws nothing. -/
theorem Work.finish_marks (w : Work) : w.finish.drop = w.drop ∧ w.finish.segStop = w.segStop ∧ w.finish.drew = w.drew := by
  have hh : w.heldFault.drop = w.drop ∧ w.heldFault.segStop = w.segStop ∧ w.heldFault.drew = w.drew := by
    unfold Work.heldFault; repeat' split
    all_goals exact ⟨rfl, rfl, rfl⟩
  have hr : ∀ u : Work, u.respDue.drop = u.drop ∧ u.respDue.segStop = u.segStop ∧ u.respDue.drew = u.drew := by
    intro u; unfold Work.respDue Work.respUrgent Work.respNormal; repeat' split
    all_goals exact ⟨rfl, rfl, rfl⟩
  have hs : ∀ u : Work, u.stopCheck.drop = u.drop ∧ u.stopCheck.segStop = u.segStop ∧ u.stopCheck.drew = u.drew := by
    intro u; unfold Work.stopCheck; split <;> exact ⟨rfl, rfl, rfl⟩
  unfold Work.finish
  dsimp only
  generalize w.heldFault = v at hh
  rw [(hs _).1, (hs _).2.1, (hs _).2.2]
  split
  · have := hr (v.on fun s => s.lostDue.kick)
    exact ⟨this.1.trans hh.1, this.2.1.trans hh.2.1, this.2.2.trans hh.2.2⟩
  · exact hh

theorem Work.discard_drew (w : Work) (p : Op → Bool) : (w.discard p).drew = w.drew := by
  unfold Work.discard; repeat' split
  all_goals rfl

theorem Segment.beginStop_supply (s : Segment) : s.beginStop.supply = s.supply := by
  show (Segment.abandonAnswer _).supply = _
  unfold Segment.abandonAnswer Segment.answerOver; dsimp only
  repeat' split
  all_goals rfl

theorem Work.enterStopping_drew (w : Work) :
    w.enterStopping.drew = (w.drew || (w.seg.supply.deferred && w.seg.supply.sweep != .idle)) := by
  show (Work.sweepStop _).drew = _
  have hp : ((w.discard Op.stopDrops).on Segment.beginStop).seg.supply = w.seg.supply := by
    show (Segment.beginStop _).supply = _
    rw [Segment.beginStop_supply, Work.discard_seg]
  have hd : ((w.discard Op.stopDrops).on Segment.beginStop).drew = w.drew := Work.discard_drew _ _
  unfold Work.sweepStop
  rw [hp]
  cases h : w.seg.supply.sweep with
  | idle => dsimp only; rw [hd]; simp
  | sweeping n o =>
    dsimp only
    rw [hd, show (Sweep.sweeping n o != Sweep.idle) = true from rfl, Bool.and_true]

/-- A RUN write of 0 draws a free value exactly when the stop takes a deferred sample (R150, log 7). -/
theorem Work.runClear_drew {w : Work} (h : w.drew = false) (ht : w.seg.takesRunClear = true) :
    w.runClear.drew = w.seg.samplesAtStop := by
  have hh : w.seg.state ≠ .stopped → w.seg.state ≠ .faulted → w.seg.faultHeld = none := by
    intro h1 h2
    unfold Segment.takesRunClear at ht
    cases hs : w.seg.state <;> simp_all
  unfold Work.runClear Segment.samplesAtStop
  cases hs : w.seg.state with
  | stopped => exact (Work.discard_drew _ _).trans h
  | settling | acquiring | locked | stalled =>
    dsimp only
    rw [Work.enterStopping_drew, h, hh (by simp [hs]) (by simp [hs])]
    simp
  | stopping => exact h
  | faulted =>
    dsimp only
    unfold Work.faultedToStopped
    split
    · exact h
    · unfold Work.enterStopped; exact h

/-! ## A device-wide stop -/

section
variable (s : State) (k : Seg)

@[simp] theorem State.stopSeg_pending : (s.stopSeg k).pending = s.pending := by unfold State.stopSeg; split <;> simp
@[simp] theorem State.stopSeg_block : (s.stopSeg k).block = s.block := by unfold State.stopSeg; split <;> simp
@[simp] theorem State.stopSeg_mask : (s.stopSeg k).mask = s.mask := by unfold State.stopSeg; split <;> simp
@[simp] theorem State.stopSeg_dev : (s.stopSeg k).dev = s.dev := by unfold State.stopSeg; split <;> simp
@[simp] theorem State.stopSeg_windowLow : (s.stopSeg k).port.windowLow = s.port.windowLow := by
  unfold State.stopSeg; split <;> simp
@[simp] theorem State.stopSeg_windowHigh : (s.stopSeg k).port.windowHigh = s.port.windowHigh := by
  unfold State.stopSeg; split <;> simp

theorem State.stopSeg_bus (j : Seg) : sameAccess j (s.stopSeg k).port.busy s.port.busy := by
  unfold State.stopSeg; split
  · rw [State.onSeg_port]; exact State.busAfter_same _ _ _
  · rfl

theorem State.stopSeg_other {j : Seg} (h : j ≠ k) : (s.stopSeg k).segs.get j = s.segs.get j := by
  unfold State.stopSeg; split
  · rw [State.onSeg_segs, Four.get_put, if_neg h]
  · rfl

theorem State.stopSeg_draws :
    (s.stopSeg k).draws = s.draws + if (s.segs.get k).samplesAtStop then 1 else 0 := by
  unfold State.stopSeg
  split
  · rename_i h
    rw [State.onSeg_draws, (Work.finish_marks _).2.2, Work.runClear_drew rfl h]
    show (if (s.segs.get k).samplesAtStop = true then _ else _) = _
    split <;> rfl
  · rename_i h
    have : (s.segs.get k).samplesAtStop = false := by
      unfold Segment.takesRunClear at h
      unfold Segment.samplesAtStop
      cases hs : (s.segs.get k).state <;> simp_all
    rw [this]; rfl

end

/-- What a RUN write of 0 makes of a segment unit depends on that unit, the write window, the granted access and the free
value drawn alone. -/
theorem State.stopSeg_congr {s t : State} {k : Seg} (hg : s.segs.get k = t.segs.get k) (hd : s.draws = t.draws)
    (hl : s.port.windowLow = t.port.windowLow) (hh : s.port.windowHigh = t.port.windowHigh)
    (hb : sameAccess k s.port.busy t.port.busy)
    (hs : (t.segs.get k).state = .stopped → (t.segs.get k).faultHeld = none) :
    (s.stopSeg k).segs.get k = (t.stopSeg k).segs.get k := by
  unfold State.stopSeg
  rw [hg]
  split
  · rename_i ht
    have hw : s.work k = (t.work k).env (s.work k).mute (s.work k).wide s.port.busy := by
      unfold State.work Work.env; rw [hg, hd, hl, hh]
    rw [State.onSeg_segs, State.onSeg_segs, Four.get_put_same, Four.get_put_same, hw,
      Work.env_runClear_finish (w := t.work k) hb hs ht]
    rfl
  · exact hg

/-- A stop of the segments of a list leaves any other as it is. -/
theorem State.foldl_stopSeg_other {ks : List Seg} {k : Seg} (h : k ∉ ks) (s : State) :
    (ks.foldl State.stopSeg s).segs.get k = s.segs.get k := by
  induction ks generalizing s with
  | nil => rfl
  | cons j ks ih =>
    have hm := List.mem_cons.not.mp h
    rw [List.foldl_cons, ih (fun c => hm (.inr c)), State.stopSeg_other _ _ (fun e => hm (.inl e))]

/-- A stop of the segments of a list does to each what a RUN write of 0 to it does, the free values of those ahead of it
drawn. -/
theorem State.foldl_stopSeg_get {ks : List Seg} (hn : ks.Nodup) {k : Seg} (hk : k ∈ ks) (s : State)
    (hs : (s.segs.get k).state = .stopped → (s.segs.get k).faultHeld = none) :
    (ks.foldl State.stopSeg s).segs.get k
      = (({ s with draws := s.draws
            + ((ks.takeWhile (· ≠ k)).filter fun j => (s.segs.get j).samplesAtStop).length } : State).stopSeg k).segs.get k := by
  induction ks generalizing s with
  | nil => cases hk
  | cons j ks ih =>
    obtain ⟨hj, hn⟩ := List.nodup_cons.mp hn
    rw [List.foldl_cons]
    by_cases e : j = k
    · subst e
      rw [State.foldl_stopSeg_other hj]
      simp
    · have hg : (s.stopSeg j).segs.get k = s.segs.get k := State.stopSeg_other _ _ (fun c => e c.symm)
      rw [ih hn ((List.mem_cons.mp hk).resolve_left (fun c => e c.symm)) _ (by rw [hg]; exact hs)]
      refine State.stopSeg_congr hg ?_ (State.stopSeg_windowLow s j) (State.stopSeg_windowHigh s j) (State.stopSeg_bus s j k) hs
      have hf : (ks.takeWhile (· ≠ k)).filter (fun i => ((s.stopSeg j).segs.get i).samplesAtStop)
          = (ks.takeWhile (· ≠ k)).filter (fun i => (s.segs.get i).samplesAtStop) := by
        refine List.filter_congr fun i hi => ?_
        rw [State.stopSeg_other]
        rintro rfl
        exact hj ((List.takeWhile_prefix _).subset hi)
      show (s.stopSeg j).draws + _ = s.draws + _
      rw [hf, State.stopSeg_draws, List.takeWhile_cons_of_pos (by simpa using e), List.filter_cons, Nat.add_assoc]
      split
      · rw [List.length_cons, Nat.add_comm 1]
      · rw [Nat.zero_add]

/-- R45: a device-wide stop does to each segment what a RUN write of 0 to it does. -/
theorem State.stopAll_get (s : State) (k : Seg)
    (hs : (s.segs.get k).state = .stopped → (s.segs.get k).faultHeld = none) :
    s.stopAll.segs.get k = (({ s with draws := s.drawsBefore k } : State).stopSeg k).segs.get k := by
  have hn : Seg.all.Nodup := by decide
  have hk : k ∈ Seg.all := by cases k <;> decide
  have hd : s.drawsBefore k
      = s.draws + ((Seg.all.takeWhile (· ≠ k)).filter fun j => (s.segs.get j).samplesAtStop).length := by
    unfold State.drawsBefore
    cases k <;> simp [Seg.all, Seg.toNat, List.takeWhile, List.filter]
  rw [hd]
  exact State.foldl_stopSeg_get hn hk s hs

/-- R170, R45: a notice writer fault does to each segment what a RUN write of 0 to it does. -/
theorem State.noticeFault_get (s : State) (addr : Word) (k : Seg)
    (hs : (s.segs.get k).state = .stopped → (s.segs.get k).faultHeld = none) :
    (s.noticeFault addr).segs.get k = (({ s with draws := s.drawsBefore k } : State).stopSeg k).segs.get k := by
  unfold State.noticeFault
  dsimp only
  rw [State.stopAll_get]
  · refine State.stopSeg_congr ?_ ?_ ?_ ?_ ?_ hs
    · split <;> rfl
    · show State.drawsBefore _ k = s.drawsBefore k
      split <;> rfl
    · split <;> rfl
    · split <;> rfl
    · split <;> rfl
  · split <;> exact hs

end Sys2Proof.Machine
end

