-- ==== Sys2Proof/Tests/Slice0.lean ====
section
/-! SUPPORT. Tests: ill-formed commands, the specification's worked values, and for every statement a state and operands
that meet its hypotheses, clause by clause. -/

namespace Sys2Proof.Tests

open Sys2Proof.Machine

/-! ## WellFormed smoke -/

theorem test_wf_response_too_long : (Instr.accessComplete (List.replicate 161 0)).wellFormed = false := by decide +kernel
theorem test_wf_response_longest : (Instr.accessComplete (List.replicate 160 0)).wellFormed = true := by decide +kernel
theorem test_wf_loss_outside_header : (Instr.arbitrationLoss .s0 3 false).wellFormed = false
    ∧ (Instr.arbitrationLoss .s0 0 true).wellFormed = false := by decide
theorem test_wf_collision_in_address : (Instr.collision .s0 1 false).wellFormed = false
    ∧ (Instr.collision .s0 2 true).wellFormed = false := by decide
theorem test_wf_collision_past_end : (Instr.collision .s0 72 false).wellFormed = false
    ∧ (Instr.collision .s0 71 false).wellFormed = true := by decide

/-! ## Values the specification works out -/

/-- The check value of the CRC of R7 over the characters 1 to 9. -/
theorem test_crc_check_value : crc16 [0x31, 0x32, 0x33, 0x34, 0x35, 0x36, 0x37, 0x38, 0x39] = 0x29B1 := by decide +kernel

/-- R5's example: POLL to 9 from 20 with ack 1 and selector 03H. -/
theorem test_poll_header : (buildFrame 9 20 (ctrlByte .poll false true) [0x03]).take 7
    = [0xB4, 0x09, 0x14, 0x10, 0x01, 0xD1, 0x03] := by decide +kernel

/-- 11's example: LOCKED, no fault, LOW, forced conserve, inbound next 4, capture next 6. -/
theorem test_status_word : ({ Segment.reset with
    state := .locked, resp := { Responder.reset with next := 4 }, cap := ⟨6, false⟩,
    supply := { Supply.reset with level := .low, forced := true } } : Segment).statusWord = 0x80060443 := by decide +kernel

/-- 05's example: LEN 22 under E 40 pads blocks 1 and 2. -/
theorem test_pad_marks : padMarks 22 40 = 0x06 := by decide +kernel

/-- 05's example, DAMAGED with a mark on frame position 24: block 1 alone; with no mark: blocks 0 and 1. -/
theorem test_damage_marks :
    damageMarks ⟨[0xB4, 20, 17, 9, 22, 0], false, [24]⟩ 40 = 0x02
      ∧ damageMarks ⟨[0xB4, 20, 17, 9, 22, 0], false, []⟩ 40 = 0x03 := by decide +kernel

/-- 03's example: cycles 1, 3, 6 and 12 of station index 5 with threshold 3. -/
theorem test_health : healthOf 3 0 true = .active ∧ healthOf 3 1 true = .suspect ∧ healthOf 3 3 true = .lost
    ∧ healthOf 3 0 false = .unknown := by decide

/-- R143's step table: 17.0 V at step 0 to 24.0 V at step 7. -/
theorem test_thresholds : Config.threshold 0 = 17000 ∧ Config.threshold 4 = 21000 ∧ Config.threshold 7 = 24000 := by
  decide

/-! ## Small states -/

def tBlk : SegBlock :=
  { SegBlock.blank with
    acq := 3, quiet := 16, w := 20, r := 10, stall := 10, arbLimit := 2, revisit := 4, period := 500,
    acceptBroadcast := true, logPolls := true, lowStep := 4, weakStep := 2, own0 := 20, stationCount := 8,
    pollLength := 2, capSlots := 4, inbSlots := 4, stationTable := 0x1000, pollList := 0x2000, chainHead := 0x3000,
    capBase := 0x4000, inbBase := 0x5000, respTable := 0x6000, progress := 0x7000 }

def tSeg (st : SegState) : Segment :=
  { Segment.reset with state := st, run := some tBlk, blockPtr := 0x100, line := { Line.reset with idle := true } }

/-- A READY device with segment unit 0 at g, and the access b on the bus. -/
def tSt (g : Segment) (b : Option Busy := none) : State :=
  { State.reset with
    dev := { Device.reset with state := .ready, enable := true },
    nw := { NoticeWriter.reset with ringBase := 0x7800, slots := 4, record := 0x7900 },
    port := { Port.reset with windowLow := 0x1000, windowHigh := 0x8000, busy := b },
    segs := { (Four.const .reset : Four Segment) with v0 := g } }

def tDev (st : DevState) : State := { tSt (tSeg .stopped) with dev := { Device.reset with state := st } }

def tEntry : EntryUnit :=
  { EntryUnit.begin with
    step := .polling, recAddr := 0x1000,
    cfg := { StationCfg.empty with addr := 9, pollEnable := true, retry := 1, threshold := 3 } }

def tReq : ReqUnit :=
  { ReqUnit.begin 0x3000 false with
    step := .serve, attempt := 1, body := { ReqRecord.empty with kind := some .set, target := 9, limit := 2 } }

def tTx (kind : FrameKind) (answer : Bool) : Tx := ⟨[0xB4, 9, 20, kind.code, 0, 0], kind, answer⟩

def tResp : RespRecord := { addr := 0x6000, oneShot := true, seq := true, count := 0, data := [1] }

def tPend (kind : FrameKind) (ans : Ans) : Pend :=
  { k := 0, own := 20, src := 9, kind := kind, ans := ans, turn := false, begun := false, read := .none, buf := none }

/-- The frame of characters cs, received in full from another device. -/
def tAsm (cs : List Byte) : Assembly := cs.foldl (fun a c => a.push c true) { Assembly.empty with foreign := true }

def tTxSeg (kind : FrameKind) (answer : Bool) (x : Xact) (u : WorkUnit) : Segment :=
  { tSeg .locked with line := { Line.reset with tx := some (tTx kind answer) }, xact := x, unit := u }

def tAsmSeg (st : SegState) (cs : List Byte) : Segment :=
  { tSeg st with line := { Line.reset with asm := some (tAsm cs) } }

def tGood : List Byte := buildFrame 20 9 0x00 []

/-- The segment drives an answer for the frame of hand h. -/
def tHandSeg (kind : FrameKind) (ans : Ans) (h : Hand) : Segment :=
  { tTxSeg (match ans with | .reply _ => .reply | .ack => .ack | _ => .nak) true .idle .none with
    resp := { Responder.reset with pend := some { tPend kind ans with buf := some h.buf }, hands := [h] } }

def tTwo : Line := { Line.reset with buf0 := some ⟨[], true, []⟩, buf1 := some ⟨[], true, []⟩ }

def tRespSeg (p : Pend) (hs : List Hand) : Segment :=
  { tSeg .locked with line := tTwo, resp := { Responder.reset with pend := some p, hands := hs } }

def tSegAccess (k : Seg) (src : Source) (op : Op) : Option Busy := some ⟨.segment k src, ⟨op, 0x1000, 0, []⟩, false⟩

def tNotice : Notice := ⟨.segmentStopped, 0, 0xFF, 0, 0, 0, 0⟩

theorem test_segment_of_small_state (g : Segment) (b : Option Busy) : (tSt g b).segs.get .s0 = g := rfl

/-! ## Two steps -/

/-- ENABLE, the control block read and a start, on the queue. -/
theorem test_enable_then_grant_issues_control_block :
    exec (.memoryGrant []) (State.beginLoad { State.reset with block := 0x100 })
      = .next { State.beginLoad { State.reset with block := 0x100 } with
          port := { Port.reset with busy := some ⟨.device, ⟨.controlBlock, 0x100, 64, []⟩, false⟩ } } := by rfl

/-- 09's worked sequence: the notice writer's marker read returned at 2 µs while segment 0 and segment 2 waited, and its
body write arrives after that grant: segment 0 is granted; with the body write there in time, the notice writer. -/
theorem test_late_request_waits :
    let body := (⟨.noticeBody, 0x7802, 0, [(0x7802, 0)]⟩ : Access)
    let s := { tSt { tSeg .locked with
        unit := .entry tEntry, waits := { Waits.empty with unit := some ⟨.statusWrite, 0x1010, 0, []⟩ } } with
      port := { Port.reset with notice := some body, waited := [.segment .s0 .unit, .segment .s2 .unit] } }
    s.granted [.notice] = some (.segment .s0 .unit) ∧ s.granted [] = some .notice
      ∧ ({ s with port := { s.port with waited := [.notice] } } : State).granted [.notice] = some .notice := by decide

/-- 09's worked sequence at time 0: the port is IDLE with none waiting before, so all three requests are in the grant, and
the notice writer's is taken whoever is said to come late. -/
theorem test_requests_together_at_idle_port :
    let marker := (⟨.noticeMarkerRead, 0x7800, 2, []⟩ : Access)
    let s := { tSt { tSeg .locked with
        unit := .entry tEntry, waits := { Waits.empty with unit := some ⟨.statusWrite, 0x1010, 0, []⟩ } } with
      port := { Port.reset with notice := some marker } }
    s.granted [.notice] = some .notice ∧ s.granted [.segment .s0 .unit, .notice] = some .notice := by decide

/-- A stale note is gone with the withdrawal of its request: a fault withdraws a unit's read that had been noted. -/
theorem test_withdrawn_request_is_not_noted :
    let s := { tSt { tSeg .acquiring with
        unit := .request tReq, waits := { Waits.empty with unit := some ⟨.takeRead, 0x3000, 160, []⟩ } } with
      port := { Port.reset with waited := [.segment .s0 .unit, .notice] } }
    (s.onSeg .s0 fun w => w.takeFault .memoryFault 0).port.waited = [.notice] := by decide +kernel

/-- 08's supply dip: OK to LOW to WEAK. -/
theorem test_supply_dip :
    (((tSt (tSeg .locked)).work .s0).sample ⟨false, true⟩).seg.supply.level = .low
      ∧ ((((tSt (tSeg .locked)).work .s0).sample ⟨false, true⟩).sample ⟨false, false⟩).seg.supply.auto = true := by
  decide +kernel

/-! ## Witnesses: the block and its registers -/

theorem witness_StepRunsFrontCommand :
    (∃ s : State, s.pending = .pinReset :: []) ∧ ∃ s : State, s.pending = [] :=
  ⟨⟨{ State.reset with pending := [.pinReset] }, rfl⟩, ⟨State.reset, rfl⟩⟩

theorem witness_SegmentEventsTouchOneSegment :
    ∃ (c : Instr) (k : Seg) (s t : State), segmentOf c = some k ∧ exec c s = .next t :=
  ⟨.holdGap .s3, .s3, State.reset, _, rfl, rfl⟩

/-- A queue of 8 notices, the bound, and a step. -/
theorem witness_NoticeQueueStaysBounded : ∃ s t : State, QueueBounded s ∧ s.nw.queue.length = 8 ∧ step s = .next t :=
  ⟨{ tSt (tSeg .locked) with nw := { NoticeWriter.reset with queue := List.replicate 8 tNotice } }, _,
    by unfold QueueBounded; decide, by decide, rfl⟩

theorem invariants_at_reset : WritesInWindow State.reset ∧ DeviceConsistent State.reset ∧ StartsStopped State.reset
    ∧ State.reset.settled := by
  refine ⟨⟨fun b h => ?_, fun a h => ?_⟩, ?_, fun k => ?_, rfl⟩
  · cases h
  · cases h
  · unfold DeviceConsistent; decide
  · cases k <;> decide

/-- A granted write up to the last byte of the window. -/
theorem witness_WritesStayInWindow : ∃ s t : State, WritesInWindow s ∧ s.port.busy.isSome = true ∧ step s = .next t := by
  refine ⟨tSt (tSeg .locked) (some ⟨.segment .s0 .unit, .write .takenWrite 0x7FFF [2], false⟩), _, ⟨?_, ?_⟩, rfl, rfl⟩
  · rintro b h - - p hp; cases h
    simp only [Access.write, placeAt, List.mem_singleton] at hp; subst hp; decide
  · rintro a h; cases h

theorem witness_DeviceStaysConsistent : ∃ s t : State, DeviceConsistent s ∧ step s = .next t :=
  ⟨State.reset, _, invariants_at_reset.2.1, rfl⟩

theorem witness_StartsStayInStopped : ∃ s t : State, StartsStopped s ∧ step s = .next t :=
  ⟨State.reset, _, invariants_at_reset.2.2.1, rfl⟩

theorem witness_NothingStaysDue : ∃ s t : State, s.settled ∧ step s = .next t := ⟨State.reset, _, rfl, rfl⟩

theorem witness_EnableWritesFollowDeviceState :
    (tDev .disabled).dev.state = .disabled
      ∧ ((tDev .loading).settled ∧ (tDev .loading).dev.state ≠ .disabled)
      ∧ ((tDev .disabled).settled ∧ (tDev .ready).settled)
      ∧ ((tDev .faulted).dev.state = .faulted ∧ (tDev .faulted).allAtRest = true)
      ∧ (∃ s : State, s.settled ∧ s.dev.state = .ready ∧ s.dev.disabling = true)
      ∧ ∃ s : State, s.dev.state = .faulted ∧ s.allAtRest = false :=
  ⟨rfl, ⟨rfl, by decide⟩, ⟨rfl, rfl⟩, ⟨rfl, by decide⟩,
    ⟨{ tSt (tSeg .locked) with dev := { Device.reset with state := .ready, disabling := true } }, rfl, rfl, rfl⟩,
    ⟨{ tSt (tSeg .locked) with dev := { Device.reset with state := .faulted } }, rfl, by decide⟩⟩

/-- A state in which each segment holds no fault back, save one that drives a frame. -/
theorem tSt_startsStopped (g : Segment) (b : Option Busy) (hs : g.starting = true → g.state = .stopped)
    (hf : g.state = .stopped → g.faultHeld = none) : StartsStopped (tSt g b) := by
  intro k; cases k
  · exact ⟨hs, hf⟩
  all_goals exact ⟨nofun, fun _ => rfl⟩

/-- A running segment, a STOPPED one, a FAULTED one; and, for what a RUN write of 0 makes of each, a FAULTED segment whose
record write is on the bus, one that holds a fault back, and a segment that samples at the stop, with another above it. -/
theorem witness_EnableClearStopsSegments :
    ((tSt (tSeg .locked)).dev.state = .ready ∧ (tSt (tSeg .locked)).dev.disabling = false
      ∧ (tSeg .locked).faultHeld = none ∧ (tSeg .locked).state.running ∧ (tSeg .stopped).state = .stopped
      ∧ ((tSeg .faulted).state = .faulted ∧ (tSeg .faulted).waits.control = none ∧ (tSeg .faulted).faultOwed = none))
      ∧ (StartsStopped (tSt { tSeg .faulted with faultOwed := some 0x1000 } (tSegAccess .s0 .control .progress))
        ∧ StartsStopped (tSt { tTxSeg .poll false .idle .none with faultHeld := some 0x1000 })
        ∧ (tSegAccess .s0 .control .progress).map Busy.req = some (.segment .s0 .control))
      ∧ (let g := { tSeg .locked with supply := { Supply.reset with deferred := true, sweep := .sweeping 3 none } };
        g.samplesAtStop = true ∧ (tSt g).drawsBefore .s0 = 0 ∧ (tSt g).drawsBefore .s1 = 1) :=
  ⟨by unfold SegState.running; decide,
    ⟨tSt_startsStopped _ _ nofun fun _ => rfl, tSt_startsStopped _ _ nofun nofun, rfl⟩, by decide⟩

/-- R36, R159: an ENABLE clear discards a chain read that is on the bus. -/
theorem test_enable_clear_discards_chain_read :
    ((tSt (tSeg .locked) (tSegAccess .s0 .chain .chainLink)).enableClear.port.busy.map Busy.discard) = some true := by
  decide +kernel

theorem witness_RunSetStartsSegment :
    ((tSt (tSeg .stopped)).settled ∧ (tSt (tSeg .stopped)).runTaken .s0 ∧ (tSeg .stopped).state = .stopped
        ∧ (tSeg .stopped).starting = false ∧ (tSeg .stopped).blockPtr ≠ 0)
      ∧ ((tSt Segment.reset).runTaken .s0 ∧ Segment.reset.state = .stopped ∧ Segment.reset.blockPtr = 0) := by
  refine ⟨⟨rfl, ?_⟩, ?_⟩ <;> (unfold State.runTaken; decide)

theorem tSeg_calm (st : SegState) (h : st ≠ .stopping) (h' : st ≠ .locked) : (tSeg st).calm :=
  ⟨rfl, h, nofun, nofun, fun e => absurd e h', rfl, rfl, rfl⟩

/-- A LOCKED segment with a ready unit, a start in progress, a FAULTED device, one that is disabling, a STOPPED segment, a
STOPPING one and one that holds a fault back. -/
theorem witness_RunWritesIgnored :
    (let g := { tSeg .locked with unit := .entry tEntry, xact := .ready };
      (tSt g).settled ∧ g.state ≠ .stopped ∧ (tSt g).dev.state = .ready)
      ∧ ((tSt { tSeg .stopped with starting := true }).settled ∧ ({ tSeg .stopped with starting := true } : Segment).starting = true)
      ∧ ((tDev .faulted).settled ∧ (tDev .faulted).dev.state ≠ .ready)
      ∧ (∃ s : State, s.settled ∧ s.dev.disabling = true)
      ∧ ((tSt (tSeg .stopped)).settled ∧ (tSeg .stopped).state = .stopped ∧ (tSeg .stopped).starting = false)
      ∧ ((tSt (tSeg .stopping)).settled ∧ (tSeg .stopping).state = .stopping)
      ∧ (let g := { tTxSeg .poll false .idle .none with faultHeld := some 0x1000 };
        (tSt g).settled ∧ g.faultHeld ≠ none ∧ g.state.running) :=
  ⟨⟨rfl, nofun, rfl⟩, ⟨rfl, rfl⟩, ⟨rfl, nofun⟩,
    ⟨{ tSt (tSeg .settling) with dev := { Device.reset with state := .ready, disabling := true } }, rfl, rfl⟩,
    ⟨rfl, rfl, rfl⟩, ⟨rfl, rfl⟩, rfl, nofun, .inr (.inr (.inl rfl))⟩

/-- The four running states, a deferred sample, an owed answer not begun and begun, a poll entry and a request at each point
where the stop can find them. -/
theorem witness_RunClearEntersStopping :
    (∀ st, st = .settling ∨ st = .acquiring ∨ st = .locked ∨ st = .stalled →
        (tSt (tSeg st)).runTaken .s0 ∧ (tSeg st).state.running ∧ (tSeg st).supply.deferred = false)
      ∧ (let g := { tSeg .locked with
            supply := { Supply.reset with sweep := .sweeping 3 none, timer := .running 500, deferred := true } };
        (tSt g).runTaken .s0 ∧ g.state.running ∧ g.supply.deferred = true ∧ (tSt g).nw.lost = false
          ∧ (tSt g).nw.queue.length < 8)
      ∧ (let g := { tTxSeg .nak true .waiting (.entry tEntry) with
            resp := { Responder.reset with pend := some { tPend .poll .nak with begun := true } } };
        (tSt g).runTaken .s0 ∧ g.resp.pend = some { tPend .poll .nak with begun := true } ∧ tEntry.step = .polling
          ∧ g.unit = .entry tEntry ∧ g.xact = .waiting)
      ∧ (∀ x, x = .idle ∨ x = .ready ∨ x = .waiting ∨ x = .started ∨ x = .sending ∨ x = .ending .lineStall
          ∨ x = .lostReport ∨ x = .lostAnswer →
        (let g := { tSeg .locked with
            unit := .entry tEntry, xact := x, resp := { Responder.reset with pend := some (tPend .poll .nak) } };
          (tSt g).runTaken .s0 ∧ g.state.running ∧ g.resp.pend = some (tPend .poll .nak)
            ∧ (tPend .poll .nak).begun = false)
          ∧ (let g := { tSeg .locked with unit := .request tReq, xact := x };
            (tSt g).runTaken .s0 ∧ tReq.step = .serve ∧ tReq.outcome = none ∧ tReq.buf = none ∧ g.xact = x))
      ∧ (let e := { tEntry with step := .entryRead };
        let g := { tSeg .locked with unit := .entry e, waits := { Waits.empty with unit := some (.read .entryRead 0x2000 2) } };
        (tSt g).runTaken .s0 ∧ e.step ≠ .polling ∧ g.xact ≠ .lostAnswer
          ∧ g.waits.unit = some (.read .entryRead 0x2000 2))
      ∧ (let r := ReqUnit.begin 0x3000 false;
        let g := { tSeg .locked with unit := .request r, waits := { Waits.empty with unit := some (.read .takeRead 0x3000 160) } };
        (tSt g).runTaken .s0 ∧ r.step = .takeRead ∧ g.waits.unit = some (.read .takeRead 0x3000 160))
      ∧ (let r := { tReq with outcome := some .ok, succ := .link };
        let g := { tSeg .locked with unit := .request r };
        (tSt g).runTaken .s0 ∧ r.step = .serve ∧ r.outcome = some .ok ∧ r.succ.reading = true ∧ g.xact = .idle)
      ∧ (let r := { tReq with step := .taken };
        let g := { tSeg .locked with unit := .request r, waits := { Waits.empty with unit := some (.write .takenWrite 0x300E [1]) } };
        (tSt g).runTaken .s0 ∧ r.step = .taken ∧ g.waits.unit = some (.write .takenWrite 0x300E [1])) := by
  unfold State.runTaken SegState.running
  refine ⟨?_, by decide, by decide, ?_, by decide, by decide, by decide, by decide⟩
  · rintro st (rfl | rfl | rfl | rfl) <;> decide
  · rintro x (rfl | rfl | rfl | rfl | rfl | rfl | rfl | rfl) <;> decide

/-- A start whose read waits, one whose read is on the bus, and a fault whose record write has ended, waits, and is on the
bus. -/
theorem witness_RunClearOfStartOrFault :
    (let s := tSt { tSeg .stopped with starting := true };
      s.settled ∧ s.runTaken .s0 ∧ (s.segs.get .s0).starting = true ∧ s.port.busy = none)
      ∧ (let s := tSt { tSeg .stopped with starting := true } (tSegAccess .s0 .control .segBlock);
        s.settled ∧ s.runTaken .s0 ∧ s.port.busy.any (fun b => b.acc.op == .segBlock) = true)
      ∧ (let s := tSt (tSeg .faulted);
        s.settled ∧ s.runTaken .s0 ∧ (s.segs.get .s0).waits.control = none ∧ (s.segs.get .s0).faultOwed = none)
      ∧ (let g := (tSeg .faulted).reqProgress [];
        (tSt g).runTaken .s0 ∧ g.state = .faulted ∧ g.waits.control ≠ none)
      ∧ (let g := { tSeg .faulted with faultOwed := some 0x1000, prFault := true };
        (tSt g).runTaken .s0 ∧ g.state = .faulted ∧ g.faultOwed ≠ none) := by
  refine ⟨⟨rfl, ?_⟩, ⟨rfl, ?_⟩, ⟨rfl, ?_⟩, ?_, ?_⟩ <;> (unfold State.runTaken; decide)

/-- The request engine of a segment whose chain is examined, with anchor 3000H. -/
def tScanReq : ReqEngine := { ReqEngine.reset with examined := true, anchor := some 0x3000 }

/-- Segments that ignore a SCAN: stopped, faulted, faulted with a frame driven, no chain, its head not examined, the stop
ended, the head being examined, its successor found, a record current, no anchor. -/
def tScanIgnored : List Segment :=
  [tSeg .stopped, tSeg .faulted, { tTxSeg .poll false .idle .none with faultHeld := some 0, req := tScanReq },
    { tSeg .stalled with run := some { tBlk with chainHead := 0 }, req := tScanReq },
    { tSeg .stalled with req := { tScanReq with examined := false } },
    { tSeg .stopping with stopWrite := true, req := tScanReq },
    { tSeg .locked with req := { tScanReq with chain := .exam, anchor := none } },
    { tSeg .locked with req := { tScanReq with ready := true } },
    { tSeg .locked with req := { tScanReq with current := some 0x3000 } },
    { tSeg .locked with req := { tScanReq with anchor := none } }]

/-- Segments with a chain read under way. -/
def tScanNoted : List Segment :=
  [{ tSeg .stalled with req := { tScanReq with chain := .link } },
    { tSeg .stalled with req := { tScanReq with chain := .state 0x3100, ready := true } }]

/-- One bit set; every way a SCAN is ignored; and a segment that takes it with a chain read under way and with none, while
calm, in STOPPING, and LOCKED with no unit in each cycle state. -/
theorem witness_ScanBeginsChainReads :
    ((∀ j : Seg, (1 : Word).getLsbD j.toNat = true ↔ j = .s0) ∧ (1 : Word).getLsbD (Seg.toNat .s3) = false)
      ∧ ((tSeg .stopped).calm ∧ (tSeg .faulted).calm ∧ ∀ g ∈ tScanIgnored, g.ignoresScan)
      ∧ (∀ g ∈ tScanNoted, g.calm ∧ ¬g.ignoresScan ∧ g.req.chain ≠ .idle)
      ∧ (let g := { tSeg .stalled with req := tScanReq };
        g.calm ∧ ¬g.ignoresScan ∧ g.req.chain = .idle ∧ g.req.anchor = some 0x3000)
      ∧ (let g := { tSeg .stopping with req := tScanReq, waits := { Waits.empty with chain := some (.read .chainLink 0x3000 4) } };
        g.state = .stopping ∧ g.faultHeld = none ∧ g.xact = .idle ∧ g.resp.quiet ∧ g.waits.chain ≠ none ∧ ¬g.ignoresScan)
      ∧ (let g := { tSeg .locked with req := tScanReq };
        g.faultHeld = none ∧ g.unit = .none ∧ g.xact = .idle ∧ g.resp.quiet ∧ g.req.ready = false
          ∧ g.cycle.held = false ∧ ¬g.ignoresScan)
      ∧ (let c := { Cycle.reset with point := .oppDue, pause := .running };
        c.held = false ∧ c.state = .running ∧ c.point = .oppDue ∧ c.pause ≠ .none)
      ∧ ({ Cycle.reset with point := .oppOpen } : Cycle).point = .oppOpen := by
  unfold Segment.ignoresScan Segment.calm Responder.quiet
  refine ⟨⟨fun j => by cases j <;> decide, by decide⟩, ⟨by decide +kernel, by decide +kernel, by decide +kernel⟩,
    by decide +kernel, ?_, ?_, ?_, by decide +kernel, rfl⟩ <;> decide +kernel

/-- BLOCK taken and ignored; a write to CONTROL that is a reset, an enable and a disable. -/
theorem witness_RegisterWindowReadsAndWrites :
    State.reset.dev.state = .disabled ∧ (tDev .loading).dev.state ≠ .disabled
      ∧ (2 : Word).getLsbD 1 = true ∧ (0x11 : Word).getLsbD 0 = true ∧ (0x10 : Word).getLsbD 0 = false
      ∧ Register.block ≠ .attention := by decide

/-! ## Witnesses: notices and device control -/

def tNoticeSt (op : Op) : State :=
  { tSt (tSeg .stopped) (some ⟨.notice, ⟨op, 0x7800, 0, []⟩, false⟩) with
    nw := { NoticeWriter.reset with queue := [tNotice], ringBase := 0x7800, slots := 4, record := 0x7900 } }

theorem witness_NoticesAreQueuedAndWritten :
    ((∃ s : State, s.nw.lost = false ∧ s.nw.queue.length = 7) ∧ (∃ s : State, s.nw.lost = false ∧ 8 ≤ s.nw.queue.length)
        ∧ ∃ s : State, s.nw.lost = true)
      ∧ (let s := tNoticeSt .noticeMarkerRead;
        s.port.busy = some ⟨.notice, ⟨.noticeMarkerRead, 0x7800, 0, []⟩, false⟩ ∧ s.nw.queue = [tNotice]
          ∧ s.dev.state = .ready ∧ s.dev.disabling = false ∧ s.port.notice = none ∧ s.nw.recWaiting = false)
      ∧ (let s := tNoticeSt .noticeBody;
        s.port.busy = some ⟨.notice, ⟨.noticeBody, 0x7800, 0, []⟩, false⟩ ∧ s.nw.queue = [tNotice] ∧ s.dev.state = .ready
          ∧ s.port.notice = none ∧ s.nw.recWaiting = false)
      ∧ (let s := tNoticeSt .noticeMarkerWrite;
        s.port.busy = some ⟨.notice, ⟨.noticeMarkerWrite, 0x7800, 0, []⟩, false⟩ ∧ s.nw.queue = [tNotice]
          ∧ s.dev.state = .ready)
      ∧ ¬((1 : Byte) = 0 ∧ (0 : Byte) = 0)
      ∧ (let s := { tSt (tSeg .stopped) with nw := { NoticeWriter.reset with lost := true, recWaiting := true } };
        s.dev.state = .ready ∧ s.nw.lost = true ∧ s.port.notice = none ∧ s.noticeOnBus = false ∧ s.nw.recWaiting = true)
      ∧ (let a : Access := ⟨.devProgress, 0x7900, 0, []⟩;
        let s := { tSt (tSeg .stopped) with port := { Port.reset with notice := some a } };
        s.dev.state = .ready ∧ s.port.notice = some a ∧ a.op = .devProgress ∧ (tDev .faulted).dev.state ≠ .ready)
      ∧ (let s := { tSt (tSeg .locked) with nw := { NoticeWriter.reset with queue := [tNotice, tNotice] } };
        s.dev.state = .ready ∧ s.port.notice = none ∧ s.noticeOnBus = false ∧ s.nw.recWaiting = false
          ∧ s.nw.queue = [tNotice, tNotice] ∧ s.nw.step = .marker ∧ s.dev.disabling = false)
      ∧ (let s := { tSt (tSeg .stopped) with dev := { Device.reset with state := .ready, disabling := true } };
        s.dev.state = .ready ∧ s.port.notice = none ∧ s.noticeOnBus = false ∧ s.dev.disabling = true ∧ s.nw.queue = []
          ∧ ∀ k, (s.segs.get k).state = .stopped ∧ (s.segs.get k).starting = false)
      ∧ ((tSt { tSeg .stopped with starting := true }).segs.get .s0).starting = true
      ∧ (let s := { tNoticeSt .noticeMarkerWrite with
            dev := { Device.reset with state := .ready, disabling := true } };
        s.port.notice = none ∧ s.dev.disabling = true ∧ s.nw.queue = [tNotice]
          ∧ ∀ k, (s.segs.get k).state = .stopped ∧ (s.segs.get k).starting = false) :=
  ⟨⟨⟨{ State.reset with nw := { NoticeWriter.reset with queue := List.replicate 7 tNotice } }, by decide⟩,
      ⟨{ State.reset with nw := { NoticeWriter.reset with queue := List.replicate 8 tNotice } }, by decide⟩,
      ⟨{ State.reset with nw := { NoticeWriter.reset with lost := true } }, rfl⟩⟩, by decide, by decide, by decide, by decide,
    by decide, by decide, by decide, ⟨rfl, rfl, rfl, rfl, rfl, fun k => by cases k <;> exact ⟨rfl, rfl⟩⟩, rfl,
    rfl, rfl, rfl, fun k => by cases k <;> exact ⟨rfl, rfl⟩⟩

/-- A control block that passes: window 1000H to 8000H, 4 slots. -/
def tControl : List Byte :=
  [1, 0, 0, 0, 0, 0x10, 0, 0, 0, 0x80, 0, 0, 0, 0x78, 0, 0, 4, 0, 0, 0, 0, 0, 0, 0, 0, 0x79, 0, 0, 0, 0, 0, 0]
    ++ List.replicate 32 0

theorem witness_LoadEndsReadyOrFaulted :
    (let s := { tDev .loading with port := { Port.reset with busy := some ⟨.device, ⟨.controlBlock, 0, 64, []⟩, false⟩ } };
      s.port.busy = some ⟨.device, ⟨.controlBlock, 0, 64, []⟩, false⟩ ∧ s.dev.state = .loading ∧ s.port.notice = none
        ∧ s.nw.queue = [] ∧ controlCheck s.block tControl = none)
      ∧ controlCheck 0 (List.replicate 64 0) = some .badFormat ∧ rdWord (List.replicate 64 0) 0 ≠ 1
      ∧ ControlBlockFits 0 tControl
      ∧ (rdWord tControl 0 = 1 ∧ (8 : Word).toNat % 16 ≠ 0 ∧ controlCheck 8 tControl = some .badControlBlock) := by
  simp only [ControlBlockFits, Seg.forall_iff]
  decide +kernel

theorem witness_NoticeWriterResponsesMoveDevice :
    (let s := tNoticeSt .devProgress;
      s.port.busy = some ⟨.notice, ⟨.devProgress, 0x7800, 0, []⟩, false⟩ ∧ s.dev.state = .ready ∧ s.nw.finalRec = false
        ∧ s.nw.queue = [tNotice] ∧ s.port.notice = none ∧ s.nw.recWaiting = false ∧ s.nw.queue ≠ [])
      ∧ (∃ s : State, s.port.busy = some ⟨.notice, ⟨.devProgress, 0x7900, 0, []⟩, false⟩ ∧ s.dev.state = .ready
        ∧ s.nw.finalRec = true ∧ s.nw.loadedOwed = false)
      ∧ ((tSeg .acquiring).faultHeld = none ∧ (tSeg .acquiring).state.running
        ∧ ∀ k, ((tNoticeSt .noticeBody).segs.get k).supply.deferred = false)
      ∧ (StartsStopped (tNoticeSt .noticeBody) ∧ (tNoticeSt .noticeBody).dev.state = .ready
        ∧ (tNoticeSt .noticeBody).port.busy = some ⟨.notice, ⟨.noticeBody, 0x7800, 0, []⟩, false⟩) := by
  refine ⟨by decide, ⟨{ tSt (tSeg .stopped) (some ⟨.notice, ⟨.devProgress, 0x7900, 0, []⟩, false⟩) with
    nw := { NoticeWriter.reset with finalRec := true } }, by decide⟩, ⟨rfl, .inr (.inl rfl), fun k => by cases k <;> rfl⟩,
    fun k => by cases k <;> exact ⟨nofun, fun _ => rfl⟩, rfl, rfl⟩

/-! ## Witnesses: the port -/

def tAcc (op : Op) (bs : List (Word × Byte)) : Access := ⟨op, 0x1000, 0, bs⟩

/-- The notice writer waits with access a, all segments STOPPED. -/
def tNoticeWait (a : Access) : State := { tSt (tSeg .stopped) with
  port := { Port.reset with windowLow := 0x1000, windowHigh := 0x8000, notice := some a } }

def tWait (w : Waits) : Segment := { tSeg .locked with unit := .entry tEntry, waits := w }

theorem witness_GrantFollowsOrder :
    (let s := tSt (tWait { Waits.empty with urgent := some (tAcc .respRecord []) });
      s.port.busy = none ∧ (s.segs.get .s0).waits.urgent.isSome = true)
      ∧ (let s := { tDev .loading with port := { Port.reset with device := some (tAcc .controlBlock []) } };
        (∀ k, (s.segs.get k).waits.urgent = none) ∧ s.port.device.isSome = true)
      ∧ (let s := { tDev .ready with port := { Port.reset with notice := some (tAcc .devProgress []) } };
        (∀ k, (s.segs.get k).waits.urgent = none) ∧ s.port.device = none ∧ s.port.notice.isSome = true)
      ∧ (let s := tSt (tWait { Waits.empty with unit := some (tAcc .entryRead []) });
        (∀ k, (s.segs.get k).waits.urgent = none) ∧ s.port.device = none ∧ s.port.notice = none
          ∧ (s.segs.get .s0).waits.normalSource = some .unit ∧ (s.port.throttle.get .s0).timer = .stopped)
      ∧ (let s := { tSt (tWait { Waits.empty with unit := some (tAcc .entryRead []) }) with
            port := { Port.reset with throttle := .const ⟨5, .running 5⟩ } };
        (∀ k, (s.segs.get k).waits.urgent = none) ∧ (s.segs.get .s0).waits.normalSource = some .unit
          ∧ ∀ k, (s.port.throttle.get k).timer ≠ .stopped)
      ∧ ∀ k, (State.reset.segs.get k).waits.normalSource = none := by
  refine ⟨by decide, ⟨fun k => by cases k <;> rfl, rfl⟩, ⟨fun k => by cases k <;> rfl, rfl, rfl⟩,
    ⟨fun k => by cases k <;> rfl, rfl, rfl, rfl, rfl⟩, ⟨fun k => by cases k <;> rfl, rfl, fun k => by cases k <;> decide⟩,
    fun k => by cases k <;> rfl⟩

/-- A read, a write at the first byte of the window and at the last, device control, the notice writer's read and write, a
device progress record at the end of the drain and before it, an empty port, a BUSY port. -/
theorem witness_GrantIssuesAccess :
    (let s := tSt (tWait { Waits.empty with unit := some (tAcc .entryRead []) });
      s.settled ∧ s.port.busy = none ∧ s.granted [] = some (.segment .s0 .unit) ∧ Op.entryRead.isWrite = false)
      ∧ (let s := tSt (tWait { Waits.empty with unit := some (tAcc .takenWrite [(0x1000, 0), (0x7FFF, 0)]) });
        s.settled ∧ s.granted [] = some (.segment .s0 .unit)
          ∧ ∀ p ∈ [((0x1000 : Word), (0 : Byte)), (0x7FFF, 0)],
              s.port.windowLow.toNat ≤ p.1.toNat ∧ p.1.toNat < s.port.windowHigh.toNat)
      ∧ (let s := { tDev .loading with port := { Port.reset with device := some (tAcc .controlBlock []) } };
        s.port.busy = none ∧ s.granted [.notice] = some .device ∧ s.dev.state = .loading)
      ∧ (State.reset.settled ∧ State.reset.granted [.device] = none)
      ∧ (let s := tSt (tSeg .stopped) (tSegAccess .s1 .unit .entryRead); s.settled ∧ s.port.busy.isSome = true)
      ∧ (let s := tSt (tWait { Waits.empty with unit := some (tAcc .entryRead []) });
        let u : State := { s with port := { s.port with waited := [.segment .s0 .unit] } };
        (∀ q, q ∈ s.port.waited → q ∉ s.waiting) ∧ Requester.segment .s0 .unit ∈ u.port.waited
          ∧ Requester.segment .s0 .unit ∈ u.waiting ∧ Requester.notice ∉ u.port.waited)
      ∧ ((let s := tNoticeWait (tAcc .noticeMarkerRead []);
          s.port.busy = none ∧ s.granted [] = some .notice ∧ s.dev.state = .ready ∧ Op.noticeMarkerRead.isWrite = false)
        ∧ (let s := tNoticeWait (tAcc .noticeBody [(0x1000, 0), (0x7FFF, 0)]);
          s.granted [] = some .notice ∧ s.port.notice = some (tAcc .noticeBody [(0x1000, 0), (0x7FFF, 0)])
            ∧ ∀ p ∈ [((0x1000 : Word), (0 : Byte)), (0x7FFF, 0)],
                s.port.windowLow.toNat ≤ p.1.toNat ∧ p.1.toNat < s.port.windowHigh.toNat))
      ∧ (let s := tNoticeWait (tAcc .devProgress []);
        s.granted [] = some .notice ∧ s.dev.state = .ready ∧ s.port.windowLow.toNat ≤ s.nw.record.toNat
          ∧ s.nw.record.toNat + 16 ≤ s.port.windowHigh.toNat ∧ s.dev.disabling = false
          ∧ (let s' : State := { s with dev := { s.dev with disabling := true } };
            s'.granted [] = some .notice ∧ s'.nw.queue = []
              ∧ ∀ k, (s'.segs.get k).state = .stopped ∧ (s'.segs.get k).starting = false)) := by
  simp only [Seg.forall_iff]
  refine ⟨⟨rfl, rfl, by decide, rfl⟩, ⟨rfl, by decide, ?_⟩, by decide, ⟨rfl, by decide⟩, ⟨rfl, rfl⟩, by decide,
    ⟨by decide, by decide, by decide, ?_⟩, by decide⟩
  all_goals
    intro p hp
    simp only [List.mem_cons, List.not_mem_nil, or_false] at hp
    rcases hp with rfl | rfl <;> decide

/-- One byte past the window: of a request's write, of one with a frame driven, of a capture body and of a responder's write;
a progress record of a running and of a FAULTED segment; a notice body and a device progress record. -/
theorem witness_GrantRefusesOutsideWindow :
    (∀ op, op = .takenWrite ∨ op = .capBody →
      let a := tAcc op [(0x7FFF, 0), (0x8000, 0)];
      let s := tSt (tWait { Waits.empty with unit := some a });
      s.port.busy = none ∧ s.granted [] = some (.segment .s0 .unit) ∧ Source.unit ≠ .urgent ∧ a.op ≠ .progress
        ∧ a.op.isWrite = true ∧ a.bytes = (0x7FFF, 0) :: [(0x8000, 0)]
        ∧ (∃ q ∈ a.bytes, ¬(s.port.windowLow.toNat ≤ q.1.toNat ∧ q.1.toNat < s.port.windowHigh.toNat))
        ∧ (s.segs.get .s0).faultHeld = none ∧ (s.segs.get .s0).line.tx = none ∧ s.dev.state = .ready
        ∧ s.nw.lost = false ∧ s.nw.queue.length < 8)
      ∧ (let g := { tTxSeg .poll false .sending (.entry tEntry) with
            waits := { Waits.empty with responder := some (tAcc .inbBody [(0x0FFF, 0), (0x1000, 0)]) } };
        (tSt g).granted [] = some (.segment .s0 .responder) ∧ g.line.tx = some (tTx .poll false)
          ∧ ¬(tSt g).port.windowLow.toNat ≤ (0x0FFF : Word).toNat)
      ∧ (let g := { (tSeg .acquiring).reqProgress [⟨.lockLost, 0⟩] with run := some { tBlk with progress := 0x7FF0 } };
        (tSt g).granted [] = some (.segment .s0 .control)
          ∧ (∃ i, i < 32 ∧ ¬((tSt g).port.windowLow.toNat ≤ (g.blk.progress + BitVec.ofNat 32 i).toNat
            ∧ (g.blk.progress + BitVec.ofNat 32 i).toNat < (tSt g).port.windowHigh.toNat))
          ∧ g.waits.control = some (tSeg .acquiring).progressWait ∧ g.faultHeld = none ∧ g.faultOwed = none
          ∧ g.line.tx = none ∧ (tSt g).nw.queue.length + 1 + g.prWait.length ≤ 8)
      ∧ (let g := { (tSeg .faulted).reqProgress [] with run := some { tBlk with progress := 0x7FF0 }, faultOwed := some 0 };
        (tSt g).granted [] = some (.segment .s0 .control) ∧ g.state = .faulted ∧ g.faultHeld = none ∧ g.stopOwed = false
          ∧ g.prWait = [] ∧ (tSt g).nw.queue.length + 2 ≤ 8)
      ∧ (let a := tAcc .noticeBody [(0x7FFF, 0), (0x8000, 0)];
        let s := tNoticeWait a;
        s.port.busy = none ∧ s.granted [] = some .notice ∧ s.port.notice = some a ∧ a.op.isWrite = true
          ∧ (a.bytes.map Prod.fst).head? = some 0x7FFF
          ∧ ∃ q ∈ a.bytes.map Prod.fst, ¬(s.port.windowLow.toNat ≤ q.toNat ∧ q.toNat < s.port.windowHigh.toNat))
      ∧ (let s := { tNoticeWait (tAcc .devProgress []) with nw := { NoticeWriter.reset with record := 0x7FF8 } };
        let bytes := (List.range 16).map (fun i => s.nw.record + BitVec.ofNat 32 i);
        s.granted [] = some .notice ∧ bytes.head? = some 0x7FF8
          ∧ ∃ q ∈ bytes, ¬(s.port.windowLow.toNat ≤ q.toNat ∧ q.toNat < s.port.windowHigh.toNat))
      ∧ StartsStopped (tNoticeWait (tAcc .noticeBody [(0x7FFF, 0), (0x8000, 0)])) := by
  refine ⟨?_, ?_, ⟨?_, ⟨31, ?_⟩, ?_⟩, ?_, ⟨?_, ?_, ?_, ?_, ?_, 0x8000, ?_⟩, ⟨?_, ?_, 0x8000, ?_⟩,
    fun k => by cases k <;> exact ⟨nofun, fun _ => rfl⟩⟩
  · rintro op (rfl | rfl) <;> decide +kernel
  all_goals decide +kernel

/-- A refused write of segment 0 leaves the port IDLE, and segment 1's read, which waited beside it, is in the next grant. -/
theorem witness_GrantRefusesOutsideWindow_idle :
    let g := tWait { Waits.empty with unit := some (tAcc .takenWrite [(0x8000, 0)]) };
    let s := { tSt g with
      segs := { (tSt g).segs with v1 := tWait { Waits.empty with unit := some (tAcc .entryRead []) } } };
    s.port.busy = none ∧ s.granted [] = some (.segment .s0 .unit) ∧ (s.grant []).settle.port.busy = none
      ∧ Requester.segment .s1 .unit ∈ s.waiting ∧ Requester.segment .s1 .unit ∈ (s.grant []).settle.waiting := by
  decide +kernel

/-- A record of a change, and one of a cycle end. -/
theorem witness_ProgressRecordCarriesValues :
    (let g := (tSeg .locked).reqProgress [⟨.segmentLocked, 1⟩];
      (tSt g).port.busy = none ∧ (tSt g).granted [] = some (.segment .s0 .control)
        ∧ g.waits.control = some g.progressWait ∧ (tSt g).port.windowLow.toNat ≤ g.blk.progress.toNat
        ∧ g.blk.progress.toNat + 32 ≤ (tSt g).port.windowHigh.toNat)
      ∧ (let g := { (tSeg .locked).reqProgress [] with prEnded := some 6 };
        (tSt g).granted [] = some (.segment .s0 .control) ∧ g.stopWrite = false ∧ g.state ≠ .faulted)
      ∧ ({ tSeg .stopping with stopWrite := true } : Segment).stopWrite = true := by decide

theorem witness_DiscardedResponseHasNoEffect :
    (let s := { tDev .disabled with port := { Port.reset with busy := some ⟨.device, tAcc .controlBlock [], true⟩ } };
      s.settled ∧ s.port.busy.any (·.discard) = true)
      ∧ (let s := { tDev .faulted with port := { Port.reset with busy := some ⟨.notice, tAcc .noticeBody [], true⟩ } };
        s.settled ∧ s.port.busy.any (·.discard) = true)
      ∧ ((tSt (tSeg .faulted) (some ⟨.segment .s0 .unit, tAcc .takeRead [], true⟩)).settled ∧ (tSeg .faulted).calm)
      ∧ (let s := tSt (tSeg .acquiring) (tSegAccess .s0 .urgent .respRecord);
        s.serves .s0 .urgent ⟨.respRecord, 0x1000, 0, []⟩ ∧ s.settled ∧ (tSeg .acquiring).calm)
      ∧ ((tSt (tSeg .locked)).settled ∧ (tSt (tSeg .locked)).port.busy = none)
      ∧ (let g := tSeg .stopping;
        (tSt g (some ⟨.segment .s0 .unit, tAcc .takeRead [], true⟩)).port.busy.any (·.discard) = true ∧ g.state = .stopping
          ∧ g.faultHeld = none ∧ g.stopWrite = false ∧ g.unit = .none ∧ g.xact = .idle ∧ g.resp.quiet
          ∧ g.waits = ⟨none, none, none, none, none⟩ ∧ g.line.tx = none) :=
  ⟨⟨rfl, rfl⟩, ⟨rfl, rfl⟩, ⟨rfl, tSeg_calm _ nofun nofun⟩, ⟨rfl, rfl, tSeg_calm _ nofun nofun⟩, ⟨rfl, rfl⟩,
    rfl, rfl, rfl, rfl, rfl, rfl, ⟨rfl, rfl, rfl⟩, rfl, rfl⟩

/-- A source's next request that stands while its access is on the bus has not arrived at the response; another source's
has. -/
theorem test_next_request_of_a_source_is_late :
    let s := tSt { tSeg .locked with
      waits := { Waits.empty with control := some (tSeg .locked).progressWait, chain := some (tAcc .chainLink []) } }
      (tSegAccess .s0 .control .progress);
    s.waiting = [.segment .s0 .control, .segment .s0 .chain] ∧ s.freePort.port.waited = [.segment .s0 .chain] := by decide

/-! ## Witnesses: the line -/

/-- A frame in assembly, none, one that has ended, the part's own frame, and a header failure. -/
theorem witness_CharacterJoinsFrame :
    (let g := tAsmSeg .locked [0xB4];
      g.state ≠ .stopped ∧ g.state ≠ .faulted ∧ g.line.tx = none ∧ (tAsm [0xB4]).complete = false
        ∧ (tAsm [0xB4]).broken = false ∧ (tAsm [0xB4]).fail = none)
      ∧ ((tSeg .locked).line.asm = none ∧ Assembly.empty.fail = none)
      ∧ (tAsm tGood).complete = true
      ∧ (tTxSeg .poll false .sending .none).line.tx ≠ none ∧ (tSeg .stopped).state = .stopped
      ∧ ((tAsm [0xB5]).fail.isSome = true ∧ (tAsm [0xB5]).broken = false)
      ∧ parityOk 0x01 true = true ∧ headerTest [0xB4, 127] 1 = none ∧ headerTest [0xB4, 128] 1 = some .range
      ∧ headerTest [0xB4, 20, 9, 31] 3 = some .invalidKind ∧ headerTest [0xB4, 20, 9, 32] 3 = some .reservedBits
      ∧ headerTest [0xB4, 20, 9, 0, 64] 4 = none := by decide +kernel

theorem witness_LineTimesAreReached :
    ((tSeg .locked).line.tracker = .busy ∧ (tSeg .locked).line.idle = true ∧ Line.reset.idle = false)
      ∧ ({ Line.reset with tracker := .reserved, idle := true } : Line).tracker = .reserved
      ∧ ({ ReqEngine.reset with gap := .measuring } : ReqEngine).gap = .measuring ∧ ReqEngine.reset.gap ≠ .measuring
      ∧ ({ Responder.reset with pend := some (tPend .poll .nak) } : Responder).pend = some (tPend .poll .nak)
      ∧ Responder.reset.pend = none
      ∧ ({ Cycle.reset with pause := .running } : Cycle).pause = .running ∧ Cycle.reset.pause ≠ .running := by decide

/-- A frame being driven, no answer owed, one begun, a POLL's not begun under LOG_POLLS, one whose frame is in no buffer. -/
theorem witness_StartBitTakesLine :
    (tTxSeg .poll false .sending .none).line.tx ≠ none
      ∧ ((tSeg .locked).line.tx = none
        ∧ ∀ l, (tSeg .locked).GivesUpAnswer l l Responder.reset)
      ∧ (let p := { tPend .poll .nak with begun := true };
        let g := tRespSeg p [];
        g.line.tx = none ∧ ∀ l, g.GivesUpAnswer l l g.resp)
      ∧ (let p := { tPend .poll .nak with buf := some .b0 };
        let h : Hand := ⟨.b0, .pollSeen, .none, 1, .answering⟩;
        let g := tRespSeg p [h];
        g.line.tx = none ∧ ∀ l, g.GivesUpAnswer l l { Responder.reset with hands := [{ h with stage := .queued }] })
      ∧ (let g := tRespSeg (tPend .set .nak) [];
        g.line.tx = none ∧ ∀ l, g.GivesUpAnswer l l Responder.reset)
      ∧ (tSeg .faulted).state = .faulted
      ∧ (let g := { tSeg .locked with resp := { Responder.reset with pend := some (tPend .poll .nak) } };
        g.resp.pend = some (tPend .poll .nak) ∧ (tPend .poll .nak).begun = false ∧ g.resp.owesNoWrite
          ∧ ∀ a, g.waits.responder = some a → a.op ≠ .writeBack) :=
  ⟨by decide +kernel, ⟨rfl, fun _ => .inl ⟨fun p h => absurd (show none = some p from h) nofun, rfl, rfl⟩⟩,
    ⟨rfl, fun _ => .inl ⟨fun _ h => by cases h; rfl, rfl, rfl⟩⟩,
    ⟨rfl, fun _ => .inr ⟨_, rfl, rfl, .inr ⟨.b0, _, rfl, rfl, .inl ⟨rfl, rfl, by decide, rfl, rfl⟩⟩⟩⟩,
    ⟨rfl, fun _ => .inr ⟨_, rfl, rfl, .inl ⟨nofun, rfl, rfl⟩⟩⟩, rfl, rfl, rfl, nofun,
    fun a h => absurd (show none = some a from h) nofun⟩

/-- Losses within the limit and beyond it, of an entry and of a request; the loss of a POLL and of a SET that a departure
has ended, the SET's successor read back and still being read. -/
theorem witness_ArbitrationLossCounts :
    (let g := tTxSeg .poll false .sending (.entry tEntry);
      g.line.tx = some (tTx .poll false) ∧ (tTx .poll false).answer = false ∧ g.xact = .sending
        ∧ g.unit = .entry tEntry ∧ g.cycle.losses + 1 ≤ g.blk.arbLimit.toNat)
      ∧ (let g := { tTxSeg .set false .sending (.request tReq) with req := { ReqEngine.reset with losses := 2 } };
        g.unit = .request tReq ∧ ¬g.req.losses + 1 ≤ g.blk.arbLimit.toNat)
      ∧ (let g := tTxSeg .poll false (.ending .framingLost) (.entry tEntry);
        g.line.tx = some (tTx .poll false) ∧ g.xact = .ending .framingLost ∧ g.unit = .entry tEntry)
      ∧ (let g := tTxSeg .set false (.ending .lineStall) (.request tReq);
        g.line.tx = some (tTx .set false) ∧ (tTx .set false).answer = false ∧ g.xact = .ending .lineStall
          ∧ g.unit = .request tReq ∧ tReq.step = .serve ∧ tReq.buf = none ∧ tReq.succ.reading = false
          ∧ ({ tReq with succ := .link } : ReqUnit).succ.reading = true) := by
  decide +kernel

/-- The last attempt but one and the last, of an entry and of a request; a collision of each that has already ended. -/
theorem witness_CollisionFailsAttempt :
    (let g := { tTxSeg .poll false .sending (.entry tEntry) with cycle := { Cycle.reset with attempt := 1 } };
      g.line.tx = some (tTx .poll false) ∧ g.xact = .sending ∧ g.cycle.attempt < tEntry.cfg.retry.toNat + 1)
      ∧ (let g := { tTxSeg .poll false .sending (.entry tEntry) with cycle := { Cycle.reset with attempt := 2 } };
        g.unit = .entry tEntry ∧ ¬g.cycle.attempt < tEntry.cfg.retry.toNat + 1)
      ∧ (let g := tTxSeg .set false .sending (.request tReq);
        g.unit = .request tReq ∧ tReq.attempt < tReq.body.limit.toNat)
      ∧ (let r := { tReq with attempt := 2 };
        let g := tTxSeg .set false .sending (.request r);
        g.unit = .request r ∧ ¬r.attempt < r.body.limit.toNat ∧ r.step = .serve ∧ r.buf = none ∧ r.succ = .none)
      ∧ (let g := tTxSeg .poll false (.ending .aborted) (.entry tEntry);
        g.line.tx = some (tTx .poll false) ∧ g.xact = .ending .aborted ∧ g.unit = .entry tEntry)
      ∧ (let g := tTxSeg .set false (.ending .framingLost) (.request { tReq with succ := .link });
        g.line.tx = some (tTx .set false) ∧ g.xact = .ending .framingLost ∧ tReq.step = .serve ∧ tReq.buf = none
          ∧ g.unit = .request { tReq with succ := .link } ∧ tReq.succ.reading = false) := by
  decide +kernel

/-- An answer without a write-back owed, a REPLY, and the three fates of its frame's buffer; one that is cut, a POLL's under
LOG_POLLS and a SET's; one whose frame is in no buffer. -/
theorem witness_AnswerEndsOrIsCut :
    (let g := tTxSeg .reply true .idle .none;
      g.line.tx = some (tTx .reply true) ∧ (tTx .reply true).answer = true ∧ g.resp.owesNoWrite
        ∧ ∀ a, g.waits.responder = some a → a.op ≠ .writeBack)
      ∧ (let g := { tTxSeg .reply true .idle .none with
            resp := { Responder.reset with pend := some (tPend .poll (.reply tResp)) } };
        g.line.tx = some (tTx .reply true) ∧ (tTx .reply true).kind = .reply
          ∧ g.resp.pend = some (tPend .poll (.reply tResp)) ∧ (tPend .poll (.reply tResp)).ans = .reply tResp
          ∧ g.faultHeld = none ∧ g.waits.responder = none ∧ g.resp.due = []
          ∧ ∀ b, (tSt g).port.busy = some b → b.req ≠ .segment .s0 .responder)
      ∧ (let h : Hand := ⟨.b0, .pollSeen, .none, 1, .answering⟩;
        let g := tHandSeg .poll (.reply tResp) h;
        g.line.tx = some (tTx .reply true) ∧ g.resp.hands.find? (Hand.owes .b0) = some h ∧ g.blk.logPolls = true
          ∧ g.blk.inbSlots ≠ 0)
      ∧ (let h : Hand := ⟨.b1, .set, .none, 1, .cleared⟩;
        let g := tHandSeg .set .ack h;
        g.line.tx = some (tTx .ack true) ∧ g.resp.hands.find? (Hand.owes .b1) = some h ∧ h.stage = .cleared)
      ∧ (let h : Hand := ⟨.b1, .set, .none, 1, .refused⟩;
        let g := tHandSeg .set .nak h;
        g.line.tx = some (tTx .nak true) ∧ g.resp.hands.find? (Hand.owes .b1) = some h ∧ h.stage ≠ .cleared
          ∧ h.stage ≠ .answering)
      ∧ (let h : Hand := ⟨.b0, .pollSeen, .none, 1, .answering⟩;
        let p := { tPend .poll (.reply tResp) with begun := true, buf := some .b0 };
        ∀ l, (tRespSeg p [h]).AbandonsAnswer p l l { Responder.reset with hands := [{ h with stage := .queued }] })
      ∧ (let p := { tPend .set .ack with begun := true, buf := some .b1 };
        ∀ l : Line, (tRespSeg p [⟨.b1, .set, .none, 1, .cleared⟩]).AbandonsAnswer p l (l.release .b1) Responder.reset)
      ∧ (let p := { tPend .set .nak with begun := true };
        let g := { tTxSeg .nak true .idle .none with resp := { Responder.reset with pend := some p } };
        g.line.tx = some (tTx .nak true) ∧ (tTx .nak true).kind = .nak ∧ g.resp.pend = some p ∧ p.buf = none
          ∧ ∀ l, g.AbandonsAnswer p l l Responder.reset) :=
  ⟨⟨rfl, rfl, nofun, fun a h => absurd (show none = some a from h) nofun⟩, ⟨rfl, rfl, rfl, rfl, rfl, rfl, rfl,
    fun b h => absurd (show none = some b from h) nofun⟩, by decide, by decide, by decide,
    fun _ => .inr ⟨.b0, _, rfl, rfl, .inl ⟨rfl, rfl, by decide, rfl, rfl⟩⟩,
    fun _ => .inr ⟨.b1, _, rfl, rfl, .inr ⟨by decide, rfl, rfl⟩⟩,
    rfl, rfl, rfl, rfl, fun _ => .inl ⟨nofun, rfl, rfl⟩⟩

/-- A POLL, an ANNOUNCE, and the frames of an entry and of a request that a stop and a lock loss have ended. -/
theorem witness_TransmitEndAwaitsAnswer :
    (let g := tTxSeg .poll false .sending (.entry tEntry);
      g.line.tx = some (tTx .poll false) ∧ (tTx .poll false).answer = false ∧ (tTx .poll false).kind = .poll
        ∧ g.xact = .sending)
      ∧ (let r := { tReq with body := { tReq.body with kind := some .announce } };
        let g := tTxSeg .announce false .sending (.request r);
        g.line.tx = some (tTx .announce false) ∧ g.xact = .sending ∧ g.unit = .request r ∧ r.step = .serve
          ∧ r.buf = none ∧ r.succ = .none)
      ∧ (let g := tTxSeg .poll false (.ending .aborted) (.entry tEntry);
        g.line.tx = some (tTx .poll false) ∧ (tTx .poll false).answer = false ∧ g.xact = .ending .aborted
          ∧ Ending.aborted ≠ .replied ∧ g.unit = .entry tEntry)
      ∧ (let g := tTxSeg .set false (.ending .framingLost) (.request tReq);
        g.line.tx = some (tTx .set false) ∧ g.xact = .ending .framingLost ∧ g.unit = .request tReq ∧ tReq.step = .serve
          ∧ tReq.buf = none ∧ tReq.succ = .none)
      ∧ (tSeg .locked).line.tx = none := by decide +kernel

theorem witness_WaitsExpire :
    (let g := { tSeg .locked with xact := .waiting, unit := .entry tEntry, cycle := { Cycle.reset with attempt := 1 } };
      g.xact = .waiting ∧ g.unit = .entry tEntry ∧ g.cycle.attempt < tEntry.cfg.retry.toNat + 1)
      ∧ (let g := { tSeg .locked with xact := .waiting, unit := .entry tEntry, cycle := { Cycle.reset with attempt := 2 } };
        g.xact = .waiting ∧ ¬g.cycle.attempt < tEntry.cfg.retry.toNat + 1)
      ∧ (let g := { tSeg .locked with xact := .waiting, unit := .request tReq };
        g.unit = .request tReq ∧ tReq.attempt < tReq.body.limit.toNat)
      ∧ (let r := { tReq with attempt := 2 };
        let g := { tSeg .locked with xact := .waiting, unit := .request r };
        g.unit = .request r ∧ ¬r.attempt < r.body.limit.toNat ∧ r.step = .serve ∧ r.buf = none ∧ r.succ = .none)
      ∧ (tSeg .locked).xact ≠ .waiting
      ∧ ((tPend .poll .undecided).ans = .undecided ∧ (tPend .poll .undecided).kind = .poll)
      ∧ ((tPend .set .undecided).ans = .undecided ∧ (tPend .set .undecided).kind ≠ .poll)
      ∧ (tPend .poll .nak).ans ≠ .undecided := by decide

/-! ## Witnesses: frame reports -/

theorem tSeg_awaitsNoReport (st : SegState) : (tSeg st).awaitsNoReport := ⟨nofun, nofun, nofun⟩

def tHdrFault : List Byte := [0xB4, 20, 9, 0, 0, 0]

/-- Two GOOD frames of three, the third, a frame that is not GOOD, and each other state. -/
theorem witness_FrameReportCountsTowardsLock :
    (let g := { tAsmSeg .acquiring tGood with good := 1 };
      g.line.asm = some (tAsm tGood) ∧ g.faultHeld = none ∧ g.awaitsNoReport ∧ (tAsm tGood).cls = .good
        ∧ g.good + 1 < g.blk.acq.toNat)
      ∧ (let g := { tAsmSeg .acquiring tGood with good := 2 };
        g.blk.acq.toNat ≤ g.good + 1 ∧ g.everLocked = false ∧ g.unit = .none ∧ g.cycle.point = .notBegun)
      ∧ (tAsm tHdrFault).cls ≠ .good ∧ (tAsmSeg .settling tGood).state = .settling
      ∧ (tAsmSeg .stopping tGood).state = .stopping ∧ (tAsmSeg .stalled tGood).state = .stalled
      ∧ (tSeg .locked).line.asm = none ∧ ({ tSeg .locked with faultHeld := some 0 } : Segment).faultHeld ≠ none
      ∧ (let g := { tAsmSeg .stopping tGood with unit := .entry tEntry, xact := .lostReport };
        g.line.asm = some (tAsm tGood) ∧ g.faultHeld = none ∧ g.state = .stopping ∧ g.xact = .lostReport)
      ∧ (let g := { tAsmSeg .stalled tGood with cycle := { Cycle.reset with pause := .awaiting } };
        g.line.asm = some (tAsm tGood) ∧ g.state = .stalled ∧ g.cycle.pause = .awaiting) := by
  unfold Segment.awaitsNoReport; decide +kernel

/-- A report that something waits for in ACQUIRING and in LOCKED, by frames GOOD and not, and the winner's POLL to the
part. -/
theorem witness_FrameReportCountsTowardsLock_waits :
    (let g := { tAsmSeg .acquiring tGood with good := 1, req := { ReqEngine.reset with gap := .afterReport } };
        g.line.asm = some (tAsm tGood) ∧ g.state = .acquiring ∧ (tAsm tGood).cls = .good ∧ g.good + 1 < g.blk.acq.toNat
          ∧ g.req.gap = .afterReport)
      ∧ (let g := { tAsmSeg .acquiring tHdrFault with unit := .entry tEntry, xact := .lostReport };
        g.line.asm = some (tAsm tHdrFault) ∧ g.state = .acquiring ∧ (tAsm tHdrFault).cls ≠ .good ∧ g.xact = .lostReport)
      ∧ (let a := tAsm [0xB4, 200];
        let g := { tAsmSeg .locked [0xB4, 200] with cycle := { Cycle.reset with pause := .awaiting } };
        g.line.asm = some a ∧ g.faultHeld = none ∧ g.state = .locked ∧ g.xact ≠ .started ∧ a.framingFault = false
          ∧ a.cls ≠ .good ∧ g.cycle.pause = .awaiting)
      ∧ (let a := tAsm (buildFrame 30 9 0 []);
        let g := { tAsmSeg .locked (buildFrame 30 9 0 []) with unit := .entry tEntry, xact := .lostReport };
        g.line.asm = some a ∧ g.state = .locked ∧ g.xact ≠ .started ∧ a.framingFault = false ∧ a.cls = .good
          ∧ g.blk.ownIndex (destOf a.chars) = none ∧ destOf a.chars ≠ 0 ∧ g.blk.monitor = false ∧ g.xact = .lostReport)
      ∧ (let a := tAsm tGood;
        let g := { tAsmSeg .locked tGood with unit := .entry tEntry, xact := .lostReport };
        g.faultHeld = none ∧ a.framingFault = false ∧ kindOf a.chars = some .poll
          ∧ g.blk.ownIndex (destOf a.chars) = some 0 ∧ g.blk.respTable ≠ 0 ∧ g.resp.pend = none
          ∧ g.line.freeBuf.isSome = true) := by decide +kernel

/-- After a request's collision, another device's POLL to the part. -/
theorem witness_FrameReportCountsTowardsLock_collision :
    let a := tAsm tGood;
    let g := { tAsmSeg .locked tGood with
      line := { Line.reset with asm := some a, tracker := .busy }, unit := .request { tReq with attempt := 2 },
      xact := .ready, req := { ReqEngine.reset with gap := .afterReport, count := 2, sent := true } };
    g.line.asm = some a ∧ g.line.tx = none ∧ g.line.tracker = .busy ∧ g.faultHeld = none ∧ g.state = .locked
      ∧ g.unit = .request { tReq with attempt := 2 } ∧ g.xact = .ready ∧ g.req.gap = .afterReport ∧ a.framingFault = false
      ∧ a.cls = .good ∧ kindOf a.chars = some .poll ∧ g.blk.ownIndex (destOf a.chars) = some 0 ∧ g.resp.pend = none
      ∧ g.line.freeBuf.isSome = true := by decide +kernel

/-- The answer a departure gives up: none owed, one begun, a POLL's under LOG_POLLS and without, a SET's. -/
theorem witness_GivesUpAnswer :
    (∀ st l, (tSeg st).GivesUpAnswer l l Responder.reset)
      ∧ (let p := { tPend .poll .nak with begun := true };
        let g := tRespSeg p [];
        g.GivesUpAnswer tTwo tTwo g.resp)
      ∧ (let p := { tPend .poll .nak with buf := some .b0 };
        let h : Hand := ⟨.b0, .pollSeen, .none, 1, .answering⟩;
        let g := tRespSeg p [h];
        g.GivesUpAnswer tTwo tTwo { Responder.reset with hands := [{ h with stage := .queued }] }
          ∧ ({ g with run := some { tBlk with logPolls := false } } : Segment).GivesUpAnswer tTwo (tTwo.release .b0)
              Responder.reset)
      ∧ (let p := { tPend .set .ack with buf := some .b1 };
        (tRespSeg p [⟨.b1, .set, .none, 1, .cleared⟩]).GivesUpAnswer tTwo (tTwo.release .b1) Responder.reset) :=
  ⟨fun _ _ => .inl ⟨fun _ h => absurd (show none = some _ from h) nofun, rfl, rfl⟩,
    .inl ⟨fun _ h => by cases h; rfl, rfl, rfl⟩,
    ⟨.inr ⟨_, rfl, rfl, .inr ⟨.b0, _, rfl, rfl, .inl ⟨rfl, rfl, by decide, rfl, rfl⟩⟩⟩,
      .inr ⟨_, rfl, rfl, .inr ⟨.b0, _, rfl, rfl, .inr ⟨by decide, rfl, rfl⟩⟩⟩⟩,
    .inr ⟨_, rfl, rfl, .inr ⟨.b1, _, rfl, rfl, .inr ⟨by decide, rfl, rfl⟩⟩⟩⟩

/-- The second framing fault in a row, the third, the third with acquisition count 0, a frame that is no fault and not GOOD,
an entry under service, and a request that holds a group. -/
theorem witness_FramingFaultsLoseLock :
    (let g := { tAsmSeg .locked tHdrFault with line := { Line.reset with asm := some (tAsm tHdrFault), framing := 1 } };
      g.awaitsNoReport ∧ g.xact ≠ .started ∧ (tAsm tHdrFault).framingFault = true ∧ (tAsm tHdrFault).cls ≠ .good
        ∧ g.line.framing + 1 < 3)
      ∧ (let g := { tAsmSeg .locked tHdrFault with line := { Line.reset with asm := some (tAsm tHdrFault), framing := 2 } };
        (3 ≤ g.line.framing + 1 ∧ g.blk.acq ≠ 0 ∧ g.unit = .none ∧ g.xact = .idle ∧ g.resp.pend = none)
          ∧ (let g' := { g with run := some { tBlk with acq := 0 }, everLocked := true };
            g'.awaitsNoReport ∧ 3 ≤ g'.line.framing + 1 ∧ g'.blk.acq = 0 ∧ g'.everLocked = true ∧ g'.unit = .none
              ∧ g'.xact = .idle ∧ g'.resp.pend = none)
          ∧ (let g' := { g with
                unit := .request tReq, xact := .started, req := { ReqEngine.reset with cond := .holding, count := 2 } };
            g'.awaitsNoReport ∧ g'.state = .locked ∧ tReq.step = .serve ∧ tReq.buf = none ∧ tReq.succ = .none
              ∧ 3 ≤ g'.line.framing + 1 ∧ g'.blk.acq ≠ 0 ∧ g'.resp.pend = none ∧ g'.req.cond = .holding))
      ∧ ((tAsm [0xB4, 200]).framingFault = false ∧ (tAsm [0xB4, 200]).cls ≠ .good)
      ∧ (let g := { tAsmSeg .locked tHdrFault with unit := .entry tEntry, xact := .waiting };
        g.awaitsNoReport ∧ g.xact = .waiting ∧ g.unit = .entry tEntry ∧ g.resp.pend = none)
      ∧ (let g := { tAsmSeg .locked tHdrFault with unit := .entry tEntry, xact := .started };
        g.awaitsNoReport ∧ g.xact = .started ∧ (tAsm tHdrFault).cls ≠ .damaged
          ∧ g.cycle.attempt < tEntry.cfg.retry.toNat + 1) := by
  unfold Segment.awaitsNoReport; decide +kernel

/-- A stray at an own address and one at DEST 0; a POLL and a SET to own address 0, with a buffer free and with none; an
ANNOUNCE to an own address and one to DEST 0; a REPLY to DEST 0 and a frame for another device under MONITOR and without. -/
theorem witness_GoodFrameTakers :
    ((tAsmSeg .locked tGood).awaitsNoReport ∧ (tAsmSeg .locked tGood).xact ≠ .started
        ∧ (tAsm tGood).framingFault = false)
      ∧ (let a := tAsm (buildFrame 20 9 0x01 []);
        a.cls = .good ∧ (tBlk.ownIndex (destOf a.chars)).isSome = true ∧ kindOf a.chars = some .reply)
      ∧ (let a := tAsm (buildFrame 0 9 0x02 []);
        a.cls = .good ∧ tBlk.ownIndex (destOf a.chars) = none ∧ destOf a.chars = 0 ∧ kindOf a.chars = some .set)
      ∧ (let g := tAsmSeg .locked tGood;
        (tAsm tGood).cls = .good ∧ tBlk.ownIndex (destOf (tAsm tGood).chars) = some 0
          ∧ kindOf (tAsm tGood).chars = some .poll ∧ g.resp.pend = none ∧ g.line.freeBuf = some .b0 ∧ tTwo.freeBuf = none)
      ∧ (let a := tAsm (buildFrame 20 9 0x02 [1]);
        a.cls = .good ∧ a.framingFault = false ∧ tBlk.ownIndex (destOf a.chars) = some 0 ∧ kindOf a.chars = some .set
          ∧ ({ tTwo with buf1 := none } : Line).freeBuf = some .b1 ∧ tTwo.freeBuf = none)
      ∧ (let a := tAsm (buildFrame 20 9 0x06 []);
        a.cls = .good ∧ a.framingFault = false ∧ (tBlk.ownIndex (destOf a.chars)).isSome = true
          ∧ kindOf a.chars = some .announce)
      ∧ (({ tBlk with own1 := 30, multi := true } : SegBlock).ownIndex 30 = some 1
        ∧ ({ tBlk with own1 := 30 } : SegBlock).ownIndex 30 = none)
      ∧ (let a := tAsm (buildFrame 0 9 0x06 []);
        a.cls = .good ∧ a.framingFault = false ∧ tBlk.ownIndex (destOf a.chars) = none ∧ destOf a.chars = 0
          ∧ kindOf a.chars = some .announce ∧ tBlk.acceptBroadcast = true ∧ tBlk.inbSlots ≠ 0
          ∧ ({ tBlk with inbSlots := 0 } : SegBlock).ownIndex 0 = none
          ∧ ({ tBlk with acceptBroadcast := false } : SegBlock).ownIndex 0 = none)
      ∧ (let a := tAsm (buildFrame 0 9 0x03 []);
        a.cls = .good ∧ a.framingFault = false ∧ destOf a.chars = 0 ∧ kindOf a.chars = some .ack ∧ tBlk.monitor = false)
      ∧ (let a := tAsm (buildFrame 33 9 0x00 []);
        a.cls = .good ∧ a.framingFault = false ∧ tBlk.ownIndex (destOf a.chars) = none ∧ destOf a.chars ≠ 0
          ∧ (kindOf a.chars).isSome = true ∧ tBlk.monitor = false
          ∧ ({ tBlk with monitor := true } : SegBlock).ownIndex (destOf a.chars) = none) := by
  unfold Segment.awaitsNoReport; decide +kernel

/-- An awaited answer; a REPLY accepted, a duplicate and a GOOD NAK of an entry; an answer with no buffer free, and one from
another station, on an attempt before the last and on the last; the same for a request, with a REPLY kept and not kept,
and the last attempt of one with no buffer free. -/
theorem witness_AwaitedAnswerJudged :
    (let a := tAsm (buildFrame 20 9 0x09 [7]);
      let g := { tAsmSeg .locked [] with line := { Line.reset with asm := some a }, xact := .started, unit := .entry tEntry };
      g.line.asm = some a ∧ g.awaitsNoReport ∧ g.xact = .started ∧ g.unit = .entry tEntry ∧ a.framingFault = false
        ∧ a.cls = .good ∧ tEntry.judge (some a.frame) = .replied ∧ g.line.freeBuf = some .b0 ∧ tTwo.freeBuf = none
        ∧ g.cycle.attempt < tEntry.cfg.retry.toNat + 1 ∧ ¬(2 < tEntry.cfg.retry.toNat + 1))
      ∧ (let e := { tEntry with cfg := { tEntry.cfg with expectSeq := true },
                                st := { Status.cleared with lastSeq := some true } };
        e.judge (some ⟨buildFrame 20 9 0x09 [7], true, []⟩) = .duplicate)
      ∧ tEntry.judge (some ⟨buildFrame 20 9 0x04 [], true, []⟩) = .refused
      ∧ tEntry.judge (some ⟨buildFrame 20 8 0x01 [], true, []⟩) = .badReply
      ∧ tEntry.judge (some ⟨buildFrame 20 9 0x01 [], false, []⟩) = .badReply
      ∧ (tReq.judge (some ⟨buildFrame 20 9 0x03 [], true, []⟩) = .ok
        ∧ tReq.keeps ⟨buildFrame 20 9 0x03 [], true, []⟩ = false ∧ tReq.attempt < tReq.body.limit.toNat)
      ∧ (let r := { tReq with attempt := 2, body := { tReq.body with kind := some .pollOnce } };
        ¬r.attempt < r.body.limit.toNat ∧ r.judge (some ⟨buildFrame 20 9 0x01 [7], false, []⟩) = .badReply
          ∧ r.keeps ⟨buildFrame 20 9 0x01 [7], false, []⟩ = true)
      ∧ (let r := { tReq with attempt := 2 };
        let g := { tSeg .locked with line := tTwo, xact := .started, unit := .request r };
        g.unit = .request r ∧ g.line.freeBuf = none ∧ ¬r.attempt < r.body.limit.toNat) := by
  unfold Segment.awaitsNoReport; decide +kernel

/-! ## Witnesses: stall, settling, timers, supply -/

/-- A stall in ACQUIRING with no frame and with one; in LOCKED with no unit, with a frame in assembly, and with an entry and a
request that wait or have a frame on the line; in SETTLING and STOPPING; then the stall's end. -/
theorem witness_StallReportAndStallEnd :
    ((tSeg .acquiring).line.stalled = false ∧ (tSeg .acquiring).line.asm = none)
      ∧ ((tAsmSeg .acquiring tHdrFault).line.asm = some (tAsm tHdrFault) ∧ (tAsm tHdrFault).cls ≠ .good
        ∧ (tAsmSeg .acquiring tHdrFault).awaitsNoReport)
      ∧ ((tSeg .locked).state = .locked ∧ (tSeg .locked).unit = .none ∧ (tSeg .locked).xact = .idle
        ∧ (tSeg .locked).resp.pend = none ∧ (tSeg .locked).line.asm = none ∧ (tSeg .locked).line.stalled = false)
      ∧ (let g := { tAsmSeg .locked tHdrFault with unit := .entry tEntry, xact := .waiting };
        g.line.stalled = false ∧ g.line.asm = some (tAsm tHdrFault) ∧ (tAsm tHdrFault).framingFault = true
          ∧ g.line.framing + 1 < 3 ∧ g.xact ≠ .started ∧ g.awaitsNoReport ∧ g.unit = .entry tEntry ∧ g.resp.pend = none)
      ∧ (let g := { tSeg .locked with
            unit := .request tReq, xact := .started, req := { ReqEngine.reset with cond := .holding, count := 2 } };
        g.line.asm = none ∧ g.resp.pend = none ∧ tReq.step = .serve ∧ tReq.buf = none ∧ tReq.succ = .none
          ∧ g.req.cond = .holding)
      ∧ ((tTxSeg .poll false .sending (.entry tEntry)).line.asm = none
        ∧ (tTxSeg .poll false .sending (.entry tEntry)).resp.pend = none
        ∧ (tTxSeg .set false .sending (.request tReq)).line.asm = none
        ∧ (tTxSeg .set false .sending (.request tReq)).xact = .sending)
      ∧ ((tSeg .settling).state = .settling ∧ (tSeg .stopping).state = .stopping)
      ∧ (let g := { tSeg .stalled with line := { Line.reset with stalled := true } };
        g.state = .stalled ∧ g.line.stalled = true ∧ g.blk.acq ≠ 0)
      ∧ (let g := { tSeg .stalled with run := some { tBlk with acq := 0 }, line := { Line.reset with stalled := true } };
        g.line.stalled = true ∧ g.blk.acq = 0)
      ∧ (let g := { tSeg .stopping with line := { Line.reset with stalled := true } };
        g.state ≠ .stalled ∧ g.line.stalled = true) := by
  unfold Segment.awaitsNoReport; decide +kernel

/-- SETTLING with a stall reported, with none, and with acquisition count 0; a first sample in conserve; a quiet interval. -/
theorem witness_SettlingAndQuietIntervalLock :
    ((tSeg .settling).state = .settling ∧ (tSeg .settling).faultHeld = none ∧ (tSeg .settling).blk.acq ≠ 0
        ∧ (tSeg .settling).line.stalled = false)
      ∧ (let g := { tSeg .settling with line := { Line.reset with stalled := true } };
        g.state = .settling ∧ g.line.stalled = true)
      ∧ (let g := { tSeg .settling with run := some { tBlk with acq := 0 } };
        g.blk.acq = 0 ∧ g.line.stalled = false ∧ g.everLocked = false ∧ g.blk.chainHead ≠ 0)
      ∧ (let w := ((tSt (tSeg .settling)).work .s0).sample ⟨false, false⟩;
        w.seg.supply.auto = true ∧ w.notices.length = 1)
      ∧ (tSeg .locked).state ≠ .settling
      ∧ ((tSeg .acquiring).state = .acquiring ∧ (tSeg .acquiring).line.idle = true ∧ (tSeg .acquiring).everLocked = false
        ∧ (tSeg .acquiring).unit = .none ∧ (tSeg .acquiring).cycle.point = .notBegun
        ∧ (tSeg .acquiring).blk.pollLength ≠ 0 ∧ (tSeg .acquiring).blk.chainHead ≠ 0)
      ∧ (tAsmSeg .acquiring tGood).line.idle = false := by decide +kernel

theorem witness_CycleAndScanTimersExpire :
    (({ Cycle.reset with timer := .running 500 } : Cycle).timer = .running 500 ∧ Cycle.reset.state = .running)
      ∧ ({ Cycle.reset with timer := .running 500, state := .waiting } : Cycle).state ≠ .running
      ∧ Cycle.reset.timer = .stopped
      ∧ (let q := { ReqEngine.reset with scanTimer := .running 10, anchor := some 0x3000 };
        q.scanTimer = .running 10 ∧ q.chain = .idle ∧ q.ready = false ∧ q.current = none ∧ q.anchor = some 0x3000)
      ∧ ({ ReqEngine.reset with chain := .link } : ReqEngine).chain = .link
      ∧ ({ ReqEngine.reset with ready := true } : ReqEngine).ready = true ∧ ReqEngine.reset.scanTimer = .stopped := by
  decide

theorem witness_SampleSetsLevelAndConserve :
    (Level.low = if (true : Bool) = false then .weak else if (false : Bool) = false then .low else .ok)
      ∧ ({ ReqRecord.empty with kind := some .conserve } : ReqRecord).kind = some .conserve := by decide

/-- A sample, a deferred sample and a stopped timer; the sweep's last step but one, its last, its last with a sample
deferred, and no sweep; a supply at a threshold. -/
theorem witness_SampleTimerAndSweepSteps :
    (let p := { Supply.reset with timer := .running 500 }; p.timer = .running 500 ∧ p.sweep = .idle)
      ∧ (let p := { Supply.reset with timer := .running 500, sweep := .sweeping 3 (some 2) };
        p.timer = .running 500 ∧ p.sweep = .sweeping 3 (some 2))
      ∧ (tSeg .locked).supply.timer = .stopped
      ∧ (let p := { Supply.reset with sweep := .sweeping 6 none }; p.sweep = .sweeping 6 none ∧ (6 : Nat) < 7)
      ∧ (let q := { tReq with body := { tReq.body with kind := some .supplySweep } };
        let g := { tSeg .locked with supply := { Supply.reset with sweep := .sweeping 7 (some 3) }, unit := .request q };
        g.supply.sweep = .sweeping 7 (some 3) ∧ g.supply.deferred = false ∧ g.unit = .request q ∧ q.step = .serve
          ∧ q.buf = none ∧ q.succ = .none)
      ∧ (let q := { tReq with body := { tReq.body with kind := some .supplySweep, hold := true }, succ := .link };
        let g := { tSeg .locked with supply := { Supply.reset with sweep := .sweeping 7 none }, unit := .request q };
        g.supply.sweep = .sweeping 7 none ∧ g.supply.deferred = false ∧ g.unit = .request q ∧ q.step = .serve
          ∧ q.succ.reading = true)
      ∧ (let p := { Supply.reset with sweep := .sweeping 7 none, deferred := true };
        p.sweep = .sweeping 7 none ∧ p.deferred = true)
      ∧ (tSeg .locked).supply.sweep = .idle ∧ 17000 + 1000 * 7 ≤ 24000 := by decide

/-! ## Witnesses: responses -/

def tSegData : List Byte :=
  [4, 3, 16, 20, 10, 10, 2, 4, 0xF4, 1, 0, 4, 2, 20, 0, 0, 0, 0, 4, 0, 0, 0, 0, 0, 0, 0, 0, 0, 0, 0, 0, 0, 0, 0x30, 0, 0,
    0, 0x40, 0, 0, 0, 0, 0, 0, 0, 0, 0, 0, 0, 0x70, 0, 0] ++ List.replicate 76 0

/-- R175, check 5: R below W and not at it. -/
theorem test_response_time_check :
    SegmentBlockMeets 0x1000 0x8000 tBlk 5 ∧ ¬SegmentBlockMeets 0x1000 0x8000 { tBlk with r := 20 } 5 :=
  ⟨show 1 ≤ tBlk.r.toNat ∧ tBlk.r.toNat < tBlk.w.toNat by decide,
    show ¬(1 ≤ (20 : Byte).toNat ∧ (20 : Byte).toNat < tBlk.w.toNat) by decide⟩

theorem witness_SegmentBlockReadEndsStart :
    (let g := { tSeg .stopped with starting := true };
      (tSt g (tSegAccess .s0 .control .segBlock)).serves .s0 .control ⟨.segBlock, 0x1000, 0, []⟩ ∧ g.state = .stopped
        ∧ g.starting = true)
      ∧ segCheck 0x1000 0x8000 (parseSegBlock tSegData) = none
      ∧ segCheck 0x1000 0x8000 (parseSegBlock (8 :: tSegData)) = some 1
      ∧ (let b := parseSegBlock tSegData;
        b.period = 500 ∧ b.logPolls = false ∧ b.lowStep = 4 ∧ b.own0 = 20 ∧ b.capSlots = 4 ∧ b.chainHead = 0x3000) := by
  unfold State.serves; decide +kernel

/-- A fault with no frame on the line and with one, an entry read in STOPPING, an urgent read whose answer is gone, and a
fault held until the end of a work frame and of an answer. -/
theorem witness_SegmentErrorFaultsSegment :
    ((tSt (tSeg .locked) (tSegAccess .s0 .unit .entryRead)).serves .s0 .unit ⟨.entryRead, 0x1000, 0, []⟩
        ∧ (tSeg .locked).faultHeld = none ∧ (tSeg .locked).line.tx = none ∧ (tSeg .locked).readUnwanted .entryRead = false)
      ∧ ((tTxSeg .poll false .sending (.entry tEntry)).line.tx = some (tTx .poll false)
        ∧ (tTxSeg .poll false .sending (.entry tEntry)).readUnwanted .chainLink = false)
      ∧ (let s := tSt (tSeg .stopping) (tSegAccess .s0 .unit .entryRead);
        ({ s with dev := { s.dev with disabling := true } } : State).serves .s0 .unit ⟨.entryRead, 0x1000, 0, []⟩)
      ∧ (tSeg .stopping).readUnwanted .entryRead = false ∧ (tSeg .locked).readUnwanted .respRecord = true
      ∧ (∀ answer, let g := { tTxSeg .poll answer .idle .none with faultHeld := some 0x1000, fault := .memoryFault };
        g.line.tx = some (tTx .poll answer) ∧ g.faultHeld = some 0x1000 ∧ g.unit = .none ∧ g.xact = .idle
          ∧ g.resp.quiet ∧ g.waits = ⟨none, g.waits.control, none, none, none⟩) := by
  refine ⟨?_, by decide +kernel, rfl, rfl, rfl, fun answer => ⟨rfl, rfl, rfl, rfl, ⟨rfl, rfl, rfl⟩, rfl⟩⟩
  unfold State.serves; decide +kernel

theorem witness_ProgressRecordWriteCompletes :
    (let g := { tSeg .locked with prBus := [⟨.segmentLocked, 1⟩] };
      (tSt g (tSegAccess .s0 .control .progress)).serves .s0 .control ⟨.progress, 0x1000, 0, []⟩ ∧ g.prFault = false
        ∧ g.stopWrite = false)
      ∧ (let g := { tSeg .stopping with stopWrite := true };
        (tSt g (tSegAccess .s0 .control .progress)).dev.state = .ready ∧ g.prFault = false ∧ g.prBus = []
          ∧ (tSt g).nw.lost = false ∧ (tSt g).nw.queue.length < 8)
      ∧ (let g := { tSeg .faulted with prFault := true, faultOwed := some 0x1000, fault := .memoryFault };
        g.prFault = true ∧ g.prBus = [] ∧ g.faultOwed = some 0x1000 ∧ g.stopOwed = false
          ∧ (tSt g).dev.state = .ready) := by
  unfold State.serves; decide

/-- A move to STOPPED that waits for the fault's record write, in READY and in a notice writer's fault; the STOPPED record in
such a fault; and an error on the record of a change, with no frame on the line and with one, and in STOPPING. -/
theorem witness_ProgressRecordWriteCompletes_ends :
    (let g := { tSeg .faulted with prFault := true, faultOwed := some 0x1000, stopOwed := true };
      (tSt g (tSegAccess .s0 .control .progress)).serves .s0 .control ⟨.progress, 0x1000, 0, []⟩ ∧ g.state = .faulted
        ∧ g.prFault = true ∧ g.prBus = [] ∧ g.faultOwed = some 0x1000 ∧ g.stopOwed = true ∧ (tSt g).dev.state = .ready
        ∧ (tSt g).nw.lost = false ∧ (tSt g).nw.queue.length < 8)
      ∧ ((tDev .faulted).dev.state = .faulted ∧ (tDev .faulted).dev.disableAsked = false)
      ∧ (let g := { tSeg .stopping with stopWrite := true };
        g.state = .stopping ∧ g.stopWrite = true ∧ g.prFault = false ∧ g.prBus = []
          ∧ ({ tDev .faulted with
                segs := (tSt g).segs, port := (tSt g (tSegAccess .s0 .control .progress)).port } : State).serves
              .s0 .control ⟨.progress, 0x1000, 0, []⟩)
      ∧ (let g := { tSeg .locked with prBus := [⟨.segmentLocked, 1⟩] };
        g.prFault = false ∧ g.state ≠ .stopped ∧ g.state ≠ .faulted ∧ g.faultHeld = none ∧ g.line.tx = none
          ∧ (tSt g).dev.state = .ready ∧ (tSt g).nw.lost = false ∧ (tSt g).nw.queue.length + g.prBus.length ≤ 8)
      ∧ (let g := tTxSeg .poll false .sending (.entry tEntry);
        g.line.tx = some (tTx .poll false) ∧ g.prFault = false ∧ g.faultHeld = none)
      ∧ (let g := { tSeg .stopping with stopWrite := true };
        g.prFault = false ∧ g.state ≠ .stopped ∧ g.state ≠ .faulted ∧ g.faultHeld = none) := by
  unfold State.serves; decide +kernel

def tReqSt (op : Op) (r : ReqUnit) (q : ReqEngine) : Segment × State :=
  let g := { tSeg .locked with unit := .request r, req := q, cycle := { Cycle.reset with state := .waiting } };
  (g, tSt g (tSegAccess .s0 .unit op))

/-- A record read FRESH; one no longer FRESH, of a first member and of a later one; the TAKEN write, the clear write, the
outcome write with a reply held and without, the state write; the end of a unit that ends its cycle; a pause, a resume in
LOCKED and outside it. -/
theorem witness_RequestAccessesFollow :
    (let p := tReqSt .takeRead (ReqUnit.begin 0x3000 false) { ReqEngine.reset with anchor := some 0x3100 };
      p.2.serves .s0 .unit ⟨.takeRead, 0x1000, 0, []⟩ ∧ p.1.unit = .request (ReqUnit.begin 0x3000 false)
        ∧ p.1.req.count = 0)
      ∧ (rdByte (List.replicate 14 0 ++ [1]) 0x0E = 1 ∧ rdByte (List.replicate 14 0 ++ [2]) 0x0E ≠ 1)
      ∧ (let p := tReqSt .takeRead (ReqUnit.begin 0x3000 false) { ReqEngine.reset with anchor := some 0x3100, count := 1 };
        p.2.serves .s0 .unit ⟨.takeRead, 0x1000, 0, []⟩ ∧ p.1.req.count ≠ 0)
      ∧ (let p := tReqSt .takenWrite tReq { ReqEngine.reset with anchor := some 0x3100 };
        p.2.serves .s0 .unit ⟨.takenWrite, 0x1000, 0, []⟩ ∧ p.1.unit = .request tReq ∧ p.1.req.anchor = some 0x3100)
      ∧ (let p := tReqSt .clearWrite { tReq with step := .clear } .reset;
        p.2.serves .s0 .unit ⟨.clearWrite, 0x1000, 0, []⟩ ∧ tReq.succ.reading = false)
      ∧ (let r := { tReq with outcome := some .ok };
        r.outcome = some .ok ∧ r.buf = none ∧ { r with buf := some .b0 }.buf = some .b0
          ∧ (tReqSt .outcomeWrite r .reset).2.serves .s0 .unit ⟨.outcomeWrite, 0x1000, 0, []⟩
          ∧ (tReqSt .stateWrite r .reset).2.serves .s0 .unit ⟨.stateWrite, 0x1000, 0, []⟩)
      ∧ (let g := (tReqSt .stateWrite tReq { ReqEngine.reset with anchor := some 0x3100, cand := some 0x3000 }).1;
        g.cycle.point = .notBegun ∧ g.stopWrite = false ∧ g.req.chain = .idle ∧ g.req.ready = false
          ∧ g.req.current = none ∧ g.req.anchor = some 0x3100 ∧ g.req.cand = some 0x3000)
      ∧ (let g := { tSeg .locked with
            cycle := { Cycle.reset with point := .inOpp, index := 1, expired := true },
            req := { ReqEngine.reset with anchor := some 0x3100 } };
        g.cycle.point = .inOpp ∧ g.state ≠ .stopping ∧ g.stopWrite = false
          ∧ g.blk.pollLength.toNat ≤ g.cycle.index + 1 ∧ g.cycle.expired = true ∧ g.req.chain = .idle)
      ∧ (let g := { tSeg .locked with cycle := { Cycle.reset with state := .paused } };
        g.cycle.state = .paused ∧ g.state = .locked ∧ g.faultHeld = none ∧ g.blk.pollLength ≠ 0)
      ∧ (let g := { tSeg .locked with
            cycle := { Cycle.reset with point := .inOpp }, req := { ReqEngine.reset with anchor := some 0x3100 } };
        g.cycle.point = .inOpp ∧ g.cycle.index + 1 < g.blk.pollLength.toNat ∧ g.state ≠ .stopping ∧ g.stopWrite = false
          ∧ g.req.chain = .idle ∧ g.req.anchor = some 0x3100
          ∧ g.blk.pollLength.toNat ≤ ({ g.cycle with index := 1 } : Cycle).index + 1 ∧ g.blk.period ≠ 0)
      ∧ (({ ReqEngine.reset with chain := .link } : ReqEngine).chain = .link ∧ ReqEngine.reset.anchor = none
        ∧ (tSeg .stopping).state = .stopping)
      ∧ (let d : List Byte := List.replicate 8 0 ++ [9, 5, 12, 4, 64];
        (parseReqRecord d).kind = some .mark ∧ (parseReqRecord d).hold = true ∧ (parseReqRecord d).notify = false
          ∧ (parseReqRecord d).heavy = true ∧ (parseReqRecord d).target = 12 ∧ (parseReqRecord (List.replicate 9 0)).kind = none)
      ∧ (tSeg .locked).cycle.state ≠ .paused ∧ (tSeg .acquiring).state ≠ .locked := by
  unfold State.serves; decide

/-- A resume in LOCKED with no poll entries, with a period and with none. -/
theorem witness_RequestAccessesFollow_noEntries :
    (let g := { tSeg .locked with
        run := some { tBlk with pollLength := 0 }, cycle := { Cycle.reset with state := .paused } };
      g.cycle.state = .paused ∧ g.state = .locked ∧ g.faultHeld = none ∧ g.blk.pollLength = 0 ∧ g.blk.period ≠ 0)
      ∧ ({ tBlk with pollLength := 0, period := 0 } : SegBlock).period = 0 := by decide

/-- A capture at each of its accesses; GOOD replies of one byte under 2 and of two under 1, and a DAMAGED one with a mark on
its data and with none. -/
theorem witness_CaptureMarkerDecides :
    (let e := { tEntry with buf := some .b0 };
      let g := { tSeg .locked with unit := .entry e, line := tTwo };
      (tSt g (tSegAccess .s0 .unit .capMarkerRead)).serves .s0 .unit ⟨.capMarkerRead, 0x1000, 0, []⟩
        ∧ (tSt g (tSegAccess .s0 .unit .capBody)).serves .s0 .unit ⟨.capBody, 0x1000, 0, []⟩
        ∧ (tSt g (tSegAccess .s0 .unit .capMarkerWrite)).serves .s0 .unit ⟨.capMarkerWrite, 0x1000, 0, []⟩
        ∧ g.unit = .entry e ∧ e.buf = some .b0 ∧ g.line.held .b0 = some ⟨[], true, []⟩)
      ∧ ((0 : Byte) = 0 ∧ (0 : Byte) = 0) ∧ ¬((0 : Byte) = 0 ∧ (1 : Byte) = 0)
      ∧ (let reply := fun (data : List Byte) (good : Bool) (marks : List Nat) =>
          (⟨buildFrame 20 9 0x04 data, good, marks⟩ : RxFrame);
        let short := reply [1] true [];
        let long := reply [1, 2] true [];
        let marked := reply [1, 2] false [7];
        let plain := reply [1, 2] false [];
        (short.good = true ∧ (lenOf short.chars).toNat < 2) ∧ (long.good = true ∧ 1 < (lenOf long.chars).toNat)
          ∧ (marked.good = false ∧ ∃ i, i < min (lenOf marked.chars).toNat 2 ∧ 6 + i ∈ marked.marks)
          ∧ (plain.good = false ∧ ¬∃ i, i < min (lenOf plain.chars).toNat 2 ∧ 6 + i ∈ plain.marks)) := by
  unfold State.serves
  refine ⟨by decide, by decide, by decide, by decide +kernel, by decide +kernel, ⟨rfl, 1, by decide +kernel⟩, rfl, ?_⟩
  rintro ⟨i, _, h⟩
  exact absurd h List.not_mem_nil

/-- Links 0, aligned and misaligned; the successor's state and the head's; a group's link and state; what is complete. -/
theorem witness_ChainAndGroupReadsDecide :
    ((tSt (tSeg .locked) (tSegAccess .s0 .chain .chainLink)).serves .s0 .chain ⟨.chainLink, 0x1000, 0, []⟩
        ∧ (tSeg .locked).req.more = false
        ∧ (let q := { ReqEngine.reset with chain := .link, more := true, anchor := some 0x3000 };
          q.more = true ∧ q.ready = false ∧ q.current = none ∧ q.anchor = some 0x3000)
        ∧ (tSeg .locked).stopWrite = false ∧ (tSeg .locked).faultHeld = none ∧ (tSeg .locked).line.tx = none
        ∧ ((0x10 : Word) ≠ 0 ∧ (0x10 : Word).toNat % 16 = 0) ∧ (0x0F : Word).toNat % 16 ≠ 0)
      ∧ (let g := { tSeg .locked with req := { ReqEngine.reset with chain := .state 0x3000 } };
        (tSt g (tSegAccess .s0 .chain .chainState)).serves .s0 .chain ⟨.chainState, 0x1000, 0, []⟩
          ∧ g.req.chain = .state 0x3000)
      ∧ (let g := { tSeg .locked with req := { ReqEngine.reset with chain := .exam } };
        (tSt g (tSegAccess .s0 .chain .headState)).serves .s0 .chain ⟨.headState, 0x1000, 0, []⟩ ∧ g.stopWrite = false
          ∧ g.req.ready = false ∧ g.req.current = none)
      ∧ (let r := { tReq with succ := .link };
        let p := tReqSt .groupLink r { ReqEngine.reset with count := 1, cond := .holding };
        p.2.serves .s0 .unit ⟨.groupLink, 0x1000, 0, []⟩ ∧ p.1.unit = .request r)
      ∧ (let r := { tReq with succ := .state 0x3100 };
        let p := tReqSt .groupState r { ReqEngine.reset with count := 1, cond := .holding };
        p.2.serves .s0 .unit ⟨.groupState, 0x1000, 0, []⟩ ∧ p.1.unit = .request r ∧ r.succ = .state 0x3100)
      ∧ (tReq.step = .serve ∧ tReq.succ.reading = false ∧ tReq.buf = none
        ∧ { tReq with succ := .link }.succ.reading = true ∧ { tReq with outcome := some .ok }.outcome = some .ok
        ∧ { tReq.body with kind := some .stationClear }.kind = some .stationClear)
      ∧ (let f : RxFrame := ⟨buildFrame 20 9 0x09 [7], false, []⟩;
        ({ tTwo with buf0 := some f } : Line).held .b0 = some f ∧ payloadOf f.chars = [7]
          ∧ payloadOf (buildFrame 20 9 0x01 []) = []) := by
  unfold State.serves; decide +kernel

/-- The first, the seventh and the eighth member taken, a group that a stop ends; each answer of the checks; a sweep that
waits; a frame that may begin and one that waits. -/
theorem witness_TakenRequestIsServed :
    (let p := tReqSt .takenWrite { tReq with step := .taken } .reset;
      p.2.serves .s0 .unit ⟨.takenWrite, 0x1000, 0, []⟩ ∧ p.1.req.anchor = none)
      ∧ (let p := tReqSt .linkSeen { tReq with step := .linkSeen } .reset;
        p.2.serves .s0 .unit ⟨.linkSeen, 0x1000, 0, []⟩)
      ∧ (let r := { tReq with body := { tReq.body with hold := true } };
        r.body.hold = true ∧ r.last = false ∧ { r with last := true }.last = true ∧ 6 + 1 < 8 ∧ 8 ≤ 7 + 1)
      ∧ ({ tReq with broken := true }.broken = true ∧ tReq.broken = false ∧ (tSeg .stopping).state = .stopping)
      ∧ (RequestFits tBlk { tReq.body with limit := 1, payLen := 64 } ∧ ¬RequestFits tBlk { tReq.body with limit := 5 }
        ∧ RequestFits tBlk { tReq.body with limit := 4, kind := some .pollOnce, payLen := 8, ackBit := 1 })
      ∧ (let g := { tSeg .locked with supply := { Supply.reset with auto := true } };
        { tReq.body with heavy := true }.heavy = true ∧ g.supply.auto = true)
      ∧ ((tSeg .locked).state = .locked ∧ (tSeg .stalled).state ≠ .locked ∧ (tSeg .locked).faultHeld = none)
      ∧ (let r := { tReq with body := { tReq.body with kind := some .supplySweep } };
        let g := { tSeg .acquiring with everLocked := true, unit := .request r };
        g.state = .acquiring ∧ g.line.idle = true ∧ g.everLocked = true ∧ g.unit = .request r ∧ g.xact = .idle
          ∧ r.step = .serve ∧ r.outcome = none ∧ g.supply.sweep = .idle)
      ∧ (let g := { tSeg .locked with unit := .request tReq, xact := .ready };
        g.xact = .ready ∧ g.line.tx = none ∧ g.resp.quiet ∧ tReq.body.kind = some .set ∧ g.line.tracker ≠ .free
          ∧ g.req.sent = false)
      ∧ (let q := { ReqEngine.reset with sent := true, count := 2, gap := .reached };
        q.sent = true ∧ q.lineHeld = true ∧ 2 ≤ q.count ∧ q.gap = .reached) := by
  refine ⟨?_, ?_, by decide, by decide, ⟨⟨.set, ?_⟩, ?_, ⟨.pollOnce, ?_⟩⟩, by decide, by decide, by decide,
    ⟨rfl, rfl, ⟨rfl, rfl, rfl⟩, rfl, by decide, rfl⟩, by decide⟩
  · unfold State.serves; decide
  · unfold State.serves; decide
  · unfold DeviceAddress; decide
  · rintro ⟨kind, -, -, h, -⟩; exact absurd h (by decide)
  · unfold DeviceAddress; decide

def tEntrySt (op : Op) (g : Segment) (e : EntryUnit) : State :=
  tSt { g with unit := .entry e } (tSegAccess .s0 .unit op)

/-- An entry read in STOPPING; FFH, the first index past the table, the last in it; a record with POLL_ENABLE clear, one
whose second range fails, one skipped as LOST, one polled in LOCKED, and one outside it; status bytes at their bounds. -/
theorem witness_PollEntryIsJudged :
    ((tEntrySt .entryRead (tSeg .stopping) EntryUnit.begin).serves .s0 .unit ⟨.entryRead, 0x1000, 0, []⟩
        ∧ (tSeg .locked).state ≠ .stopping ∧ (0xFF : Byte) = 0xFF ∧ (8 : Byte) ≠ 0xFF
        ∧ (tSeg .locked).blk.stationCount.toNat ≤ (8 : Byte).toNat
        ∧ (7 : Byte).toNat < (tSeg .locked).blk.stationCount.toNat)
      ∧ ((tEntrySt .stationRead (tSeg .locked) tEntry).serves .s0 .unit ⟨.stationRead, 0x1000, 0, []⟩
        ∧ (parseStationCfg (List.replicate 32 0)).pollEnable = false
        ∧ (parseStationCfg ([9, 1] ++ List.replicate 30 0)).pollEnable = true)
      ∧ (¬StationCfgMeets tBlk { tEntry.cfg with addr := 20 } 2 ∧ StationCfgMeets tBlk { tEntry.cfg with addr := 20 } 1
        ∧ (∀ n, StationCfgMeets tBlk tEntry.cfg n))
      ∧ (let w := { Status.cleared with miss := 3, state := .lost };
        w.state = .lost ∧ (6 : Word).toNat % tBlk.revisit.toNat ≠ 0 ∧ (8 : Word).toNat % tBlk.revisit.toNat = 0)
      ∧ ((tSeg .locked).supply.auto = false ∧ (tSeg .locked).state = .locked ∧ (tSeg .stalled).state ≠ .locked)
      ∧ (let d : List Byte := List.replicate 16 0 ++ [3, 1, 1, 2];
        (rdByte d 0x10).toNat ≤ 3 ∧ (rdByte d 0x12).toNat ≤ 1)
      ∧ (let d : List Byte := List.replicate 16 0 ++ [4]; 3 < (rdByte d 0x10).toNat)
      ∧ (let d : List Byte := List.replicate 16 0 ++ [0, 0, 2]; 1 < (rdByte d 0x12).toNat ∧ rdByte d 0x12 ≠ 0xFF) := by
  refine ⟨?_, ?_, ⟨fun h => absurd h.1 (by decide), show 1 ≤ (20 : Byte).toNat ∧ (20 : Byte).toNat ≤ 125 by decide, ?_⟩,
    by decide, by decide, by decide, by decide, by decide⟩
  · unfold State.serves; decide
  · unfold State.serves; decide
  · intro n; unfold StationCfgMeets; split <;> trivial

/-- The urgent read of a POLL and of a SET, one whose answer is decided; the accesses of a filing; the turn taken, a turn
of a SET and of a POLL; a write-back and a filing access that are due, and the urgent read that is owed. -/
theorem witness_InboundFramesAreFiled :
    (let p := { tPend .poll .undecided with read := .live };
      let g := tRespSeg p [];
      (tSt g (tSegAccess .s0 .urgent .respRecord)).serves .s0 .urgent ⟨.respRecord, 0x1000, 0, []⟩
        ∧ g.resp.pend = some p ∧ p.read = .live ∧ p.ans = .undecided ∧ p.kind = .poll)
      ∧ (let p := { tPend .set .undecided with read := .live };
        let h : Hand := ⟨.b0, .set, .none, 1, .reading⟩;
        let g := tRespSeg p [h];
        (tSt g (tSegAccess .s0 .urgent .inbMarkerUrgent)).serves .s0 .urgent ⟨.inbMarkerUrgent, 0x1000, 0, []⟩
          ∧ g.resp.pend = some p ∧ p.kind ≠ .poll
          ∧ g.resp.hands.find? (fun h => h.stage == .reading) = some h)
      ∧ (∀ p, (tRespSeg (tPend .set .nak) []).resp.pend = some p → ¬(p.read = .live ∧ p.ans = .undecided))
      ∧ ((tSt (tSeg .locked) (tSegAccess .s0 .responder .inbMarkerRead)).serves .s0 .responder
          ⟨.inbMarkerRead, 0x1000, 0, []⟩
        ∧ (tSt (tSeg .locked) (tSegAccess .s0 .responder .inbBody)).serves .s0 .responder ⟨.inbBody, 0x1000, 0, []⟩
        ∧ [(⟨.b0, .pollSeen, .none, 1, .markerOut⟩ : Hand)].find? (fun h => h.stage == .markerOut) ≠ none
        ∧ [(⟨.b0, .pollSeen, .none, 1, .bodyOut⟩ : Hand)].find? (fun h => h.stage == .bodyOut) ≠ none)
      ∧ (∃ h ∈ [(⟨.b0, .set, .none, 1, .cleared⟩ : Hand)], h.stage = .cleared)
      ∧ ((∃ h ∈ [(⟨.b0, .set, .none, 1, .wantRead⟩ : Hand)], h.stage = .wantRead)
        ∧ ∃ h ∈ [(⟨.b1, .pollSeen, .none, 1, .queued⟩ : Hand)], h.stage = .queued)
      ∧ (let g := { tRespSeg { tPend .poll .undecided with read := .owed } [⟨.b0, .pollSeen, .none, 1, .markerDue⟩] with
            waits := Waits.empty };
        g.waits.responder = none ∧ g.waits.urgent = none ∧ g.faultHeld = none
          ∧ (∀ b, (tSt g).port.busy = some b → b.req ≠ .segment .s0 .responder)
          ∧ ({ g with resp := { g.resp with due := [.filing] } } : Segment).resp.due = .filing :: []
          ∧ (g.resp.hands.find? (fun h => h.stage == .markerDue || h.stage == .bodyDue || h.stage == .markDue)).isSome
              = true) := by
  refine ⟨?_, ?_, ?_, ?_, ⟨_, List.mem_singleton_self _, rfl⟩,
    ⟨⟨_, List.mem_singleton_self _, rfl⟩, _, List.mem_singleton_self _, rfl⟩,
    ⟨rfl, rfl, rfl, fun b h => absurd (show none = some b from h) nofun, rfl, rfl⟩⟩
  · unfold State.serves; decide
  · unfold State.serves; decide
  · rintro p h; cases h; decide
  · unfold State.serves; decide

/-- The third miss of a station with threshold 3, and a REPLY of a LOST one. -/
theorem witness_StatusWriteEndsEntry :
    (let e := { tEntry with outcome := some .noReply, st := { Status.cleared with miss := 2, state := .suspect } };
      (tSt { tSeg .locked with unit := .entry e } (tSegAccess .s0 .unit .statusWrite)).serves .s0 .unit
          ⟨.statusWrite, 0x1000, 0, []⟩
        ∧ e.outcome = some .noReply ∧ (e.newStatus .noReply 6).state = .lost ∧ e.st.state ≠ .lost)
      ∧ (let e := { tEntry with outcome := some .replied, st := { Status.cleared with miss := 4, state := .lost } };
        (e.newStatus .replied 12).state = .active ∧ e.st.state = .lost) := by
  unfold State.serves; decide

/-! ## Witnesses: what is due, fields -/

theorem tSeg_quiet (st : SegState) : (tSeg st).resp.quiet := ⟨rfl, rfl, rfl⟩

theorem witness_NothingDueStaysAsGiven :
    ((tSeg .acquiring).calm ∧ (tSt (tSeg .acquiring)).settled)
      ∧ (let s := tSt (tWait { Waits.empty with unit := some (tAcc .entryRead []) });
        let u : State := { s with port := { s.port with waited := [.segment .s0 .unit] } };
        Requester.segment .s0 .unit ∈ u.port.waited ∧ (u.segs.get .s0).waits.access .unit ≠ none
          ∧ (tSeg .faulted).waits.access .unit = none)
      ∧ (let g := tSeg .stopping;
        g.stopWrite = false ∧ g.unit = .none ∧ g.xact = .idle ∧ g.resp.quiet ∧ g.waits.unit = none ∧ g.line.tx = none
          ∧ ∀ b src, (tSt g).port.busy = some b → b.req ≠ .segment .s0 src)
      ∧ (∃ b src, (tSt (tSeg .stopping) (tSegAccess .s0 .unit .capBody)).port.busy = some b ∧ b.req = .segment .s0 src)
      ∧ (let g := { tSeg .locked with unit := .entry tEntry, xact := .lostAnswer };
        g.faultHeld = none ∧ g.xact = .lostAnswer ∧ g.unit ≠ .none ∧ g.resp.pend = none)
      ∧ (let g := { tSeg .locked with
            unit := .request tReq, xact := .lostAnswer,
            resp := { Responder.reset with pend := some (tPend .poll .undecided) } };
        g.unit = .request tReq ∧ g.resp.pend = some (tPend .poll .undecided)) :=
  ⟨⟨tSeg_calm .acquiring nofun nofun, rfl⟩, by decide, ⟨rfl, rfl, rfl, tSeg_quiet .stopping, rfl, rfl,
      fun b _ h => absurd (show none = some b from h) nofun⟩,
    ⟨⟨.segment .s0 .unit, ⟨.capBody, 0x1000, 0, []⟩, false⟩, .unit, rfl, rfl⟩, ⟨rfl, rfl, nofun, rfl⟩, rfl, rfl⟩

theorem witness_FramesBeginWhenDue :
    (let g := { tSeg .locked with xact := .ready, unit := .entry tEntry };
      g.state = .locked ∧ g.unit = .entry tEntry ∧ g.xact = .ready ∧ g.line.tx = none ∧ g.resp.quiet
        ∧ g.line.tracker ≠ .free)
      ∧ ({ Line.reset with tracker := .free } : Line).tracker = .free
      ∧ (let p := { tPend .poll (.reply tResp) with turn := true };
        p.turn = true ∧ p.begun = false ∧ p.ans = .reply tResp) :=
  ⟨⟨rfl, rfl, rfl, rfl, tSeg_quiet .locked, by decide⟩, rfl, rfl, rfl, rfl⟩

/-- The last entry but one and the last of a list of two, a ready request, a held begin, an empty list with period 0 and
with another, and its opportunity. -/
theorem witness_SequencerBeginsNextUnit :
    ((tSeg .locked).state = .locked ∧ (tSeg .locked).unit = .none ∧ (tSeg .locked).resp.quiet)
      ∧ (let c := { Cycle.reset with point := .entryDue }; c.state = .running ∧ c.point = .entryDue ∧ c.held = false)
      ∧ (let c := { Cycle.reset with point := .oppDue, index := 0 };
        c.point = .oppDue ∧ c.pause = .none ∧ c.index + 1 < tBlk.pollLength.toNat)
      ∧ (let c := { Cycle.reset with point := .oppDue, index := 1 };
        tBlk.pollLength.toNat ≤ c.index + 1 ∧ c.expired = false ∧ tBlk.period ≠ 0)
      ∧ (let c := { Cycle.reset with point := .oppDue, index := 1, expired := true };
        tBlk.pollLength.toNat ≤ c.index + 1 ∧ c.expired = true ∧ tBlk.pollLength ≠ 0)
      ∧ (let q := { ReqEngine.reset with ready := true, cand := some 0x3000 }; q.ready = true ∧ q.cand = some 0x3000)
      ∧ (let c := { Cycle.reset with state := .waiting }; c.state = .waiting ∧ c.expired = false)
      ∧ (let c := { Cycle.reset with held := true }; c.held = true ∧ c.point = .notBegun ∧ tBlk.pollLength ≠ 0)
      ∧ (let c := { Cycle.reset with point := .oppDue, pause := .running }; c.point = .oppDue ∧ c.pause ≠ .none)
      ∧ (({ tBlk with pollLength := 0, period := 0 } : SegBlock).period = 0
        ∧ ({ tBlk with pollLength := 0 } : SegBlock).pollLength = 0 ∧ tBlk.period ≠ 0 ∧ ReqEngine.reset.ready = false)
      ∧ (let c := { Cycle.reset with point := .oppOpen }; c.state = .running ∧ c.point = .oppOpen ∧ c.held = false) :=
  ⟨⟨rfl, rfl, tSeg_quiet .locked⟩, by decide, by decide, by decide, by decide, by decide, by decide, by decide, by decide,
    by decide, by decide⟩

/-- Miss counts at 0, at 1, one below the threshold and at it. -/
theorem witness_HealthFollowsMissCount :
    (let w := (tEntry.newStatus .replied 1); w.miss = 0 ∧ w.miss.toNat < tEntry.cfg.threshold.toNat ∧ w.heard = true)
      ∧ (let w := (tEntry.newStatus .collision 1); w.miss = 0 ∧ w.heard = false)
      ∧ (let w := (tEntry.newStatus .noReply 1); 1 ≤ w.miss.toNat ∧ w.miss.toNat < tEntry.cfg.threshold.toNat)
      ∧ (let w := ({ tEntry with st := { Status.cleared with miss := 2 } }.newStatus .noReply 1);
        tEntry.cfg.threshold.toNat ≤ w.miss.toNat) := by decide

theorem witness_DuplicateRepeatsLastSeq :
    (let e := { tEntry with cfg := { tEntry.cfg with expectSeq := true }, st := { Status.cleared with lastSeq := some true } };
      let f : RxFrame := ⟨buildFrame 20 9 0x09 [], true, []⟩;
      srcOf f.chars = e.cfg.addr ∧ kindOf f.chars = some .reply ∧ f.good = true ∧ e.cfg.expectSeq = true
        ∧ e.st.lastSeq = some true ∧ seqOf f.chars = true ∧ e.judge (some f) = .duplicate
        ∧ { tSeg .locked with unit := .entry e }.line.freeBuf ≠ none)
      ∧ ¬(tEntry.cfg.expectSeq = true) := by decide +kernel

/-- The largest addresses and the longest payload. -/
theorem witness_BuiltFrameIsReceivedGood :
    (127 : Byte).toNat ≤ 127 ∧ (List.replicate 64 (0xFF : Byte)).length ≤ 64
      ∧ (tAsm (buildFrame 127 127 (ctrlByte .announce true true) [0xFF, 0x00])).cls = .good := by
  decide +kernel

end Sys2Proof.Tests
end

/-! SUPPORT. How a unit of work is ended: the status write of a poll entry, the outcome write of a request, and the end
of an attempt of either, each as the value it gives the segment unit. -/

namespace Sys2Proof.Machine

/-! ## The status write of a poll entry (R60, R76) -/

/-- An outcome other than REPLIED draws the status write at once. -/
theorem Segment.decideEntry_status (g : Segment) (e : EntryUnit) {o : Ending} (p : Pause) (ho : o ≠ .replied) :
    g.decideEntry e o p = { g with
      xact := .idle, unit := .entry { e with step := .status, outcome := some o },
      cycle := { g.cycle with pause := if e.pauseAfter = 0 ∨ g.state = .stopping then .none else p },
      waits := { g.waits with unit := some (.write .statusWrite (e.recAddr + 16)
        ((e.newStatus o g.cycle.number).bytes o.code)) } } := by
  unfold Segment.decideEntry
  rw [if_neg ho]; rfl

/-- REPLIED draws the capture's marker read. -/
theorem Segment.decideEntry_replied (g : Segment) (e : EntryUnit) (p : Pause) :
    g.decideEntry e .replied p = { g with
      xact := .idle, unit := .entry { e with step := .capMarker, outcome := some .replied },
      cycle := { g.cycle with pause := if e.pauseAfter = 0 ∨ g.state = .stopping then .none else p },
      waits := { g.waits with
        unit := some ⟨.capMarkerRead, g.blk.capBase + BitVec.ofNat 32 (80 * g.cap.next), 2, []⟩ } } :=
  rfl

/-- No pause-after is measured where none is due to be. -/
theorem Segment.decideEntry_noPause (g : Segment) (e : EntryUnit) {o : Ending} (ho : o ≠ .replied) :
    g.decideEntry e o .none = { g with
      xact := .idle, unit := .entry { e with step := .status, outcome := some o },
      cycle := { g.cycle with pause := .none },
      waits := { g.waits with unit := some (.write .statusWrite (e.recAddr + 16)
        ((e.newStatus o g.cycle.number).bytes o.code)) } } := by
  rw [Segment.decideEntry_status g e .none ho, ite_self]

/-! ## The outcome write of a request (R112, R126) -/

/-- A successor read that has ended, or none, is not being read. -/
theorem Succ.reading_eq_false {x : Succ} (h : x = .none ∨ x = .fresh ∨ x = .unmet) : x.reading = false := by
  rcases h with rfl | rfl | rfl <;> rfl

/-- The endings that break a held group, as the statements list them. -/
theorem Ending.breaks_iff (o : Ending) :
    o.breaks = true ↔ o = .framingLost ∨ o = .lineStall ∨ o = .lineLost ∨ o = .collision := by
  cases o <;> simp [Ending.breaks]

theorem ReqEngine.breakGroup_eq (q : ReqEngine) :
    q.breakGroup = { q with cond := if q.cond = .holding then .breaking else q.cond } := by
  unfold ReqEngine.breakGroup; split <;> rfl

/-- What the ending of a request does to the group it holds. -/
theorem ReqEngine.breakGroup_if (q : ReqEngine) (o : Ending) :
    (if o.breaks then q.breakGroup else q) = { q with
      cond := if (o = .framingLost ∨ o = .lineStall ∨ o = .lineLost ∨ o = .collision) ∧ q.cond = .holding then .breaking
        else q.cond } := by
  rw [ReqEngine.breakGroup_eq]
  by_cases hb : o.breaks = true
  · simp only [hb, (Ending.breaks_iff o).mp hb, true_and, if_true]
  · rw [if_neg hb, if_neg fun h => hb ((Ending.breaks_iff o).mpr h.1)]

/-- The outcome write of a request that keeps no reply (R113): its bytes begin at 90H. -/
def ReqUnit.outcomeWrite (r : ReqUnit) (o : Ending) (used : Nat) (cycle : Word) : Access :=
  ⟨.outcomeWrite, r.addr + 0x90, 0,
    placeAt (r.addr + 0x90) [o.code, BitVec.ofNat 8 used, 0, if r.holdUnmet then 4 else 0]
      ++ placeAt (r.addr + 0x98) (wrWord cycle ++ wrWord r.result)⟩

theorem outcomeBytes_none (r : ReqUnit) (o : Ending) (cycle : Word) :
    outcomeBytes r o none cycle = (r.outcomeWrite o r.used cycle).bytes := by
  unfold outcomeBytes replyFlags ReqUnit.outcomeWrite
  cases r.holdUnmet <;> rfl

/-- A decided request whose group reads no successor draws its outcome write. -/
theorem Segment.tryComplete_outcome (g : Segment) {r : ReqUnit} {o : Ending} (hs : r.step = .serve)
    (hr : r.succ.reading = false) (hb : r.buf = none) (ho : r.outcome = some o) :
    g.tryComplete r = { g with
      unit := .request { r with step := .outcome, doneCycle := g.cycle.number },
      waits := { g.waits with unit := some (r.outcomeWrite o r.used g.cycle.number) } } := by
  have hn : g.replyOf r = none := by unfold Segment.replyOf; rw [hb]; rfl
  unfold Segment.tryComplete
  rw [if_pos ⟨hs, hr⟩]
  simp only [ho, hn, outcomeBytes_none]
  rfl

/-- A request whose successor is still being read waits for that read (R124). -/
theorem Segment.tryComplete_reading (g : Segment) {r : ReqUnit} (hr : r.succ.reading = true) :
    g.tryComplete r = { g with unit := .request r } := by
  unfold Segment.tryComplete
  rw [if_neg (by simp [hr])]; rfl

theorem Segment.decideReq_outcome {g : Segment} {r : ReqUnit} {o : Ending} (hs : r.step = .serve)
    (hr : r.succ.reading = false) (hb : r.buf = none) :
    g.decideReq r o = { g with
      xact := .idle,
      req := { g.req with
        cond := if (o = .framingLost ∨ o = .lineStall ∨ o = .lineLost ∨ o = .collision) ∧ g.req.cond = .holding
          then .breaking else g.req.cond },
      unit := .request { r with outcome := some o, step := .outcome, doneCycle := g.cycle.number },
      waits := { g.waits with unit := some (r.outcomeWrite o r.used g.cycle.number) } } := by
  unfold Segment.decideReq
  rw [ReqEngine.breakGroup_if]
  exact Segment.tryComplete_outcome (r := { r with outcome := some o }) _ hs hr hb rfl

theorem Segment.decideReq_reading {g : Segment} {r : ReqUnit} {o : Ending} (hr : r.succ.reading = true) :
    g.decideReq r o = { g with
      xact := .idle,
      req := { g.req with
        cond := if (o = .framingLost ∨ o = .lineStall ∨ o = .lineLost ∨ o = .collision) ∧ g.req.cond = .holding
          then .breaking else g.req.cond },
      unit := .request { r with outcome := some o } } := by
  unfold Segment.decideReq
  rw [ReqEngine.breakGroup_if]
  exact Segment.tryComplete_reading (r := { r with outcome := some o }) _ hr

/-! ## The end of a unit and of an attempt (R74, R111) -/

theorem Segment.finishUnit_entry {g : Segment} {e : EntryUnit} {o : Ending} {p : Pause} (h : g.unit = .entry e) :
    g.finishUnit o p = g.decideEntry e o p := by
  unfold Segment.finishUnit; rw [h]

theorem Segment.finishUnit_request {g : Segment} {r : ReqUnit} {o : Ending} {p : Pause} (h : g.unit = .request r) :
    g.finishUnit o p = g.decideReq r o := by
  unfold Segment.finishUnit; rw [h]

theorem Segment.attemptEnds_entry {g : Segment} {e : EntryUnit} {o : Ending} {p : Pause} (h : g.unit = .entry e) :
    g.attemptEnds o p = g.decideEntry { e with used := e.used + 1 } o p := by
  unfold Segment.attemptEnds; rw [h]

theorem Segment.attemptEnds_request {g : Segment} {r : ReqUnit} {o : Ending} {p : Pause} (h : g.unit = .request r) :
    g.attemptEnds o p = g.decideReq { r with used := r.used + 1 } o := by
  unfold Segment.attemptEnds; rw [h]

/-- With attempts left the POLL is made ready again. -/
theorem Segment.attemptFails_entry {g : Segment} {e : EntryUnit} {o : Ending} {p : Pause} (h : g.unit = .entry e)
    (hl : g.cycle.attempt < e.cfg.retry.toNat + 1) :
    g.attemptFails o p = { g with
      unit := .entry { e with used := e.used + 1 }, xact := .ready,
      cycle := { g.cycle with attempt := g.cycle.attempt + 1 } } := by
  unfold Segment.attemptFails; rw [h]; exact if_pos hl

theorem Segment.attemptFails_entryLast {g : Segment} {e : EntryUnit} {o : Ending} {p : Pause} (h : g.unit = .entry e)
    (hl : ¬g.cycle.attempt < e.cfg.retry.toNat + 1) :
    g.attemptFails o p = g.decideEntry { e with used := e.used + 1 } o p := by
  rw [← Segment.attemptEnds_entry h]
  unfold Segment.attemptFails; rw [h]; exact if_neg hl

/-- With attempts left the frame of the request is made ready again. -/
theorem Segment.attemptFails_request {g : Segment} {r : ReqUnit} {o : Ending} {p : Pause} (h : g.unit = .request r)
    (hl : r.attempt < r.body.limit.toNat) :
    g.attemptFails o p = { g with
      unit := .request { r with used := r.used + 1, attempt := r.attempt + 1 }, xact := .ready } := by
  unfold Segment.attemptFails; rw [h]; exact if_pos hl

theorem Segment.attemptFails_requestLast {g : Segment} {r : ReqUnit} {o : Ending} {p : Pause} (h : g.unit = .request r)
    (hl : ¬r.attempt < r.body.limit.toNat) :
    g.attemptFails o p = g.decideReq { r with used := r.used + 1 } o := by
  rw [← Segment.attemptEnds_request h]
  unfold Segment.attemptFails; rw [h]; exact if_neg hl

/-- The exchange of a request ends here: its hold gap is measured (R14). -/
theorem Segment.exchangeOver_request {g : Segment} {r : ReqUnit} (h : g.unit = .request r) :
    g.exchangeOver = { g with req := { g.req with gap := .measuring } } := by
  unfold Segment.exchangeOver; rw [h]; rfl

theorem Segment.exchangeOver_entry {g : Segment} {e : EntryUnit} (h : g.unit = .entry e) : g.exchangeOver = g := by
  unfold Segment.exchangeOver; rw [h]; rfl

/-! ## Events of one segment unit -/

/-- A command that is an event of a segment unit alone gives it the value its operation answers. -/
theorem exec_after {c : Instr} {s : State} {k : Seg} {f : Segment → Segment} {g h : Segment}
    (hc : exec c s = s.segEvent k f) (hg : s.segs.get k = g) (hf : f g = h) :
    exec c s = .next (s.afterEvent k h []) := by
  subst hg; rw [hc, State.segEvent_after hf]

end Sys2Proof.Machine

/-! Line times: the frame gap, the reservation, the hold gap, the turnaround and the pause-after. -/

namespace Sys2Proof.Machine

theorem Segment.receiverOn_iff (g : Segment) : g.receiverOn = true ↔ g.state ≠ .stopped ∧ g.state ≠ .faulted := by
  simp [Segment.receiverOn]

theorem Segment.receiverOn_off {g : Segment} (h : g.state = .stopped ∨ g.state = .faulted) : g.receiverOn = false := by
  rcases h with h | h <;> simp [Segment.receiverOn, h]

/-! ## Each line time, where it is waited for and where it is not -/

theorem Segment.frameGap_frees {g : Segment} (hr : g.receiverOn = true) (ht : g.line.tracker = .busy)
    (hi : g.line.idle = true) : g.frameGap = { g with line := { g.line with tracker := .free } } :=
  if_pos ⟨hr, ht, hi⟩

theorem Segment.frameGap_none {g : Segment} (h : g.line.tracker ≠ .busy ∨ g.line.idle = false) : g.frameGap = g := by
  refine if_neg ?_
  rintro ⟨-, ht, hi⟩
  rcases h with h | h
  · exact h ht
  · simp [h] at hi

theorem Segment.reservationExpiry_frees {g : Segment} (ht : g.line.tracker = .reserved) (hi : g.line.idle = true) :
    g.reservationExpiry = { g with line := { g.line with tracker := .free } } := if_pos ⟨ht, hi⟩

theorem Segment.reservationExpiry_none {g : Segment} (h : g.line.tracker ≠ .reserved ∨ g.line.idle = false) :
    g.reservationExpiry = g := by
  refine if_neg ?_
  rintro ⟨ht, hi⟩
  rcases h with h | h
  · exact h ht
  · simp [h] at hi

theorem Segment.holdGap_reached {g : Segment} (h : g.req.gap = .measuring) :
    g.holdGap = { g with req := { g.req with gap := .reached } } := if_pos h

theorem Segment.holdGap_none {g : Segment} (h : g.req.gap ≠ .measuring) : g.holdGap = g := if_neg h

theorem Segment.turnaround_pend {g : Segment} {p : Pend} (h : g.resp.pend = some p) :
    g.turnaround = { g with resp := { g.resp with pend := some { p with turn := true } } } := by
  unfold Segment.turnaround; rw [h]; rfl

theorem Segment.turnaround_none {g : Segment} (h : g.resp.pend = none) : g.turnaround = g := by
  unfold Segment.turnaround; rw [h]

theorem Segment.pauseEnd_running {g : Segment} (h : g.cycle.pause = .running) :
    g.pauseEnd = { g with cycle := { g.cycle with pause := .none } } := if_pos h

theorem Segment.pauseEnd_none {g : Segment} (h : g.cycle.pause ≠ .running) : g.pauseEnd = g := if_neg h

/-- Settles O29: each line time by the case of its operation. -/
theorem lineTimesAreReached : Obligations.LineTimesAreReached := by
  intro s k g hg
  refine ⟨fun h1 h2 h3 h4 => ?_, fun h => ?_, fun h1 h2 => ?_, fun h => ?_, fun h => ?_, fun h => ?_, fun p h => ?_,
    fun h => ?_, fun h => ?_, fun h => ?_⟩
  · exact exec_after rfl hg (Segment.frameGap_frees ((Segment.receiverOn_iff g).mpr ⟨h1, h2⟩) h3 h4)
  · exact exec_after rfl hg (Segment.frameGap_none h)
  · exact exec_after rfl hg (Segment.reservationExpiry_frees h1 h2)
  · exact exec_after rfl hg (Segment.reservationExpiry_none h)
  · exact exec_after rfl hg (Segment.holdGap_reached h)
  · exact exec_after rfl hg (Segment.holdGap_none h)
  · exact exec_after rfl hg (Segment.turnaround_pend h)
  · exact exec_after rfl hg (Segment.turnaround_none h)
  · exact exec_after rfl hg (Segment.pauseEnd_running h)
  · exact exec_after rfl hg (Segment.pauseEnd_none h)

end Sys2Proof.Machine

/-! Start bits, and the ends of the part's own frames: the frame sent in full, the frame cut by an arbitration loss or a
collision, and the awaited answer that does not come. -/

namespace Sys2Proof.Machine

/-! ## Start bits (R12, R14, R15, R130) -/

theorem Segment.startBit_own {g : Segment} (hr : g.receiverOn = true) (ht : g.line.tx ≠ none) :
    g.startBit = { g with line := { g.line with tracker := .busy, idle := false } } := by
  unfold Segment.startBit
  rw [if_pos hr]
  exact if_pos (Option.ne_none_iff_isSome.mp ht)

/-- A start bit of another device, in terms of what becomes of the owed answer. -/
theorem Segment.startBit_foreign {g a : Segment} (hr : g.receiverOn = true) (ht : g.line.tx = none)
    (ha : Segment.abandonAnswer { g with line := { g.line with tracker := .busy, idle := false } } = a) :
    g.startBit = { a with
      xact := if g.xact = .waiting then .started else g.xact,
      req := { a.req with
        lineHeld := if g.req.gap = .measuring ∨ g.req.gap = .reached then false else a.req.lineHeld } } := by
  subst ha
  have hn : ¬g.line.tx.isSome = true := by simp [ht]
  unfold Segment.startBit
  rw [if_pos hr]
  refine (if_neg hn).trans ?_
  by_cases hg : g.req.gap = .measuring ∨ g.req.gap = .reached
  · simp only [hg, if_true]; rfl
  · simp only [hg, if_false]; rfl

theorem Segment.startBit_off {g : Segment} (h : g.state = .stopped ∨ g.state = .faulted) : g.startBit = g := by
  unfold Segment.startBit
  rw [if_neg (by simp [Segment.receiverOn_off h])]

/-- An owed answer not begun, with no write-back owed, is gone after a start bit of another device. -/
theorem Segment.startBit_noAnswer {g : Segment} {p : Pend} (hr : g.receiverOn = true) (ht : g.line.tx = none)
    (hp : g.resp.pend = some p) (hb : p.begun = false) (hw : g.resp.owesNoWrite)
    (ha : ∀ a, g.waits.responder = some a → a.op ≠ .writeBack) : g.startBit.noAnswer := by
  have hab : Segment.abandonAnswer { g with line := { g.line with tracker := .busy, idle := false } }
      = Segment.answerOver { g with line := { g.line with tracker := .busy, idle := false } } false := by
    unfold Segment.abandonAnswer
    simp [hp, hb]
  rw [Segment.startBit_foreign hr ht hab]
  refine (Segment.answerOver_noAnswer false rfl ?_ ?_ ?_).1
  · exact hw
  · exact ha
  · intro x hx
    simp [ht] at hx

/-- Settles O30: the value a start bit gives, by whose it is, and what the epilogue leaves of an abandoned answer. -/
theorem startBitTakesLine : Obligations.StartBitTakesLine := by
  refine ⟨fun s k g hg => ⟨fun h1 h2 ht => ?_, fun l w h1 h2 ht hu => ?_, fun h => ?_⟩,
    fun s k g p hg h1 h2 ht hp hb hw ha => ?_⟩
  · exact exec_after rfl hg (Segment.startBit_own ((Segment.receiverOn_iff g).mpr ⟨h1, h2⟩) ht)
  · exact exec_after rfl hg (Segment.startBit_foreign ((Segment.receiverOn_iff g).mpr ⟨h1, h2⟩) ht
      (Segment.abandonAnswer_givesUp hu))
  · exact exec_after rfl hg (Segment.startBit_off h)
  · have hno := Segment.startBit_noAnswer ((Segment.receiverOn_iff g).mpr ⟨h1, h2⟩) ht hp hb hw ha
    obtain ⟨hpend, howes, hwait, htx⟩ := (Work.finish_noAnswer (w := s.workWith k g.startBit []) hno).1
    refine ⟨_, exec_after rfl hg rfl, ?_⟩
    rw [State.afterEvent_seg]
    exact ⟨hpend, htx, howes, hwait⟩

/-! ## Leaving the line (R3, R11, R16, R17) -/

/-- The line when the part leaves it at position pos of frame t. -/
def Line.left (l : Line) (t : Tx) (pos : Nat) (start : Bool) : Line :=
  { l with tx := none, asm := some (assembleOwn t.chars pos), idle := if start then true else l.idle }

theorem Segment.leaveLine_eq (g : Segment) (t : Tx) (pos : Nat) (start : Bool) :
    g.leaveLine t pos start = { g with line := g.line.left t pos start } := by
  unfold Segment.leaveLine Line.left
  cases start <;> simp

theorem Segment.arbitrationLoss_work {g : Segment} {t : Tx} (ht : g.line.tx = some t) (ha : t.answer = false) (pos : Nat)
    (start : Bool) :
    g.arbitrationLoss pos start = Segment.workLost { g with
      line := g.line.left t pos start, counters := { g.counters with arbLosses := g.counters.arbLosses + 1 } } := by
  unfold Segment.arbitrationLoss
  simp only [ht, ha, Segment.leaveLine_eq]; rfl

theorem Segment.arbitrationLoss_answer {g : Segment} {t : Tx} (ht : g.line.tx = some t) (ha : t.answer = true) (pos : Nat)
    (start : Bool) :
    g.arbitrationLoss pos start = Segment.answerOver { g with
      line := g.line.left t pos start, counters := { g.counters with arbLosses := g.counters.arbLosses + 1 } } false := by
  unfold Segment.arbitrationLoss
  simp only [ht, ha, Segment.leaveLine_eq]; rfl

theorem Segment.collision_work {g : Segment} {t : Tx} (ht : g.line.tx = some t) (ha : t.answer = false) (pos : Nat)
    (start : Bool) :
    g.collision pos start = Segment.workCollided { g with line := g.line.left t pos start } := by
  unfold Segment.collision
  simp only [ht, ha, Segment.leaveLine_eq]; rfl

theorem Segment.collision_answer {g : Segment} {t : Tx} (ht : g.line.tx = some t) (ha : t.answer = true) (pos : Nat)
    (start : Bool) :
    g.collision pos start = Segment.answerOver { g with line := g.line.left t pos start } false := by
  unfold Segment.collision
  simp only [ht, ha, Segment.leaveLine_eq]; rfl

/-! ## A work frame lost (R16, R75, R111) -/

theorem Segment.countLoss_entry {g : Segment} {e : EntryUnit} (hu : g.unit = .entry e) :
    g.countLoss = { g with cycle := { g.cycle with losses := g.cycle.losses + 1 } } := by
  unfold Segment.countLoss; rw [hu]

theorem Segment.countLoss_request {g : Segment} {r : ReqUnit} (hu : g.unit = .request r) :
    g.countLoss = { g with req := { g.req with losses := g.req.losses + 1, lineHeld := false } } := by
  unfold Segment.countLoss; rw [hu]

/-- A frame that is not driven for an ended unit is pending again, until a loss beyond the retry limit. -/
theorem Segment.workLost_sending {g : Segment} (hx : g.xact = .sending) :
    g.workLost = { g.countLoss with
      xact := if g.countLoss.lossCount ≤ g.blk.arbLimit.toNat then .ready else .lostReport } := by
  have hb : g.countLoss.blk = g.blk := by unfold Segment.countLoss; split <;> rfl
  unfold Segment.workLost
  simp only [hx, hb]
  by_cases h : g.countLoss.lossCount ≤ g.blk.arbLimit.toNat
  · rw [if_neg (Nat.not_lt.mpr h), if_pos h]
  · rw [if_pos (Nat.lt_of_not_le h), if_neg h]

theorem Segment.workLost_sendingEntry {g : Segment} {e : EntryUnit} (hx : g.xact = .sending) (hu : g.unit = .entry e) :
    g.workLost = { g with
      cycle := { g.cycle with losses := g.cycle.losses + 1 },
      xact := if g.cycle.losses + 1 ≤ g.blk.arbLimit.toNat then .ready else .lostReport } := by
  rw [Segment.workLost_sending hx, Segment.countLoss_entry hu]
  simp only [Segment.lossCount, hu]

theorem Segment.workLost_sendingRequest {g : Segment} {r : ReqUnit} (hx : g.xact = .sending) (hu : g.unit = .request r) :
    g.workLost = { g with
      req := { g.req with losses := g.req.losses + 1, lineHeld := false },
      xact := if g.req.losses + 1 ≤ g.blk.arbLimit.toNat then .ready else .lostReport } := by
  rw [Segment.workLost_sending hx, Segment.countLoss_request hu]
  simp only [Segment.lossCount, hu]

theorem Segment.workLost_ending {g : Segment} {o : Ending} (hx : g.xact = .ending o) :
    g.workLost = g.countLoss.finishUnit o .none := by
  unfold Segment.workLost; rw [hx]

theorem Segment.workLost_endingEntry {g : Segment} {e : EntryUnit} {o : Ending} (hx : g.xact = .ending o)
    (hu : g.unit = .entry e) :
    g.workLost = Segment.decideEntry { g with cycle := { g.cycle with losses := g.cycle.losses + 1 } } e o .none := by
  rw [Segment.workLost_ending hx, Segment.countLoss_entry hu]
  exact Segment.finishUnit_entry hu

theorem Segment.workLost_endingRequest {g : Segment} {r : ReqUnit} {o : Ending} (hx : g.xact = .ending o)
    (hu : g.unit = .request r) :
    g.workLost
      = Segment.decideReq { g with req := { g.req with losses := g.req.losses + 1, lineHeld := false } } r o := by
  rw [Segment.workLost_ending hx, Segment.countLoss_request hu]
  exact Segment.finishUnit_request (p := .none) hu

/-- Settles O31: the loss of a work frame, by the transaction and the unit it is driven for. -/
theorem arbitrationLossCounts : Obligations.ArbitrationLossCounts := by
  intro s k g tx pos start l hg ht ha hl
  subst hl
  have hloss := Segment.arbitrationLoss_work ht ha pos start
  refine ⟨fun e hx hu => ?_, fun r hx hu => ?_, fun e o hx hu ho => ?_,
    fun r o q hx hu hs hb hq => ⟨fun hr => ?_, fun hr => ?_⟩⟩
  · exact exec_after rfl hg (hloss.trans (Segment.workLost_sendingEntry hx hu))
  · exact exec_after rfl hg (hloss.trans (Segment.workLost_sendingRequest hx hu))
  · refine exec_after rfl hg (hloss.trans (Eq.trans (Segment.workLost_endingEntry hx hu) ?_))
    rw [Segment.decideEntry_noPause _ _ ho]
    rfl
  · subst hq
    refine exec_after rfl hg (hloss.trans (Eq.trans (Segment.workLost_endingRequest hx hu) ?_))
    rw [Segment.decideReq_outcome hs hr hb]
    rfl
  · subst hq
    refine exec_after rfl hg (hloss.trans (Eq.trans (Segment.workLost_endingRequest hx hu) ?_))
    rw [Segment.decideReq_reading hr]
    rfl

/-! ## A work frame that met a collision (R17) -/

theorem Segment.workCollided_endingEntry {g : Segment} {e : EntryUnit} {o : Ending} (hx : g.xact = .ending o)
    (hu : g.unit = .entry e) : g.workCollided = g.decideEntry e o .none := by
  rw [← Segment.finishUnit_entry hu]
  unfold Segment.workCollided; rw [hx]

theorem Segment.workCollided_endingRequest {g : Segment} {r : ReqUnit} {o : Ending} (hx : g.xact = .ending o)
    (hu : g.unit = .request r) : g.workCollided = g.decideReq r o := by
  rw [← Segment.finishUnit_request (p := .none) hu]
  unfold Segment.workCollided; rw [hx]

theorem Segment.workCollided_entry {g : Segment} {e : EntryUnit} (hx : g.xact = .sending) (hu : g.unit = .entry e) :
    g.workCollided = g.attemptFails .collision .awaiting := by
  unfold Segment.workCollided; rw [hx, hu]; rfl

theorem Segment.workCollided_request {g : Segment} {r : ReqUnit} (hx : g.xact = .sending) (hu : g.unit = .request r) :
    g.workCollided = Segment.attemptFails { g with req := { g.req with gap := .afterReport } } .collision .awaiting := by
  unfold Segment.workCollided; rw [hx, hu]; rfl

/-- Settles O32: the collision of a work frame, by the transaction, the unit and the attempts left. -/
theorem collisionFailsAttempt : Obligations.CollisionFailsAttempt := by
  intro s k g tx pos start l hg ht ha hl
  subst hl
  have hcut := Segment.collision_work ht ha pos start
  refine ⟨fun e hx hu hm => ?_, fun e hx hu hm => ?_, fun r hx hu hm => ?_, fun r hx hu hm hs hb hr => ?_,
    fun e o hx hu ho => ?_, fun r o q hx hu hs hb hq => ⟨fun hr => ?_, fun hr => ?_⟩⟩
  · refine exec_after rfl hg (hcut.trans (Eq.trans (Segment.workCollided_entry hx hu) ?_))
    exact Segment.attemptFails_entry hu hm
  · refine exec_after rfl hg (hcut.trans (Eq.trans (Segment.workCollided_entry hx hu) ?_))
    refine Eq.trans (Segment.attemptFails_entryLast hu hm) ?_
    rw [Segment.decideEntry_status _ _ _ (by decide)]
    rfl
  · refine exec_after rfl hg (hcut.trans (Eq.trans (Segment.workCollided_request hx hu) ?_))
    exact Segment.attemptFails_request hu hm
  · refine exec_after rfl hg (hcut.trans (Eq.trans (Segment.workCollided_request hx hu) ?_))
    refine Eq.trans (Segment.attemptFails_requestLast hu hm) ?_
    refine Eq.trans (Segment.decideReq_outcome hs (Succ.reading_eq_false hr) hb) ?_
    simp only [or_true, true_and]
    rfl
  · refine exec_after rfl hg (hcut.trans (Eq.trans (Segment.workCollided_endingEntry hx hu) ?_))
    rw [Segment.decideEntry_noPause _ _ ho]
    rfl
  · subst hq
    refine exec_after rfl hg (hcut.trans (Eq.trans (Segment.workCollided_endingRequest hx hu) ?_))
    rw [Segment.decideReq_outcome hs hr hb]
    rfl
  · subst hq
    refine exec_after rfl hg (hcut.trans (Eq.trans (Segment.workCollided_endingRequest hx hu) ?_))
    rw [Segment.decideReq_reading hr]
    rfl

/-! ## A frame sent in full (R12, R13, R15) -/

theorem FrameKind.reserves_iff (k : FrameKind) : k.reserves = true ↔ k = .poll ∨ k = .set ∨ k = .notice := by
  cases k <;> simp [FrameKind.reserves]

/-- The line at the end of a frame of kind k. -/
def Line.sent (l : Line) (k : FrameKind) : Line :=
  { l with tx := none, idle := true,
           tracker := if k = .poll ∨ k = .set ∨ k = .notice then .reserved else l.tracker }

theorem Segment.transmitEnd_work {g : Segment} {t : Tx} (ht : g.line.tx = some t) (ha : t.answer = false) :
    g.transmitEnd = Segment.workSent { g with line := g.line.sent t.kind } t := by
  unfold Segment.transmitEnd Line.sent
  simp only [ht, ha, FrameKind.reserves_iff]; rfl

theorem Segment.transmitEnd_answer {g : Segment} {t : Tx} (ht : g.line.tx = some t) (ha : t.answer = true) :
    g.transmitEnd = (Segment.answerOver { g with line := g.line.sent t.kind } true).lostPause := by
  unfold Segment.transmitEnd Line.sent
  simp only [ht, ha, FrameKind.reserves_iff]; rfl

theorem Segment.transmitEnd_none {g : Segment} (ht : g.line.tx = none) : g.transmitEnd = g := by
  unfold Segment.transmitEnd; rw [ht]

theorem Line.sent_other (l : Line) {k : FrameKind} (h : ¬(k = .poll ∨ k = .set ∨ k = .notice)) :
    l.sent k = { l with tx := none, idle := true } := by
  unfold Line.sent; rw [if_neg h]

theorem Line.sent_reserves (l : Line) {k : FrameKind} (h : k = .poll ∨ k = .set ∨ k = .notice) :
    l.sent k = { l with tx := none, idle := true, tracker := .reserved } := by
  unfold Line.sent; rw [if_pos h]

theorem Segment.workSent_awaits {g : Segment} {t : Tx} (hx : g.xact = .sending) (hk : t.kind ≠ .announce) :
    g.workSent t = { g with xact := .waiting } := by
  unfold Segment.workSent; rw [hx]; exact if_neg hk

/-- The end of an ANNOUNCE ends the exchange of its request, and the request. -/
theorem Segment.workSent_announce {g : Segment} {t : Tx} {r : ReqUnit} (hx : g.xact = .sending) (hk : t.kind = .announce)
    (hu : g.unit = .request r) :
    g.workSent t
      = Segment.decideReq { g with req := { g.req with gap := .measuring } } { r with used := r.used + 1 } .ok := by
  unfold Segment.workSent
  rw [hx]
  refine (if_pos hk).trans ?_
  rw [Segment.exchangeOver_request hu]
  exact Segment.attemptEnds_request hu

theorem Segment.workSent_endingEntry {g : Segment} {t : Tx} {e : EntryUnit} {o : Ending} (hx : g.xact = .ending o)
    (hu : g.unit = .entry e) : g.workSent t = g.decideEntry e o .none := by
  rw [← Segment.finishUnit_entry hu]
  unfold Segment.workSent; rw [hx]

theorem Segment.workSent_endingRequest {g : Segment} {t : Tx} {r : ReqUnit} {o : Ending} (hx : g.xact = .ending o)
    (hu : g.unit = .request r) : g.workSent t = g.decideReq r o := by
  rw [← Segment.finishUnit_request (p := .none) hu]
  unfold Segment.workSent; rw [hx]

/-- Settles O34: the end of a work frame, by its kind and by what its unit waits for. -/
theorem transmitEndAwaitsAnswer : Obligations.TransmitEndAwaitsAnswer := by
  intro s k g hg
  refine ⟨fun tx ht ha hk hx => ?_, fun tx r ht ha hk hx hu hs hb hr => ?_, fun tx o l ht ha hx ho hl =>
    ⟨fun e hu => ?_, fun r hu hs hb hr => ?_⟩, fun ht => ?_⟩
  · have hn : tx.kind ≠ .announce := by rcases hk with h | h <;> simp [h]
    refine exec_after rfl hg ((Segment.transmitEnd_work ht ha).trans (Eq.trans (Segment.workSent_awaits hx hn) ?_))
    rw [Line.sent_reserves g.line (by tauto)]
  · refine exec_after rfl hg ((Segment.transmitEnd_work ht ha).trans (Eq.trans (Segment.workSent_announce hx hk hu) ?_))
    rw [Line.sent_other g.line (by simp [hk])]
    refine Eq.trans (Segment.decideReq_outcome hs (Succ.reading_eq_false hr) hb) ?_
    simp only [reduceCtorEq, or_false, false_and, if_false]
    rfl
  · subst hl
    refine exec_after rfl hg ((Segment.transmitEnd_work ht ha).trans (Eq.trans (Segment.workSent_endingEntry hx hu) ?_))
    rw [Segment.decideEntry_noPause _ _ ho]
    rfl
  · subst hl
    refine exec_after rfl hg ((Segment.transmitEnd_work ht ha).trans (Eq.trans (Segment.workSent_endingRequest hx hu) ?_))
    rw [Segment.decideReq_outcome hs (Succ.reading_eq_false hr) hb]
    rfl
  · exact exec_after rfl hg (Segment.transmitEnd_none ht)

/-! ## The expiry of W and the deadline R (R15, R131, R133) -/

theorem Segment.noReply_waiting {g : Segment} (h : g.xact = .waiting) :
    g.noReply = g.exchangeOver.attemptFails .noReply .running := if_pos h

theorem Segment.noReply_none {g : Segment} (h : g.xact ≠ .waiting) : g.noReply = g := if_neg h

theorem Segment.deadline_poll {g : Segment} {p : Pend} (hp : g.resp.pend = some p) (ha : p.ans = .undecided)
    (hk : p.kind = .poll) :
    g.deadline = { g with resp := { g.resp with pend := some { p with ans := .nak, read := .none } } } := by
  unfold Segment.deadline; simp only [hp]; rw [if_pos ha]; exact if_pos hk

theorem Segment.deadline_filed {g : Segment} {p : Pend} (hp : g.resp.pend = some p) (ha : p.ans = .undecided)
    (hk : p.kind ≠ .poll) :
    g.deadline = { g with
      counters := { g.counters with inbDrops := g.counters.inbDrops + 1 },
      resp := { g.resp with
        pend := some { p with ans := .nak, read := .none },
        hands := updFirst (fun h => h.stage == .wantRead || h.stage == .reading)
          (fun h => { h with stage := .refused }) g.resp.hands } } := by
  unfold Segment.deadline; simp only [hp]; rw [if_pos ha]; exact if_neg hk

theorem Segment.deadline_none {g : Segment}
    (h : g.resp.pend = none ∨ ∃ p, g.resp.pend = some p ∧ p.ans ≠ .undecided) : g.deadline = g := by
  unfold Segment.deadline
  rcases h with h | ⟨p, h, ha⟩
  · rw [h]
  · simp only [h]; exact if_neg ha

/-- Settles O35: the expiry of W, by the unit and the attempts left; the deadline R, by the pending answer. -/
theorem waitsExpire : Obligations.WaitsExpire := by
  refine ⟨fun s k g hg => ⟨fun e hx hu hm => ?_, fun e hx hu hm => ?_, fun r hx hu hm => ?_,
    fun r hx hu hm hs hb hr => ?_, fun hx => ?_⟩,
    fun s k g hg => ⟨fun p hp ha hk => ?_, fun p hp ha hk => ?_, fun h => ?_⟩⟩
  · refine exec_after rfl hg ((Segment.noReply_waiting hx).trans ?_)
    rw [Segment.exchangeOver_entry hu]
    exact Segment.attemptFails_entry hu hm
  · refine exec_after rfl hg ((Segment.noReply_waiting hx).trans ?_)
    rw [Segment.exchangeOver_entry hu, Segment.attemptFails_entryLast hu hm,
      Segment.decideEntry_status _ _ _ (by decide)]
    rfl
  · refine exec_after rfl hg ((Segment.noReply_waiting hx).trans ?_)
    rw [Segment.exchangeOver_request hu]
    exact Segment.attemptFails_request hu hm
  · refine exec_after rfl hg ((Segment.noReply_waiting hx).trans ?_)
    rw [Segment.exchangeOver_request hu]
    refine Eq.trans (Segment.attemptFails_requestLast hu hm) ?_
    refine Eq.trans (Segment.decideReq_outcome hs (Succ.reading_eq_false hr) hb) ?_
    simp only [reduceCtorEq, or_false, false_and, if_false]
    rfl
  · exact exec_after rfl hg (Segment.noReply_none hx)
  · exact exec_after rfl hg (Segment.deadline_poll hp ha hk)
  · exact exec_after rfl hg (Segment.deadline_filed hp ha hk)
  · exact exec_after rfl hg (Segment.deadline_none h)

end Sys2Proof.Machine

/-! Answers cut and answers sent in full (R16, R17, R130, R132, R134, R137). -/

namespace Sys2Proof.Machine

/-! ## What the end of an answer leaves of its frame -/

/-- A frame in no buffer, or whose hand waits for no answer, leaves nothing to do. -/
theorem Segment.answerOver_noHand {g : Segment} {p : Pend} {sent : Bool} (hp : g.resp.pend = some p)
    (hn : ∀ b, p.buf = some b → g.resp.hands.find? (Hand.owes b) = none) :
    g.answerOver sent = { g with
      resp := { g.resp with pend := none, due := g.resp.due ++ p.ans.writeBack sent } } := by
  unfold Segment.answerOver
  simp only [hp]
  cases hb : p.buf with
  | none => rfl
  | some b => simp only [hn b hb]

/-- Under LOG_POLLS a POLL waits for its filing turn (R137). -/
theorem Segment.answerOver_logged {g : Segment} {p : Pend} {b : Buf} {h : Hand} {sent : Bool} (hp : g.resp.pend = some p)
    (hb : p.buf = some b) (hf : g.resp.hands.find? (Hand.owes b) = some h) (hs : h.stage = .answering)
    (hl : g.blk.logPolls = true) (hi : g.blk.inbSlots ≠ 0) :
    g.answerOver sent = { g with
      resp := { g.resp with
        pend := none, due := g.resp.due ++ p.ans.writeBack sent,
        hands := updFirst (Hand.owes b) (fun x => { x with stage := .queued, given := p.ans.given sent })
          g.resp.hands } } := by
  unfold Segment.answerOver
  simp only [hp, hb, hf]
  exact if_pos ⟨hs, hl, hi⟩

/-- An acknowledged SET or NOTICE is filed: its body write is next (R134). -/
theorem Segment.answerOver_filed {g : Segment} {p : Pend} {b : Buf} {h : Hand} (hp : g.resp.pend = some p)
    (hb : p.buf = some b) (hf : g.resp.hands.find? (Hand.owes b) = some h) (hs : h.stage = .cleared) :
    g.answerOver true = { g with
      resp := { g.resp with
        pend := none, due := g.resp.due ++ p.ans.writeBack true ++ [.filing],
        hands := updFirst (Hand.owes b) (fun x => { x with stage := .bodyDue, given := .ack }) g.resp.hands } } := by
  unfold Segment.answerOver
  simp only [hp, hb, hf]
  refine (if_neg fun c => ?_).trans (if_pos ⟨hs, trivial⟩)
  rw [hs] at c
  cases c.1

/-- Any other frame answered leaves its buffer free (R21). -/
theorem Segment.answerOver_released {g : Segment} {p : Pend} {b : Buf} {h : Hand} {sent : Bool} (hp : g.resp.pend = some p)
    (hb : p.buf = some b) (hf : g.resp.hands.find? (Hand.owes b) = some h) (hs : h.stage ≠ .cleared)
    (hl : ¬(h.stage = .answering ∧ g.blk.logPolls = true ∧ g.blk.inbSlots ≠ 0)) :
    g.answerOver sent = { g with
      line := g.line.release b,
      resp := { g.resp with
        pend := none, due := g.resp.due ++ p.ans.writeBack sent,
        hands := dropFirst (Hand.owes b) g.resp.hands } } := by
  unfold Segment.answerOver
  simp only [hp, hb, hf]
  exact (if_neg hl).trans (if_neg fun c => hs c.1)

/-- What a REPLY that ends makes due first is its write-back; the accesses that wait stay as they are. -/
theorem Segment.answerOver_reply {g : Segment} {p : Pend} {r : RespRecord} (hp : g.resp.pend = some p)
    (ha : p.ans = .reply r) (hd : g.resp.due = []) :
    (g.answerOver true).resp.pend = none ∧ (g.answerOver true).waits = g.waits
      ∧ ∃ rest, (g.answerOver true).resp.due = .writeBack ⟨r.addr, r.count + 1, r.oneShot⟩ :: rest := by
  unfold Segment.answerOver
  simp only [hp, ha, hd]
  repeat' split
  all_goals exact ⟨rfl, rfl, _, rfl⟩

/-! ## The pause-after of a lost entry (R77) -/

/-- The pause-after once an owed answer has ended: it runs from here for an entry that ends LINE_LOST. -/
def Segment.pauseAfterAnswer (g : Segment) : Pause :=
  match g.unit with
  | .entry _ => if g.xact = .lostAnswer then .running else g.cycle.pause
  | .request _ => g.cycle.pause
  | .none => g.cycle.pause

theorem Segment.lostPause_eq (g : Segment) :
    g.lostPause = { g with cycle := { g.cycle with pause := g.pauseAfterAnswer } } := by
  obtain ⟨⟩ := g
  rename_i unit xact _ _
  unfold Segment.lostPause Segment.pauseAfterAnswer
  cases unit with
  | none => rfl
  | request r => rfl
  | entry e => by_cases hx : xact = .lostAnswer <;> simp [hx]

/-! ## The write-back is issued by the epilogue (R132, R152) -/

/-- The filing turn adds at the end of what is due, and leaves the waiting accesses alone. -/
theorem Segment.filingTurn_noPend {g : Segment} (hp : g.resp.pend = none) :
    g.filingTurn.resp.pend = none ∧ g.filingTurn.waits = g.waits
      ∧ ∃ rest, g.filingTurn.resp.due = g.resp.due ++ rest := by
  unfold Segment.filingTurn
  split
  · exact ⟨hp, rfl, [], (List.append_nil _).symm⟩
  · split
    · have hs : (g.stageFirst (Hand.atStage .wantRead) .reading).resp.pend = none := hp
      dsimp only
      rw [hs]
      exact ⟨hp, rfl, [], (List.append_nil _).symm⟩
    · split
      · exact ⟨hp, rfl, [.filing], rfl⟩
      · exact ⟨hp, rfl, [], (List.append_nil _).symm⟩

/-- With no answer pending and its source free, the responder issues the write-back that is due first. -/
theorem Work.respDue_writeBack {w : Work} {wb : WriteBack} {rest : List NormalDue} (hp : w.seg.resp.pend = none)
    (hd : w.seg.resp.due = .writeBack wb :: rest) (hw : w.seg.waits.responder = none)
    (hb : w.busSource ≠ some .responder) :
    w.respDue.seg.resp.pend = none ∧ w.respDue.seg.waits.responder = some wb.access := by
  obtain ⟨h1, h2, tl, h3⟩ := Segment.filingTurn_noPend hp
  have hn : (w.on Segment.filingTurn).respNormal = (w.on Segment.filingTurn).on Segment.issueDue := by
    unfold Work.respNormal
    rw [if_neg]
    rintro (h | h)
    · simp [h2, hw] at h
    · exact hb h
  have hi : w.seg.filingTurn.issueDue.resp.pend = none ∧ w.seg.filingTurn.issueDue.waits.responder = some wb.access := by
    unfold Segment.issueDue
    rw [h3, hd]
    exact ⟨h1, rfl⟩
  unfold Work.respDue Work.respUrgent
  rw [hn]
  simp only [Work.on_seg, hi.1]
  exact ⟨trivial, hi.2⟩

/-- With no answer pending a frame that begins is a work frame; no access is issued for it. -/
theorem Segment.tryBegin_noPend {g : Segment} (hp : g.resp.pend = none) :
    g.tryBegin.resp = g.resp ∧ g.tryBegin.waits = g.waits := by
  have hb : g.beginAnswer = g := by unfold Segment.beginAnswer; rw [hp]
  unfold Segment.tryBegin Segment.beginWork
  simp only [hb]
  repeat' split
  all_goals exact ⟨rfl, rfl⟩

theorem Work.stopCheck_responder (w : Work) :
    w.stopCheck.seg.resp = w.seg.resp ∧ w.stopCheck.seg.waits.responder = w.seg.waits.responder := by
  unfold Work.stopCheck
  split <;> exact ⟨rfl, rfl⟩

/-- The epilogue of an event that leaves a write-back due first, its source free, issues it. -/
theorem Work.finish_writeBack {w : Work} {wb : WriteBack} {rest : List NormalDue} (hf : w.seg.faultHeld = none)
    (hl : w.seg.live = true) (hp : w.seg.resp.pend = none) (hd : w.seg.resp.due = .writeBack wb :: rest)
    (hw : w.seg.waits.responder = none) (hb : w.busSource ≠ some .responder) :
    w.finish.seg.resp.pend = none ∧ w.finish.seg.waits.responder = some wb.access := by
  have hk := (Segment.kick_side w.seg.lostDue).trans (Segment.lostDue_side w.seg)
  simp only [Segment.side, Prod.mk.injEq] at hk
  obtain ⟨hkr, -, hkw, -⟩ := hk
  have hr := Work.respDue_writeBack (w := w.on fun s => s.lostDue.kick) (wb := wb) (rest := rest)
    (by simp [hkr, hp]) (by simp [hkr, hd]) (by simp [hkw, hw]) hb
  obtain ⟨ht1, ht2⟩ := Segment.tryBegin_noPend hr.1
  unfold Work.finish
  dsimp only
  rw [Work.heldFault_none hf, if_pos hl]
  obtain ⟨hs1, hs2⟩ := Work.stopCheck_responder ((w.on fun s => s.lostDue.kick).respDue.on Segment.tryBegin)
  rw [hs1, hs2, Work.on_seg, ht1, ht2]
  exact hr

/-! ## The obligation -/

/-- An answer that is cut, with no write-back owed, is gone after the epilogue, and the counters stay as the cut left
them. -/
theorem State.afterEvent_cutAnswer (s : State) (k : Seg) {g : Segment} (hw : g.resp.owesNoWrite)
    (ha : ∀ a, g.waits.responder = some a → a.op ≠ .writeBack) (ht : g.line.tx = none) :
    ((s.afterEvent k (g.answerOver false) []).segs.get k).noAnswer
      ∧ ((s.afterEvent k (g.answerOver false) []).segs.get k).counters = g.counters := by
  have ho := Segment.answerOver_noAnswer (g := g) false rfl hw ha fun x hx => by simp [ht] at hx
  have hf := Work.finish_noAnswer (w := s.workWith k (g.answerOver false) []) ho.1
  rw [State.afterEvent_seg]
  exact ⟨hf.1, hf.2.trans ho.2⟩

/-- The end of a REPLY leaves its write-back due first. -/
theorem Segment.transmitEnd_reply {g : Segment} {t : Tx} {p : Pend} {r : RespRecord} (ht : g.line.tx = some t)
    (ha : t.answer = true) (hk : t.kind = .reply) (hp : g.resp.pend = some p) (hans : p.ans = .reply r)
    (hd : g.resp.due = []) :
    g.transmitEnd.resp.pend = none ∧ g.transmitEnd.waits = g.waits ∧ g.transmitEnd.ctl = g.ctl
      ∧ ∃ rest, g.transmitEnd.resp.due = .writeBack ⟨r.addr, r.count + 1, r.oneShot⟩ :: rest := by
  have hend := Segment.transmitEnd_answer ht ha
  rw [Line.sent_other g.line (by simp [hk]), Segment.lostPause_eq] at hend
  obtain ⟨hpend, hwait, rest, hdue⟩ := Segment.answerOver_reply
    (g := { g with line := { g.line with tx := none, idle := true } }) hp hans hd
  have hctl := Segment.answerOver_ctl { g with line := { g.line with tx := none, idle := true } } true
  rw [hend]
  exact ⟨hpend, hwait, hctl, rest, hdue⟩

/-- No access of the segment's responder is on the bus. -/
theorem State.workWith_busSource {s : State} {k : Seg} {g : Segment} {ns : List Notice}
    (h : ∀ b, s.port.busy = some b → b.req ≠ .segment k .responder) :
    (s.workWith k g ns).busSource ≠ some .responder := by
  intro hbus
  unfold Work.busSource at hbus
  split at hbus
  · rename_i k' src acc disc heq
    split at hbus
    · rename_i hk'
      cases hbus
      exact h _ heq (by rw [hk']; rfl)
    · cases hbus
  · cases hbus

theorem Ans.writeBack_sent (a : Ans) :
    a.writeBack true = (match a with
      | .reply r => [.writeBack ⟨r.addr, r.count + 1, r.oneShot⟩]
      | .undecided => []
      | .ack => []
      | .nak => []) := by cases a <;> rfl

/-- Settles O33: the cut answer through the epilogue and as a value, the write-back of a REPLY through the epilogue, and
the value that the end of an answer gives by what becomes of its frame. -/
theorem answerEndsOrIsCut : Obligations.AnswerEndsOrIsCut := by
  refine ⟨fun s k g tx pos start hg ht ha hw hr => ⟨?_, ?_⟩, fun s k g tx p pos start l w hg ht ha hp hab => ⟨?_, ?_⟩,
    fun s k g tx p r hg ht ha hk hp hans h1 h2 hf hw hd hb => ?_,
    fun s k g tx p l c wb hg ht ha hk hp hl hc hwb => ?_⟩
  · obtain ⟨⟨hpend, -, hwait, htx⟩, hcount⟩ := State.afterEvent_cutAnswer s k
      (g := { g with line := g.line.left tx pos start,
                     counters := { g.counters with arbLosses := g.counters.arbLosses + 1 } }) hw hr rfl
    exact ⟨_, exec_after rfl hg (Segment.arbitrationLoss_answer ht ha pos start), hpend, htx,
      congrArg Counters.arbLosses hcount, hwait⟩
  · obtain ⟨⟨hpend, -, hwait, htx⟩, hcount⟩ := State.afterEvent_cutAnswer s k
      (g := { g with line := g.line.left tx pos start }) hw hr rfl
    exact ⟨_, exec_after rfl hg (Segment.collision_answer ht ha pos start), hpend, htx,
      congrArg Counters.arbLosses hcount, hwait⟩
  · refine exec_after rfl hg ((Segment.arbitrationLoss_answer ht ha pos start).trans ?_)
    exact Segment.answerOver_abandons
      (g := { g with counters := { g.counters with arbLosses := g.counters.arbLosses + 1 } }) hp hab
  · exact exec_after rfl hg ((Segment.collision_answer ht ha pos start).trans (Segment.answerOver_abandons hp hab))
  · obtain ⟨hpend, hwait, hctl, rest, hdue⟩ := Segment.transmitEnd_reply ht ha hk hp hans hd
    simp only [Segment.ctl, Prod.mk.injEq] at hctl
    obtain ⟨hst, -, hfh, -⟩ := hctl
    refine ⟨_, exec_after rfl hg rfl, ?_⟩
    rw [State.afterEvent_seg]
    refine Work.finish_writeBack (w := s.workWith k g.transmitEnd []) ?_ ?_ hpend hdue ?_
      (State.workWith_busSource fun b hbus => hb b hbus)
    · exact hfh.trans hf
    · simp [Segment.live, hst, hfh, h1, h2, hf]
    · exact (congrArg Waits.responder hwait).trans hw
  · have hend := Segment.transmitEnd_answer ht ha
    rw [Line.sent_other g.line (by rcases hk with h | h | h <;> simp [h])] at hend
    have hwb' : wb = p.ans.writeBack true := hwb.trans p.ans.writeBack_sent.symm
    subst hl hc hwb'
    refine ⟨fun hn => ?_, fun b h hb hfind => ⟨fun hs hlog hin => ?_, fun hs => ?_, fun hs hlog => ?_⟩⟩
    · refine exec_after rfl hg (hend.trans (Eq.trans (congrArg _ (Segment.answerOver_noHand hp hn)) ?_))
      exact Segment.lostPause_eq _
    · refine exec_after rfl hg (hend.trans (Eq.trans (congrArg _ (Segment.answerOver_logged hp hb hfind hs hlog hin)) ?_))
      refine (Segment.lostPause_eq _).trans ?_
      cases p.ans <;> rfl
    · refine exec_after rfl hg (hend.trans (Eq.trans (congrArg _ (Segment.answerOver_filed hp hb hfind hs)) ?_))
      exact Segment.lostPause_eq _
    · refine exec_after rfl hg (hend.trans
        (Eq.trans (congrArg _ (Segment.answerOver_released hp hb hfind hs hlog)) ?_))
      exact Segment.lostPause_eq _

end Sys2Proof.Machine

/-! SUPPORT. The report of a frame, step by step: the line, the segment controller, the hand-over, and what waited for
the report. -/

namespace Sys2Proof.Machine

/-! ## The line once a frame is reported (R12) -/

theorem kindOf_reserves (cs : List Byte) :
    (kindOf cs).any FrameKind.reserves = true
      ↔ kindOf cs = some .poll ∨ kindOf cs = some .set ∨ kindOf cs = some .notice := by
  cases kindOf cs <;> simp [FrameKind.reserves_iff]

theorem Line.frameEnd_reported (l : Line) (a : Assembly) :
    Line.frameEnd { l with asm := none } a.cls a.chars = l.reported a := by
  unfold Line.frameEnd Line.reported
  simp only [kindOf_reserves]
  split <;> rfl

/-! ## What waits for a report (R14, R75, R77) -/

/-- The values that say what waits for a report. -/
def Segment.awaited (g : Segment) : Gap × Pause × Xact := (g.req.gap, g.cycle.pause, g.xact)

theorem Segment.awaitsNoReport_congr {g v : Segment} (h : v.awaited = g.awaited) (ha : g.awaitsNoReport) :
    v.awaitsNoReport := by
  simp only [Segment.awaited, Prod.mk.injEq] at h
  obtain ⟨hg, hp, hx⟩ := h
  unfold Segment.awaitsNoReport
  rw [hg, hp, hx]
  exact ha

theorem Segment.addressed_iff (g : Segment) (a : Assembly) :
    g.addressed a = true ↔ (a.cls = .good ∨ a.cls = .damaged) ∧ g.blk.ownIndex (destOf a.chars) ≠ none := by
  simp [Segment.addressed, Option.isSome_iff_ne_none]

/-- The pause-after once a report has come that may be that of a winner's frame. -/
def Segment.pauseAfterReport (g : Segment) : Pause :=
  if g.cycle.pause = .awaiting then .running
  else match g.unit with
    | .entry _ => if g.xact = .lostReport then .running else g.cycle.pause
    | .request _ => g.cycle.pause
    | .none => g.cycle.pause

theorem Segment.afterReport_eq (g : Segment) (a : Assembly) :
    g.afterReport a = { g with
      req := { g.req with
        gap := if g.req.gap = .afterReport then .measuring else g.req.gap,
        lineHeld := if g.req.gap = .afterReport ∧ (a.cls = .good ∨ a.cls = .damaged)
            ∧ g.blk.ownIndex (destOf a.chars) ≠ none then false else g.req.lineHeld },
      cycle := { g.cycle with pause := g.pauseAfterReport },
      xact := if g.xact = .lostReport then .lostAnswer else g.xact } := by
  unfold Segment.afterReport Segment.afterCollision
  simp only [Segment.addressed_iff]
  unfold Segment.winnerReported Segment.pauseAfterReport
  by_cases hx : g.xact = .lostReport
  · refine (if_pos hx).trans ((Segment.lostPause_eq _).trans ?_)
    unfold Segment.pauseAfterAnswer
    cases g.unit <;> by_cases hp : g.cycle.pause = .awaiting <;> simp [hx, hp]
  · refine (if_neg hx).trans ?_
    cases g.unit <;> by_cases hp : g.cycle.pause = .awaiting <;> simp [hx, hp]

/-- Where nothing waits for the report, it leaves nothing to do. -/
theorem Segment.afterReport_none {g : Segment} (h : g.awaitsNoReport) (a : Assembly) : g.afterReport a = g := by
  obtain ⟨hg, hp, hx⟩ := h
  unfold Segment.afterReport
  rw [Segment.winnerReported_other]
  · unfold Segment.afterCollision
    simp only [hg, hp, if_false, false_and]
  · exact hx

/-! ## The report (R8, R22, R29) -/

theorem Segment.live_of {g : Segment} (hs : g.state ≠ .stopped) (hf : g.state ≠ .faulted) (hh : g.faultHeld = none) :
    g.live = true := by
  simp [Segment.live, hs, hf, hh]

/-- Nothing is reported: no frame in assembly, the receiver off, or a fault that waits for a frame's end. -/
theorem Segment.report_none {g : Segment}
    (h : g.line.asm = none ∨ g.state = .stopped ∨ g.state = .faulted ∨ g.faultHeld ≠ none) : g.report = g := by
  unfold Segment.report
  cases ha : g.line.asm with
  | none => rfl
  | some a =>
    refine if_neg ?_
    unfold Segment.live
    rcases h with h | h | h | h
    · simp [ha] at h
    · simp [h]
    · simp [h]
    · simp [h]

/-- Outside LOCKED a report goes to the segment controller alone. -/
theorem Segment.report_unlocked {g : Segment} {a : Assembly} (ha : g.line.asm = some a) (hl : g.live = true)
    (hs : g.state ≠ .locked) :
    g.report = (Segment.controllerReport { g with line := g.line.reported a } a.framingFault (a.cls == .good)).afterReport
      a := by
  unfold Segment.report
  simp only [ha, hl, if_true, Line.frameEnd_reported, hs, false_and, if_false]
  rfl

/-- In LOCKED the framing faults are counted first; v is the segment unit after that. -/
theorem Segment.report_locked {g v : Segment} {a : Assembly} (ha : g.line.asm = some a) (hf : g.faultHeld = none)
    (hs : g.state = .locked)
    (hv : Segment.countFraming { g with line := g.line.reported a } a.framingFault (a.cls == .good) = v) :
    g.report = (if v.state = .locked then v.handOver a.cls a.frame else v).afterReport a := by
  have hl : g.live = true := Segment.live_of (by simp [hs]) (by simp [hs]) hf
  have hc : (g.setLine (g.line.reported a)).controllerReport a.framingFault (a.cls == .good) = v := by
    unfold Segment.controllerReport
    rw [Segment.setLine_state, hs]
    exact hv
  unfold Segment.report
  simp only [ha, hl, if_true, Line.frameEnd_reported, hc, hs, true_and]

/-! ## The framing faults counted (R19, R20) -/

theorem Segment.countFraming_few {g : Segment} {good : Bool} (h : g.line.framing + 1 < 3) :
    g.countFraming true good = { g with
      line := { g.line with framing := g.line.framing + 1 },
      counters := { g.counters with framingFaults := g.counters.framingFaults + 1 } } := by
  unfold Segment.countFraming
  rw [if_pos rfl]
  exact if_neg (Nat.not_le.mpr h)

theorem Segment.countFraming_third {g : Segment} {good : Bool} (h : 3 ≤ g.line.framing + 1) :
    g.countFraming true good = Segment.lockLoss { g with
      line := { g.line with framing := g.line.framing + 1 },
      counters := { g.counters with framingFaults := g.counters.framingFaults + 1 } } := by
  unfold Segment.countFraming
  rw [if_pos rfl]
  exact if_pos h

/-- The report of a frame in LOCKED that loses no lock: l is the line, c the counters after it. -/
theorem Segment.report_handOver {g : Segment} {a : Assembly} {l : Line} {c : Counters} (ha : g.line.asm = some a)
    (hf : g.faultHeld = none) (hs : g.state = .locked)
    (hv : Segment.countFraming { g with line := g.line.reported a } a.framingFault (a.cls == .good)
      = { g with line := l, counters := c }) :
    g.report = (Segment.handOver { g with line := l, counters := c } a.cls a.frame).afterReport a := by
  rw [Segment.report_locked ha hf hs hv]
  refine congrArg (fun v : Segment => v.afterReport a) (if_pos ?_)
  exact hs

/-! ## Hand-over (R22, R23) -/

theorem Segment.handOver_started {g : Segment} {f : RxFrame} {c : Class} (hx : g.xact = .started) :
    g.handOver c f = g.answerReported (if c = .good ∨ c = .damaged then some f else none) := by
  unfold Segment.handOver
  exact if_pos hx

theorem Segment.handOver_good {g : Segment} {f : RxFrame} {kind : FrameKind} (hx : g.xact ≠ .started)
    (hk : kindOf f.chars = some kind) : g.handOver .good f = g.handGood f kind := by
  unfold Segment.handOver
  dsimp only
  rw [if_neg hx, if_pos rfl, hk]

/-- A frame of no kind has no taker. -/
theorem Segment.handOver_noKind {g : Segment} {f : RxFrame} (hx : g.xact ≠ .started) (hk : kindOf f.chars = none) :
    g.handOver .good f = g := by
  unfold Segment.handOver
  dsimp only
  rw [if_neg hx, if_pos rfl, hk]

/-- A frame that is not GOOD, and not the awaited answer, has no taker. -/
theorem Segment.handOver_other {g : Segment} {f : RxFrame} {c : Class} (hx : g.xact ≠ .started) (hc : c ≠ .good) :
    g.handOver c f = g := by
  unfold Segment.handOver
  dsimp only
  rw [if_neg hx, if_neg hc]

/-- Nobody takes a GOOD frame for another device while nothing is monitored. -/
theorem Segment.handOver_foreign {g : Segment} {f : RxFrame} (hx : g.xact ≠ .started)
    (ho : g.blk.ownIndex (destOf f.chars) = none) (hd : destOf f.chars ≠ 0) (hm : g.blk.monitor = false) :
    g.handOver .good f = g := by
  cases hk : kindOf f.chars with
  | none => exact Segment.handOver_noKind hx hk
  | some kind =>
    rw [Segment.handOver_good hx hk]
    have hd' : ¬destOf f.chars = 0#8 := hd
    unfold Segment.handGood Segment.filingKind
    simp [ho, hd', hm]

/-! ## The segment controller outside LOCKED (R28, R29) -/

theorem Segment.controllerReport_silent {g : Segment} {fault good : Bool}
    (h : g.state = .settling ∨ g.state = .stalled ∨ g.state = .stopping) : g.controllerReport fault good = g := by
  unfold Segment.controllerReport
  rcases h with h | h | h <;> rw [h]

theorem Segment.controllerReport_acquiring {g : Segment} {fault good : Bool} (h : g.state = .acquiring) :
    g.controllerReport fault good = g.acquire good := by
  unfold Segment.controllerReport; rw [h]

theorem Segment.acquire_counts {g : Segment} (h : g.good + 1 < g.blk.acq.toNat) :
    g.acquire true = { g with good := g.good + 1 } := by
  unfold Segment.acquire
  rw [if_pos rfl]
  exact if_neg (Nat.not_le.mpr h)

theorem Segment.acquire_locks {g : Segment} (h : g.blk.acq.toNat ≤ g.good + 1) :
    g.acquire true = Segment.enterLocked { g with good := g.good + 1 } 1 := by
  unfold Segment.acquire
  rw [if_pos rfl]
  exact if_pos h

theorem Segment.acquire_clears (g : Segment) : g.acquire false = { g with good := 0 } := rfl

/-! ## What the epilogue leaves alone -/

/-- The responder's accesses: only the responder and the accesses of its two sources change, and of a pending answer
only its read. -/
theorem Work.respDue_frame (w : Work) :
    ∃ (r : Responder) (n u : Option Access) (rd : UrgentRead),
      w.respDue = { w with seg := { w.seg with resp := r, waits := { w.seg.waits with responder := n, urgent := u } } }
        ∧ r.pend = w.seg.resp.pend.map fun p => { p with read := rd } := by
  have keep : ∀ x : Option Pend, ∃ rd, x = x.map fun p => { p with read := rd } := fun x => by
    cases x with
    | none => exact ⟨.none, rfl⟩
    | some p => exact ⟨p.read, rfl⟩
  have hturn : ∀ g : Segment, ∃ r rd, g.filingTurn = { g with resp := r }
      ∧ r.pend = g.resp.pend.map fun p => { p with read := rd } := by
    intro g
    obtain ⟨rd, hrd⟩ := keep g.resp.pend
    unfold Segment.filingTurn
    split
    · exact ⟨_, rd, rfl, hrd⟩
    · split
      · dsimp only
        have hp : (g.stageFirst (Hand.atStage .wantRead) .reading).resp.pend = g.resp.pend := rfl
        rw [hp]
        cases hg : g.resp.pend with
        | none => exact ⟨_, rd, rfl, hg⟩
        | some p => exact ⟨_, .owed, rfl, rfl⟩
      · split
        · exact ⟨_, rd, rfl, hrd⟩
        · exact ⟨_, rd, rfl, hrd⟩
  have hfile : ∀ g : Segment, ∃ r n, g.issueFiling = { g with resp := r, waits := { g.waits with responder := n } }
      ∧ r.pend = g.resp.pend := by
    intro g
    unfold Segment.issueFiling
    repeat' split
    all_goals exact ⟨_, _, rfl, rfl⟩
  have hdue : ∀ g : Segment, ∃ r n, g.issueDue = { g with resp := r, waits := { g.waits with responder := n } }
      ∧ r.pend = g.resp.pend := by
    intro g
    unfold Segment.issueDue
    split
    · exact ⟨_, _, rfl, rfl⟩
    · exact ⟨_, _, rfl, rfl⟩
    · exact hfile _
  have hnormal : ∀ v : Work, ∃ r n, v.respNormal
      = { v with seg := { v.seg with resp := r, waits := { v.seg.waits with responder := n } } }
      ∧ r.pend = v.seg.resp.pend := by
    intro v
    unfold Work.respNormal
    split
    · exact ⟨_, _, rfl, rfl⟩
    · obtain ⟨r, n, hi, hr⟩ := hdue v.seg
      exact ⟨r, n, by unfold Work.on; rw [hi], hr⟩
  have hurgent : ∀ v : Work, ∃ r u rd, v.respUrgent
      = { v with seg := { v.seg with resp := r, waits := { v.seg.waits with urgent := u } } }
      ∧ r.pend = v.seg.resp.pend.map fun p => { p with read := rd } := by
    intro v
    obtain ⟨rd, hrd⟩ := keep v.seg.resp.pend
    unfold Work.respUrgent
    cases hp : v.seg.resp.pend with
    | none => exact ⟨_, _, rd, rfl, hp⟩
    | some p =>
      dsimp only
      split
      · exact ⟨_, _, .live, rfl, rfl⟩
      · rw [hp] at hrd
        exact ⟨_, _, rd, rfl, hp.trans hrd⟩
  obtain ⟨r1, rd1, ht, hp1⟩ := hturn w.seg
  obtain ⟨r2, n, hn, hp2⟩ := hnormal (w.on Segment.filingTurn)
  obtain ⟨r3, u, rd3, hu, hp3⟩ := hurgent (w.on Segment.filingTurn).respNormal
  refine ⟨r3, n, u, rd3, ?_, ?_⟩
  · unfold Work.respDue
    rw [hu, hn]
    unfold Work.on
    rw [ht]
  · rw [hp3, hn]
    show r2.pend.map _ = _
    rw [hp2, Work.on_seg, ht]
    show r1.pend.map _ = _
    rw [hp1, Option.map_map]
    rfl

end Sys2Proof.Machine

/-! Who takes a GOOD frame that is not awaited (R22, R23, R131, R133, R138, R139). -/

namespace Sys2Proof.Machine

/-! ## Frames at an own address -/

/-- An answer nobody awaits is a stray. -/
theorem Segment.handGood_strayAnswer {g : Segment} {f : RxFrame} {kind : FrameKind}
    (ho : (g.blk.ownIndex (destOf f.chars)).isSome = true) (hk : kind = .reply ∨ kind = .ack ∨ kind = .nak) :
    g.handGood f kind = g.countStray := by
  obtain ⟨n, ho⟩ := Option.isSome_iff_exists.mp ho
  unfold Segment.handGood
  rcases hk with rfl | rfl | rfl <;> simp only [ho]

theorem Segment.handGood_poll {g : Segment} {f : RxFrame} {n : Nat} {b : Buf}
    (ho : g.blk.ownIndex (destOf f.chars) = some n) (hb : g.line.freeBuf = some b) (hp : g.resp.pend = none) :
    g.handGood f .poll = { g with
      line := g.line.store b f,
      resp := { g.resp with
        pend := some { k := n, own := destOf f.chars, src := srcOf f.chars, kind := .poll,
                       ans := if g.blk.respTable = 0 then .nak else .undecided,
                       read := if g.blk.respTable = 0 then .none else .owed,
                       turn := false, begun := false, buf := some b },
        hands := g.resp.hands ++ [⟨b, .pollSeen, .none, g.cycle.number, .answering⟩] } } := by
  unfold Segment.handGood Segment.takePoll Segment.abandonAnswer
  simp only [ho, hb, hp]
  rfl

theorem Segment.handGood_pollDropped {g : Segment} {f : RxFrame}
    (ho : (g.blk.ownIndex (destOf f.chars)).isSome = true) (hb : g.line.freeBuf = none) :
    g.handGood f .poll = g.countInbDrop := by
  obtain ⟨n, ho⟩ := Option.isSome_iff_exists.mp ho
  unfold Segment.handGood
  simp only [ho, hb]
  rfl

theorem Segment.handGood_set {g : Segment} {f : RxFrame} {n : Nat} {kind : FrameKind} {b : Buf}
    (ho : g.blk.ownIndex (destOf f.chars) = some n) (hk : kind = .set ∨ kind = .notice)
    (hb : g.line.freeBuf = some b) (hp : g.resp.pend = none) :
    g.handGood f kind = { g with
      line := g.line.store b f,
      resp := { g.resp with
        pend := some { k := n, own := destOf f.chars, src := srcOf f.chars, kind := kind,
                       ans := if g.blk.inbSlots = 0 then .nak else .undecided, read := .none,
                       turn := false, begun := false, buf := some b },
        hands := g.resp.hands ++ [⟨b, if kind = .set then .set else .notice, .none, g.cycle.number,
          if g.blk.inbSlots = 0 then .refused else .wantRead⟩] } } := by
  unfold Segment.handGood Segment.takeSet Segment.abandonAnswer
  rcases hk with rfl | rfl <;> simp only [ho, hb, hp] <;> rfl

theorem Segment.handGood_setDropped {g : Segment} {f : RxFrame} {n : Nat} {kind : FrameKind}
    (ho : g.blk.ownIndex (destOf f.chars) = some n) (hk : kind = .set ∨ kind = .notice)
    (hb : g.line.freeBuf = none) (hp : g.resp.pend = none) :
    g.handGood f kind = { g with
      counters := { g.counters with inbDrops := g.counters.inbDrops + 1 },
      resp := { g.resp with
        pend := some { k := n, own := destOf f.chars, src := srcOf f.chars, kind := kind, ans := .nak, read := .none,
                       turn := false, begun := false, buf := none } } } := by
  have hd : g.dropFrame.abandonAnswer = g.dropFrame := by
    unfold Segment.abandonAnswer
    rw [show g.dropFrame.resp.pend = none from hp]
  unfold Segment.handGood Segment.takeHeader
  rcases hk with rfl | rfl <;> simp only [ho, hb, hd] <;> rfl

theorem Segment.handGood_announce {g : Segment} {f : RxFrame}
    (ho : (g.blk.ownIndex (destOf f.chars)).isSome = true) : g.handGood f .announce = g := by
  obtain ⟨n, ho⟩ := Option.isSome_iff_exists.mp ho
  unfold Segment.handGood
  simp only [ho]

/-! ## Frames for DEST 0 and for other devices -/

/-- A POLL, SET or NOTICE to DEST 0 is a stray. -/
theorem Segment.handGood_strayZero {g : Segment} {f : RxFrame} {kind : FrameKind}
    (ho : g.blk.ownIndex (destOf f.chars) = none) (hd : destOf f.chars = 0) (hk : kind.reserves = true) :
    g.handGood f kind = g.countStray := by
  unfold Segment.handGood
  simp only [ho]
  exact if_pos ⟨hd, hk⟩

/-- Any other frame is filed or has no taker. -/
theorem Segment.handGood_filed {g : Segment} {f : RxFrame} {kind : FrameKind} {ek : EntryKind}
    (ho : g.blk.ownIndex (destOf f.chars) = none) (hd : ¬(destOf f.chars = 0 ∧ kind.reserves = true))
    (hk : g.filingKind f.chars kind = some ek) :
    (∀ b, g.line.freeBuf = some b → g.handGood f kind = g.takeFiling ek f b)
      ∧ (g.line.freeBuf = none → g.handGood f kind = g.countInbDrop) := by
  unfold Segment.handGood
  simp only [ho]
  refine ⟨fun b hb => ?_, fun hb => ?_⟩
  · rw [if_neg hd]; simp only [hk, hb]
  · rw [if_neg hd]; simp only [hk, hb]; rfl

theorem Segment.handGood_nobody {g : Segment} {f : RxFrame} {kind : FrameKind}
    (ho : g.blk.ownIndex (destOf f.chars) = none) (hd : ¬(destOf f.chars = 0 ∧ kind.reserves = true))
    (hk : g.filingKind f.chars kind = none) : g.handGood f kind = g := by
  unfold Segment.handGood
  simp only [ho]
  rw [if_neg hd]
  simp only [hk]

theorem Segment.takeFiling_slots {g : Segment} (ek : EntryKind) (f : RxFrame) (b : Buf) (hi : g.blk.inbSlots ≠ 0) :
    g.takeFiling ek f b = { g with
      line := g.line.store b f,
      resp := { g.resp with hands := g.resp.hands ++ [⟨b, ek, .none, g.cycle.number, .queued⟩] } } := if_neg hi

theorem Segment.takeFiling_noSlots {g : Segment} (ek : EntryKind) (f : RxFrame) (b : Buf) (hi : g.blk.inbSlots = 0) :
    g.takeFiling ek f b = g := if_pos hi

/-! ## What is filed and as what (R138) -/

/-- The frames the responder takes for filing: an ANNOUNCE to DEST 0 under ACCEPT_BROADCAST; under MONITOR an answer to
DEST 0, and every frame for another device. -/
def SegBlock.Files (b : SegBlock) (dest : Byte) (kind : FrameKind) (ek : EntryKind) : Prop :=
  (ek = .announce ∧ dest = 0 ∧ kind = .announce ∧ b.acceptBroadcast = true)
    ∨ (ek = .monitored ∧ b.monitor = true ∧ dest = 0 ∧ (kind = .reply ∨ kind = .ack ∨ kind = .nak))
    ∨ (ek = .monitored ∧ b.monitor = true ∧ dest ≠ 0)

theorem Segment.filingKind_files {g : Segment} {cs : List Byte} {kind : FrameKind} {ek : EntryKind}
    (h : g.blk.Files (destOf cs) kind ek) :
    ¬(destOf cs = 0 ∧ kind.reserves = true) ∧ g.filingKind cs kind = some ek := by
  unfold Segment.filingKind
  rcases h with ⟨rfl, hd, rfl, hb⟩ | ⟨rfl, hm, hd, rfl | rfl | rfl⟩ | ⟨rfl, hm, hd⟩
  · exact ⟨by simp [FrameKind.reserves], by rw [if_pos hd]; exact if_pos hb⟩
  · exact ⟨by simp [FrameKind.reserves], by rw [if_pos hd]; exact if_pos hm⟩
  · exact ⟨by simp [FrameKind.reserves], by rw [if_pos hd]; exact if_pos hm⟩
  · exact ⟨by simp [FrameKind.reserves], by rw [if_pos hd]; exact if_pos hm⟩
  · exact ⟨fun h => hd h.1, by rw [if_neg hd]; exact if_pos hm⟩

theorem Segment.filingKind_none {g : Segment} {cs : List Byte} {kind : FrameKind}
    (h : (destOf cs = 0 ∧ kind = .announce ∧ g.blk.acceptBroadcast = false)
      ∨ (g.blk.monitor = false ∧ destOf cs = 0 ∧ (kind = .reply ∨ kind = .ack ∨ kind = .nak))
      ∨ (g.blk.monitor = false ∧ destOf cs ≠ 0)) :
    ¬(destOf cs = 0 ∧ kind.reserves = true) ∧ g.filingKind cs kind = none := by
  unfold Segment.filingKind
  rcases h with ⟨hd, rfl, hb⟩ | ⟨hm, hd, rfl | rfl | rfl⟩ | ⟨hm, hd⟩
  · exact ⟨by simp [FrameKind.reserves], by rw [if_pos hd]; simp [hb]⟩
  · exact ⟨by simp [FrameKind.reserves], by rw [if_pos hd]; simp [hm]⟩
  · exact ⟨by simp [FrameKind.reserves], by rw [if_pos hd]; simp [hm]⟩
  · exact ⟨by simp [FrameKind.reserves], by rw [if_pos hd]; simp [hm]⟩
  · exact ⟨fun h => hd h.1, by rw [if_neg hd]; simp [hm]⟩

/-! ## The obligation -/

/-- The segment unit once the GOOD frame a is counted: it is reported, and the framing faults in a row begin afresh
(R20). -/
def Segment.goodReported (g : Segment) (a : Assembly) : Segment :=
  { g with line := { g.line.reported a with framing := 0 } }

/-- The report of a GOOD frame in LOCKED that is not awaited, when its taker moves nothing that waits for a report. -/
theorem Segment.report_good {g v : Segment} {a : Assembly} (ha : g.line.asm = some a) (hf : g.faultHeld = none)
    (hw : g.awaitsNoReport) (hs : g.state = .locked) (hc : a.cls = .good) (hff : a.framingFault = false)
    (hv : (g.goodReported a).handOver .good a.frame = v)
    (hva : v.awaited = g.awaited) : g.report = v := by
  rw [Segment.report_handOver (c := g.counters) (l := { g.line.reported a with framing := 0 }) ha hf hs
    (by rw [hff, hc]; rfl), hc]
  refine (congrArg (fun x : Segment => x.afterReport a) hv).trans ?_
  exact Segment.afterReport_none (Segment.awaitsNoReport_congr hva hw) a

/-- Settles O38: the taker of a GOOD frame by its DEST, its kind and the free buffer. -/
theorem goodFrameTakers : Obligations.GoodFrameTakers := by
  refine ⟨fun s k g a l hg ha hf hw hs hx hc hff hl => ?_, fun l f => ⟨?_, rfl, rfl, fun b addr => rfl⟩⟩
  · subst hl
    have taken : ∀ (kind : FrameKind) (v : Segment), kindOf a.chars = some kind →
        (g.goodReported a).handGood a.frame kind = v →
        v.awaited = g.awaited → exec (.frameReport k) s = .next (s.afterEvent k v []) := fun kind v hk hv hva =>
      exec_after rfl hg
        (Segment.report_good ha hf hw hs hc hff (Eq.trans (Segment.handOver_good hx hk) hv) hva)
    refine ⟨?_, fun n b ho hk hp hb => ?_, fun ho hk hb => ?_, fun n kind b ho hk hk' hp hb => ?_,
      fun n kind ho hk hk' hp hb => ?_, fun ho hk => ?_, fun ek ho h => ?_, fun ho h => ?_⟩
    · rintro (⟨ho, hk⟩ | ⟨ho, hd, hk⟩)
      · obtain ⟨kind, hk, hk'⟩ : ∃ kind, kindOf a.chars = some kind ∧ (kind = .reply ∨ kind = .ack ∨ kind = .nak) := by
          rcases hk with h | h | h
          · exact ⟨_, h, by simp⟩
          · exact ⟨_, h, by simp⟩
          · exact ⟨_, h, by simp⟩
        exact taken kind _ hk (Segment.handGood_strayAnswer ho hk') rfl
      · obtain ⟨kind, hk, hk'⟩ : ∃ kind, kindOf a.chars = some kind ∧ (kind = .poll ∨ kind = .set ∨ kind = .notice) := by
          rcases hk with h | h | h
          · exact ⟨_, h, by simp⟩
          · exact ⟨_, h, by simp⟩
          · exact ⟨_, h, by simp⟩
        exact taken kind _ hk (Segment.handGood_strayZero ho hd (kind.reserves_iff.mpr hk')) rfl
    · exact taken .poll _ hk (Segment.handGood_poll ho hb hp) rfl
    · exact taken .poll _ hk (Segment.handGood_pollDropped ho hb) rfl
    · exact taken kind _ hk (Segment.handGood_set ho hk' hb hp) rfl
    · exact taken kind _ hk (Segment.handGood_setDropped ho hk' hb hp) rfl
    · exact taken .announce _ hk (Segment.handGood_announce ho) rfl
    · obtain ⟨kind, hk, hfiles⟩ : ∃ kind, kindOf a.chars = some kind ∧ g.blk.Files (destOf a.chars) kind ek := by
        rcases h with ⟨he, hd, hk, hb⟩ | ⟨he, hm, hd, hk | hk | hk⟩ | ⟨he, hm, hd, hk⟩
        · exact ⟨_, hk, .inl ⟨he, hd, rfl, hb⟩⟩
        · exact ⟨_, hk, .inr (.inl ⟨he, hm, hd, by simp⟩)⟩
        · exact ⟨_, hk, .inr (.inl ⟨he, hm, hd, by simp⟩)⟩
        · exact ⟨_, hk, .inr (.inl ⟨he, hm, hd, by simp⟩)⟩
        · obtain ⟨kind, hk⟩ := Option.isSome_iff_exists.mp hk
          exact ⟨kind, hk, .inr (.inr ⟨he, hm, hd⟩)⟩
      obtain ⟨hd, hkind⟩ := Segment.filingKind_files (g := g.goodReported a) hfiles
      obtain ⟨hfree, hfull⟩ := Segment.handGood_filed (g := g.goodReported a) (f := a.frame) ho hd hkind
      refine ⟨fun b hb hi => ?_, fun b hb hi => ?_, fun hb => ?_⟩
      · exact taken kind _ hk ((hfree b hb).trans (Segment.takeFiling_slots ek a.frame b hi)) rfl
      · exact taken kind _ hk ((hfree b hb).trans (Segment.takeFiling_noSlots ek a.frame b hi)) rfl
      · exact taken kind _ hk (hfull hb) rfl
    · cases hk : kindOf a.chars with
      | none =>
        exact exec_after rfl hg
          (Segment.report_good ha hf hw hs hc hff (Segment.handOver_noKind (f := a.frame) hx hk) rfl)
      | some kind =>
        simp only [hk, Option.some.injEq] at h
        obtain ⟨hd, hkind⟩ := Segment.filingKind_none
          (g := g.goodReported a) (cs := a.chars) h
        exact taken kind _ hk (Segment.handGood_nobody (g := g.goodReported a) (f := a.frame) ho hd hkind) rfl
  · unfold Line.freeBuf
    simp only [Option.isNone_iff_eq_none]

end Sys2Proof.Machine

/-! Reports outside the hand-over: the good-frame count, the entry to LOCKED, and what waited for a report. -/

namespace Sys2Proof.Machine

/-! ## The entry to LOCKED (R31) -/

/-- The segment unit at its entry to LOCKED, with its record write asked for, before it does what it waited for. -/
def Segment.lockedAt (g : Segment) (detail : Byte) : Segment :=
  { g with state := .locked, line := { g.line with framing := 0 } }.reqProgress [⟨.segmentLocked, detail⟩]

/-- What the entry to LOCKED then does leaves the line, the controller's values, what waits for a report, and the record
write alone. -/
def Segment.locksAs (a b : Segment) : Prop :=
  b.line = a.line ∧ b.ctl = a.ctl ∧ b.awaited = a.awaited ∧ a.keepsRecord b

theorem Segment.beginCycle_awaited (g : Segment) : g.beginCycle.awaited = g.awaited := by
  unfold Segment.beginCycle; dsimp only
  split
  · rfl
  · split <;> rfl

theorem Segment.beginHeld_locksAs (g : Segment) : g.locksAs g.beginHeld := by
  have hside := g.beginCycle_side
  simp only [Segment.side, Prod.mk.injEq] at hside
  unfold Segment.beginHeld
  split
  · exact ⟨hside.2.1, g.beginCycle_ctl, g.beginCycle_awaited, g.beginCycle_keepsRecord⟩
  · exact ⟨rfl, rfl, rfl, Segment.keepsRecord_refl g⟩

theorem Segment.beginHeldSweep_locksAs (g : Segment) : g.locksAs g.beginHeldSweep := by
  unfold Segment.beginHeldSweep Segment.beginSweep
  repeat' split
  all_goals exact ⟨rfl, rfl, rfl, Segment.keepsRecord_of rfl rfl rfl⟩

theorem Segment.examineHead_locksAs (g : Segment) : g.locksAs g.examineHead := by
  unfold Segment.examineHead
  split <;> exact ⟨rfl, rfl, rfl, Segment.keepsRecord_of rfl rfl rfl⟩

theorem Segment.locksAs_trans {a b c : Segment} (h : a.locksAs b) (h' : b.locksAs c) : a.locksAs c := by
  obtain ⟨hl, hc, ha, hr⟩ := h
  obtain ⟨hl', hc', ha', hr'⟩ := h'
  exact ⟨hl'.trans hl, hc'.trans hc, ha'.trans ha, Segment.keepsRecord_trans hr hr'⟩

theorem Segment.enterLocked_locksAs (g : Segment) (detail : Byte) :
    (g.lockedAt detail).locksAs (g.enterLocked detail) := by
  have hfirst : (g.lockedAt detail).locksAs { g.lockedAt detail with everLocked := true } :=
    ⟨rfl, rfl, rfl, Segment.keepsRecord_of rfl rfl rfl⟩
  have hheld : ∀ x : Segment, x.locksAs { x with cycle := { x.cycle with held := true } } := fun x =>
    ⟨rfl, rfl, rfl, Segment.keepsRecord_of rfl rfl rfl⟩
  unfold Segment.enterLocked
  by_cases he : g.everLocked = true
  · refine Eq.mpr (congrArg _ (if_pos he)) ?_
    exact Segment.locksAs_trans (Segment.beginHeld_locksAs _) (Segment.beginHeldSweep_locksAs _)
  · refine Eq.mpr (congrArg _ (if_neg he)) ?_
    exact Segment.locksAs_trans hfirst (Segment.locksAs_trans (Segment.examineHead_locksAs _) (hheld _))

/-- The first entry to LOCKED of a run holds a cycle begin, and moves neither the unit nor the rest of the cycle. -/
theorem Segment.enterLocked_first {g : Segment} (h : g.everLocked = false) (detail : Byte) :
    (g.enterLocked detail).unit = g.unit ∧ (g.enterLocked detail).cycle = { g.cycle with held := true } := by
  have he : ({ g.lockedAt detail with everLocked := true } : Segment).examineHead.unit = g.unit
      ∧ ({ g.lockedAt detail with everLocked := true } : Segment).examineHead.cycle = g.cycle := by
    unfold Segment.examineHead
    split <;> exact ⟨rfl, rfl⟩
  have hl : g.enterLocked detail = (let s := ({ g.lockedAt detail with everLocked := true } : Segment).examineHead
      { s with cycle := { s.cycle with held := true } }) := by
    unfold Segment.enterLocked
    exact if_neg (by simp [h])
  rw [hl]
  exact ⟨he.1, congrArg (fun c : Cycle => { c with held := true }) he.2⟩

/-! ## What the epilogue keeps of the line, and the cycle it begins -/

theorem Segment.tryBegin_line (g : Segment) :
    g.tryBegin.line.framing = g.line.framing ∧ g.tryBegin.line.stalled = g.line.stalled := by
  have hb : g.beginAnswer.line.framing = g.line.framing ∧ g.beginAnswer.line.stalled = g.line.stalled := by
    unfold Segment.beginAnswer
    repeat' split
    all_goals exact ⟨rfl, rfl⟩
  have hw : ∀ x : Segment, x.beginWork.line.framing = x.line.framing ∧ x.beginWork.line.stalled = x.line.stalled := by
    intro x
    unfold Segment.beginWork
    split
    · dsimp only; split <;> exact ⟨rfl, rfl⟩
    · exact ⟨rfl, rfl⟩
  unfold Segment.tryBegin
  split
  · dsimp only
    split
    · exact ⟨(hw _).1.trans hb.1, (hw _).2.trans hb.2⟩
    · exact hb
  · exact ⟨rfl, rfl⟩

theorem Work.stopCheck_line (w : Work) : w.stopCheck.seg.line = w.seg.line := by
  unfold Work.stopCheck
  split <;> rfl

/-- With no fault held the epilogue keeps the framing faults in a row and the note of a stall. -/
theorem Work.finish_line {w : Work} (hf : w.seg.faultHeld = none) :
    w.finish.seg.line.framing = w.seg.line.framing ∧ w.finish.seg.line.stalled = w.seg.line.stalled := by
  have hk := (Segment.kick_side w.seg.lostDue).trans (Segment.lostDue_side w.seg)
  simp only [Segment.side, Prod.mk.injEq] at hk
  obtain ⟨-, hkl, -⟩ := hk
  obtain ⟨r, n, u, rd, hr, -⟩ := Work.respDue_frame (w.on fun s => s.lostDue.kick)
  unfold Work.finish
  dsimp only
  rw [Work.heldFault_none hf, Work.stopCheck_line]
  split
  · rw [hr]
    obtain ⟨h1, h2⟩ := Segment.tryBegin_line { (w.on fun s => s.lostDue.kick).seg with
      resp := r, waits := { (w.on fun s => s.lostDue.kick).seg.waits with responder := n, urgent := u } }
    exact ⟨h1.trans (congrArg Line.framing hkl), h2.trans (congrArg Line.stalled hkl)⟩
  · exact ⟨rfl, rfl⟩

theorem Segment.tryBegin_cycle (g : Segment) : g.tryBegin.cycle = g.cycle := by
  have hb : g.beginAnswer.cycle = g.cycle := by
    unfold Segment.beginAnswer
    repeat' split
    all_goals rfl
  have hw : ∀ x : Segment, x.beginWork.cycle = x.cycle := by
    intro x
    unfold Segment.beginWork
    split
    · dsimp only; split <;> rfl
    · rfl
  unfold Segment.tryBegin
  split
  · dsimp only
    split
    · exact (hw _).trans hb
    · exact hb
  · rfl

theorem Segment.beginCycle_number (g : Segment) : g.beginCycle.cycle.number = g.cycle.number + 1 := by
  unfold Segment.beginCycle; dsimp only
  split
  · rfl
  · split <;> rfl

theorem Segment.startUnit_number (g : Segment) : g.startUnit.cycle.number = g.cycle.number := by
  unfold Segment.startUnit Segment.startTake
  dsimp only
  split <;> rfl

theorem Segment.dispatch_number (g : Segment) : g.dispatch.cycle.number = g.cycle.number := by
  have hready : (if g.req.ready then g.startUnit else g).cycle.number = g.cycle.number := by
    split
    · exact Segment.startUnit_number g
    · rfl
  unfold Segment.dispatch
  split
  · split
    · split
      · rfl
      · exact hready
      all_goals rfl
    all_goals exact hready
  · rfl

/-- A held begin with no unit in service and no opportunity due begins a cycle. -/
theorem Segment.kick_beginsCycle {g : Segment} (hw : g.working = true) (hu : g.unit = .none)
    (hp : g.cycle.point = .notBegun) (hh : g.cycle.held = true) : g.kick.cycle.number = g.cycle.number + 1 := by
  have ht : g.testOpportunity = g := by
    unfold Segment.testOpportunity
    rw [if_neg]
    simp [hp]
  have hb : g.beginDue = g.beginCycle := by
    unfold Segment.beginDue
    rw [if_pos ⟨hu, .inl hh⟩]
  unfold Segment.kick
  rw [if_pos ⟨hw, hu⟩, ht, hb, Segment.dispatch_number, Segment.beginCycle_number]

theorem Segment.lostDue_noUnit {g : Segment} (hu : g.unit = .none) : ∃ x, g.lostDue = { g with xact := x } := by
  have hf : g.finishUnit .lineLost g.cycle.pause = { g with xact := .idle } := by
    unfold Segment.finishUnit
    rw [hu]
  unfold Segment.lostDue
  rw [hf]
  split
  · exact ⟨_, rfl⟩
  · exact ⟨_, rfl⟩

/-- The epilogue of an event that leaves LOCKED with a held begin begins the cycle (R31, R69). -/
theorem Work.finish_beginsCycle {w : Work} (hs : w.seg.state = .locked) (hf : w.seg.faultHeld = none)
    (hu : w.seg.unit = .none) (hp : w.seg.cycle.point = .notBegun) (hh : w.seg.cycle.held = true) :
    w.finish.seg.cycle.number = w.seg.cycle.number + 1 := by
  obtain ⟨x, hx⟩ := Segment.lostDue_noUnit hu
  have hk : (w.seg.lostDue).kick.cycle.number = w.seg.cycle.number + 1 := by
    rw [hx]
    exact Segment.kick_beginsCycle (by simp [Segment.working, hs, hf]) hu hp hh
  have hc : ∀ v : Work, v.stopCheck.seg.cycle = v.seg.cycle := by
    intro v; unfold Work.stopCheck; split <;> rfl
  obtain ⟨r, n, u, rd, hr, -⟩ := Work.respDue_frame (w.on fun s => s.lostDue.kick)
  rw [Work.finish_locked hf hs, hc, Work.on_seg, Segment.tryBegin_cycle, hr]
  exact hk

/-! ## The epilogue while a unit is in service -/

/-- With a unit in service in LOCKED, and no LINE_LOST due, only the responder and the transmitter have something to do. -/
theorem Work.finish_inService {w : Work} (hs : w.seg.state = .locked) (hf : w.seg.faultHeld = none)
    (hu : w.seg.unit ≠ .none) (hx : w.seg.xact ≠ .lostAnswer ∨ w.seg.resp.pend ≠ none) :
    w.finish.seg = w.respDue.seg.tryBegin := by
  have hd : w.seg.lostDue = w.seg := by
    unfold Segment.lostDue
    rw [if_neg]
    rintro ⟨h1, h2⟩
    rcases hx with h | h
    · exact h h1
    · exact h h2
  have hk : w.seg.kick = w.seg := by
    unfold Segment.kick
    exact if_neg fun h => hu h.2
  have hw : (w.on fun s => s.lostDue.kick) = w := by
    unfold Work.on
    dsimp only
    rw [hd, hk]
  rw [Work.finish_locked hf hs, hw, Work.stopCheck_other, Work.on_seg]
  have hctl := (Segment.tryBegin_ctl w.respDue.seg).trans w.respDue_ctl
  simp only [Segment.ctl, Prod.mk.injEq] at hctl
  rw [Work.on_seg, hctl.1, hs]
  simp

theorem Segment.beginAnswer_notDue {g : Segment} (h : ∀ p, g.resp.pend = some p → p.due = false) :
    g.beginAnswer = g := by
  unfold Segment.beginAnswer
  split
  · rename_i p hp
    rw [if_neg (by simp [h p hp])]
  · rfl

/-- Nothing begins: no answer is due, and no work frame is ready that may begin. -/
theorem Segment.tryBegin_nothing {g : Segment} (h : ∀ p, g.resp.pend = some p → p.due = false)
    (hw : g.xact ≠ .ready ∨ g.workMayBegin = false) : g.tryBegin = g := by
  unfold Segment.tryBegin
  split
  · dsimp only
    rw [Segment.beginAnswer_notDue h, if_neg]
    rintro ⟨-, h1, h2⟩
    rcases hw with hw | hw
    · exact hw h1
    · simp [hw] at h2
  · rfl

/-- The values that a transaction in service leaves as they are while it can begin nothing: an answer is owed whose
turnaround has not been reached. -/
structure Segment.waitsOn (g v : Segment) (p : Pend) : Prop where
  state : v.state = g.state
  faultHeld : v.faultHeld = g.faultHeld
  line : v.line = g.line
  cycle : v.cycle = g.cycle
  req : v.req = g.req
  unit : v.unit = g.unit
  xact : v.xact = g.xact
  waitsUnit : v.waits.unit = g.waits.unit
  pend : ∃ rd, v.resp.pend = some { p with read := rd }

/-- With a unit in service whose frame may not begin, and an answer owed whose turnaround has not been reached, the
epilogue moves only the responder. -/
theorem Work.finish_waitsOn {w : Work} {p : Pend} (hs : w.seg.state = .locked) (hf : w.seg.faultHeld = none)
    (hu : w.seg.unit ≠ .none) (hp : w.seg.resp.pend = some p) (ht : p.turn = false)
    (hw : w.seg.xact ≠ .ready ∨ w.seg.workMayBegin = false) : w.seg.waitsOn w.finish.seg p := by
  obtain ⟨r, n, u, rd, hr, hrp⟩ := w.respDue_frame
  rw [hp] at hrp
  rw [Work.finish_inService hs hf hu (.inr (by simp [hp])), Segment.tryBegin_nothing]
  · rw [hr]
    exact ⟨rfl, rfl, rfl, rfl, rfl, rfl, rfl, rfl, rd, hrp⟩
  · intro q hq
    rw [hr] at hq
    cases hrp.symm.trans hq
    simp [Pend.due, ht]
  · rw [hr]
    exact hw

/-! ## The obligation -/

/-- What a report in a running state or in STOPPING leaves before what waited for it, with no frame handed over: n and c
are the good-frame count and the framing faults in a row after it. -/
theorem Segment.report_counts {g : Segment} {a : Assembly} {n c : Nat} (ha : g.line.asm = some a)
    (hf : g.faultHeld = none)
    (h : (g.state = .settling ∨ g.state = .stalled ∨ g.state = .stopping) ∧ n = g.good ∧ c = g.line.framing
      ∨ g.state = .acquiring ∧ a.cls ≠ .good ∧ n = 0 ∧ c = g.line.framing
      ∨ g.state = .acquiring ∧ a.cls = .good ∧ g.good + 1 < g.blk.acq.toNat ∧ n = g.good + 1 ∧ c = g.line.framing
      ∨ g.state = .locked ∧ g.xact ≠ .started ∧ a.framingFault = false ∧ n = g.good
        ∧ (a.cls ≠ .good ∧ c = g.line.framing
          ∨ a.cls = .good ∧ g.blk.ownIndex (destOf a.chars) = none ∧ destOf a.chars ≠ 0 ∧ g.blk.monitor = false
            ∧ c = 0)) :
    g.report = Segment.afterReport { g with line := { g.line.reported a with framing := c }, good := n } a := by
  have other : a.cls ≠ .good → (a.cls == .good) = false := fun h => by simp [h]
  rcases h with ⟨hs, rfl, rfl⟩ | ⟨hs, hc, rfl, rfl⟩ | ⟨hs, hc, hn, rfl, rfl⟩ | ⟨hs, hx, hff, rfl, h⟩
  · have hl : g.live = true ∧ g.state ≠ .locked := by
      rcases hs with h | h | h
      · exact ⟨Segment.live_of (by simp [h]) (by simp [h]) hf, by simp [h]⟩
      · exact ⟨Segment.live_of (by simp [h]) (by simp [h]) hf, by simp [h]⟩
      · exact ⟨Segment.live_of (by simp [h]) (by simp [h]) hf, by simp [h]⟩
    rw [Segment.report_unlocked ha hl.1 hl.2]
    exact congrArg (fun v : Segment => v.afterReport a) (Segment.controllerReport_silent hs)
  · rw [Segment.report_unlocked ha (Segment.live_of (by simp [hs]) (by simp [hs]) hf) (by simp [hs]), other hc]
    exact congrArg (fun v : Segment => v.afterReport a)
      (Eq.trans (Segment.controllerReport_acquiring hs) (Segment.acquire_clears _))
  · rw [Segment.report_unlocked ha (Segment.live_of (by simp [hs]) (by simp [hs]) hf) (by simp [hs]), hc]
    exact congrArg (fun v : Segment => v.afterReport a)
      (Eq.trans (Segment.controllerReport_acquiring hs) (Segment.acquire_counts hn))
  · rcases h with ⟨hc, rfl⟩ | ⟨hc, ho, hd, hm, rfl⟩
    · rw [Segment.report_handOver (l := g.line.reported a) (c := g.counters) ha hf hs (by rw [hff, other hc]; rfl)]
      exact congrArg (fun v : Segment => v.afterReport a) (Segment.handOver_other hx hc)
    · rw [Segment.report_handOver (l := { g.line.reported a with framing := 0 }) (c := g.counters) ha hf hs
        (by rw [hff, hc]; rfl), hc]
      exact congrArg (fun v : Segment => v.afterReport a) (Segment.handOver_foreign (f := a.frame) hx ho hd hm)

/-- The same where nothing waits for the report. -/
theorem Segment.report_unlockedQuiet {g v : Segment} {a : Assembly} (ha : g.line.asm = some a) (hl : g.live = true)
    (hs : g.state ≠ .locked) (hw : g.awaitsNoReport)
    (hv : Segment.controllerReport { g with line := g.line.reported a } a.framingFault (a.cls == .good) = v)
    (hva : v.awaited = g.awaited) : g.report = v := by
  rw [Segment.report_unlocked ha hl hs, hv]
  exact Segment.afterReport_none (Segment.awaitsNoReport_congr hva hw) a

/-- The report that completes the good-frame count locks the segment. -/
theorem Segment.report_locks {g : Segment} {a : Assembly} (ha : g.line.asm = some a) (hf : g.faultHeld = none)
    (hw : g.awaitsNoReport) (hs : g.state = .acquiring) (hc : a.cls = .good) (hn : g.blk.acq.toNat ≤ g.good + 1) :
    g.report = Segment.enterLocked { g with line := g.line.reported a, good := g.good + 1 } 1 := by
  obtain ⟨-, -, haw, -⟩ :=
    Segment.enterLocked_locksAs { g with line := g.line.reported a, good := g.good + 1 } 1
  refine Segment.report_unlockedQuiet ha (Segment.live_of (by simp [hs]) (by simp [hs]) hf) (by simp [hs]) hw ?_ haw
  rw [hc]
  exact Eq.trans (Segment.controllerReport_acquiring hs) (Segment.acquire_locks hn)

/-- What the epilogue leaves of an entry to LOCKED. -/
theorem State.afterEvent_enterLocked (s : State) (k : Seg) {g : Segment} {detail : Byte} (hf : g.faultHeld = none) :
    ((s.afterEvent k (g.enterLocked detail) []).segs.get k).state = .locked
      ∧ ((s.afterEvent k (g.enterLocked detail) []).segs.get k).prWait = g.prWait ++ [⟨.segmentLocked, detail⟩]
      ∧ ((s.afterEvent k (g.enterLocked detail) []).segs.get k).waits.control = some g.progressWait
      ∧ ((s.afterEvent k (g.enterLocked detail) []).segs.get k).line.framing = 0
      ∧ ((s.afterEvent k (g.enterLocked detail) []).segs.get k).line.stalled = g.line.stalled
      ∧ (g.everLocked = false → g.unit = .none → g.cycle.point = .notBegun →
          ((s.afterEvent k (g.enterLocked detail) []).segs.get k).cycle.number = g.cycle.number + 1) := by
  obtain ⟨hline, hctl, -, hrec⟩ := g.enterLocked_locksAs detail
  have hst : (g.enterLocked detail).state = .locked := congrArg (·.1) hctl
  have hfh : (g.enterLocked detail).faultHeld = none := (congrArg (·.2.2.1) hctl).trans hf
  have hfc := Work.finish_ctl (w := s.workWith k (g.enterLocked detail) []) hfh
  obtain ⟨hrun, hpr, hctrl⟩ := Segment.keepsRecord_trans hrec
    (Work.finish_keepsRecord (w := s.workWith k (g.enterLocked detail) []) hfh)
  obtain ⟨hfr, hsl⟩ := Work.finish_line (w := s.workWith k (g.enterLocked detail) []) hfh
  rw [State.afterEvent_seg]
  refine ⟨(congrArg (·.1) hfc).trans hst, hpr, (hctrl rfl).trans ?_, hfr.trans (congrArg Line.framing hline),
    hsl.trans (Eq.trans (b := (g.lockedAt detail).line.stalled) (congrArg Line.stalled hline) rfl), fun he hu hp => ?_⟩
  · unfold Segment.progressWait Segment.blk
    rw [hrun]; rfl
  · obtain ⟨hu', hc'⟩ := g.enterLocked_first he detail
    have := Work.finish_beginsCycle (w := s.workWith k (g.enterLocked detail) []) hst hfh (hu'.trans hu)
      ((congrArg Cycle.point hc').trans hp) (congrArg Cycle.held hc')
    exact this.trans (congrArg (·.number + 1) hc')

/-- The report in LOCKED of a POLL to an own address, stored in a free buffer: the unit and its accesses stay, what waited
for the report goes on, and the answer is owed, its turnaround not reached. -/
theorem Segment.report_poll {g : Segment} {a : Assembly} {n : Nat} (ha : g.line.asm = some a) (hf : g.faultHeld = none)
    (hs : g.state = .locked) (hx : g.xact ≠ .started) (hff : a.framingFault = false) (hc : a.cls = .good)
    (hk : kindOf a.chars = some .poll) (ho : g.blk.ownIndex (destOf a.chars) = some n) (hp : g.resp.pend = none)
    (hb : g.line.freeBuf.isSome = true) :
    g.report.state = .locked ∧ g.report.faultHeld = none ∧ g.report.unit = g.unit ∧ g.report.waits = g.waits
      ∧ g.report.xact = (if g.xact = .lostReport then .lostAnswer else g.xact)
      ∧ g.report.cycle.pause = g.pauseAfterReport
      ∧ (g.req.gap = .afterReport → g.report.req.gap = .measuring ∧ g.report.req.lineHeld = false)
      ∧ g.report.line.tx = g.line.tx ∧ g.report.line.tracker = (g.line.reported a).tracker
      ∧ ∃ p, g.report.resp.pend = some p ∧ p.kind = .poll ∧ p.src = srcOf a.chars ∧ p.turn = false
        ∧ p.begun = false := by
  obtain ⟨b, hb⟩ := Option.isSome_iff_exists.mp hb
  have hrep := Segment.report_handOver (l := { g.line.reported a with framing := 0 }) (c := g.counters) ha hf hs
    (by rw [hff, hc]; rfl)
  rw [hc] at hrep
  have htake : (g.goodReported a).handOver .good a.frame = _ :=
    Eq.trans (Segment.handOver_good (f := a.frame) hx hk)
      (Segment.handGood_poll (g := g.goodReported a) (f := a.frame) ho hb hp)
  have hown : g.blk.ownIndex (destOf a.chars) ≠ none := by simp [ho]
  rw [hrep.trans (congrArg (fun v : Segment => v.afterReport a) htake), Segment.afterReport_eq]
  refine ⟨hs, hf, rfl, rfl, rfl, rfl, fun hg => ⟨if_pos hg, if_pos ⟨hg, .inl hc, hown⟩⟩, ?_, ?_,
    _, rfl, rfl, rfl, rfl, rfl⟩
  · cases b <;> rfl
  · cases b <;> rfl

/-- A frame that ends on a BUSY line and reserves it makes it RESERVED. -/
theorem Line.reported_reserved {l : Line} {a : Assembly} (ht : l.tracker = .busy) (hc : a.cls = .good)
    (hk : kindOf a.chars = some .poll) : (l.reported a).tracker = .reserved :=
  if_pos ⟨ht, .inl hc, .inl hk⟩

/-- A group that has lost the line begins no frame while the tracker is not FREE (R140, R125). -/
theorem Segment.workMayBegin_notHeld {g : Segment} {r : ReqUnit} (hu : g.unit = .request r) (hl : g.req.lineHeld = false)
    (ht : g.line.tracker ≠ .free) : g.workMayBegin = false := by
  unfold Segment.workMayBegin ReqEngine.holdFrame
  simp [hu, hl, ht]

/-- Settles O36: the counts by the segment's state, the entry to LOCKED through the epilogue, what waited for the report
as a value, and the two cases in which an answer is owed to the frame reported through the epilogue. -/
theorem frameReportCountsTowardsLock : Obligations.FrameReportCountsTowardsLock := by
  refine ⟨fun s k g a hg ha hf hw => ?_, fun s k g hg h => ?_, fun s k g a n c hg ha hf h => ?_,
    fun s k g a e i hg ha hf hs hu hx hff hc hk ho hr hp hb => ?_,
    fun s k g a r i hg ha ht htr hf hs hu hx hgap hff hc hk ho hp hb => ?_⟩
  · have quiet : ∀ v : Segment, v.awaited = g.awaited → v.afterReport a = v := fun v h =>
      Segment.afterReport_none (Segment.awaitsNoReport_congr h hw) a
    refine ⟨fun hs hc hn => ?_, fun hs hc => ?_, fun hs hc hn => ?_, fun hs => ?_⟩
    · exact exec_after rfl hg (Eq.trans (Segment.report_counts (c := g.line.framing) ha hf
        (.inr (.inr (.inl ⟨hs, hc, hn, rfl, rfl⟩)))) (quiet _ rfl))
    · exact exec_after rfl hg (Eq.trans (Segment.report_counts (c := g.line.framing) ha hf
        (.inr (.inl ⟨hs, hc, rfl, rfl⟩))) (quiet _ rfl))
    · obtain ⟨h1, h2, h3, h4, -, h6⟩ := State.afterEvent_enterLocked s k (detail := 1)
        (g := { g with line := g.line.reported a, good := g.good + 1 }) hf
      exact ⟨_, exec_after rfl hg (Segment.report_locks ha hf hw hs hc hn), h1, h2, h3, h4, h6⟩
    · exact exec_after rfl hg (Eq.trans (Segment.report_counts (c := g.line.framing) ha hf
        (.inl ⟨hs, rfl, rfl⟩)) (quiet _ rfl))
  · exact exec_after rfl hg (Segment.report_none h)
  · exact exec_after rfl hg ((Segment.report_counts ha hf h).trans (Segment.afterReport_eq _ a))
  · obtain ⟨h1, h2, h3, h4, h5, h6, -, -, -, p, hpend, hkind, hsrc, hturn, hbegun⟩ :=
      Segment.report_poll ha hf hs (by simp [hx]) hff hc hk ho hp hb
    rw [if_pos hx] at h5
    have hwait := Work.finish_waitsOn (w := s.workWith k g.report []) h1 h2 (by simp [h3, hu]) hpend hturn
      (.inl (by simp [h5]))
    obtain ⟨rd, hrd⟩ := hwait.pend
    refine ⟨_, { p with read := rd }, exec_after rfl hg rfl, ?_⟩
    rw [State.afterEvent_seg]
    refine ⟨hwait.unit.trans (h3.trans hu), hwait.xact.trans h5, ?_,
      hwait.waitsUnit.trans (congrArg Waits.unit h4), hrd, hkind, hsrc, hbegun⟩
    refine (congrArg Cycle.pause hwait.cycle).trans (h6.trans ?_)
    unfold Segment.pauseAfterReport
    simp [hu, hx]
  · obtain ⟨h1, h2, h3, -, h5, -, h7, h8, h9, p, hpend, -, -, hturn, hbegun⟩ :=
      Segment.report_poll ha hf hs (by simp [hx]) hff hc hk ho hp hb
    rw [if_neg (by simp [hx])] at h5
    rw [Line.reported_reserved htr hc hk] at h9
    obtain ⟨hgap, hheld⟩ := h7 hgap
    have hwait := Work.finish_waitsOn (w := s.workWith k g.report []) h1 h2 (by simp [h3, hu]) hpend hturn
      (.inr (Segment.workMayBegin_notHeld (h3.trans hu) hheld (by simp [h9])))
    obtain ⟨rd, hrd⟩ := hwait.pend
    rw [State.workWith_seg] at hwait
    generalize hv : (s.workWith k g.report []).finish.seg = v at hwait hrd
    have hseg : (s.afterEvent k g.report []).segs.get k = v := (State.afterEvent_seg _ _ _ _).trans hv
    have hvu : v.unit = .request r := hwait.unit.trans (h3.trans hu)
    have hvt : v.line.tracker ≠ .free := by simp [hwait.line, h9]
    have hvg : v.req.gap = .measuring := (congrArg ReqEngine.gap hwait.req).trans hgap
    have hvh : v.req.lineHeld = false := (congrArg ReqEngine.lineHeld hwait.req).trans hheld
    have hvx : v.xact = .ready := hwait.xact.trans (h5.trans hx)
    have hvl : v.line.tx = none := (congrArg Line.tx hwait.line).trans (h8.trans ht)
    have hwait' := Work.finish_waitsOn
      (w := (s.afterEvent k g.report []).workWith k { v with req := { v.req with gap := .reached } } [])
      (hwait.state.trans h1) (hwait.faultHeld.trans h2) (by simp [hvu]) hrd hturn
      (.inr (Segment.workMayBegin_notHeld hvu hvh hvt))
    refine ⟨s.afterEvent k g.report [],
      (s.afterEvent k g.report []).afterEvent k { v with req := { v.req with gap := .reached } } [],
      { p with read := rd }, exec_after rfl hg rfl, ?_⟩
    rw [hseg]
    refine ⟨hvh, hvg, hvx, hvl, hrd, hbegun, exec_after rfl hseg (Segment.holdGap_reached hvg), ?_⟩
    rw [State.afterEvent_seg]
    exact ⟨congrArg ReqEngine.gap hwait'.req, hwait'.xact.trans hvx, (congrArg Line.tx hwait'.line).trans hvl⟩

end Sys2Proof.Machine

/-! The awaited answer (R54, R55, R73, R74, R111, R115, R116): its judgement, and what it then makes due. -/

namespace Sys2Proof.Machine

/-! ## The judgement -/

theorem EntryUnit.judge_some (e : EntryUnit) (f : RxFrame) :
    e.judge (some f) =
      if srcOf f.chars ≠ e.cfg.addr then .badReply
      else if kindOf f.chars ≠ some .reply ∧ kindOf f.chars ≠ some .nak then .badReply
      else if kindOf f.chars = some .nak then (if f.good then .refused else .badReply)
      else if f.good = false ∧ e.cfg.acceptDamaged = false then .badReply
      else if e.cfg.expectSeq = true ∧ e.st.lastSeq = some (seqOf f.chars) then .duplicate else .replied := by
  have hdup : e.duplicate f.chars = true ↔ e.cfg.expectSeq = true ∧ e.st.lastSeq = some (seqOf f.chars) := by
    simp [EntryUnit.duplicate]
  unfold EntryUnit.judge
  dsimp only
  simp only [hdup]
  by_cases hs : srcOf f.chars ≠ e.cfg.addr
  · rw [if_pos hs, if_pos hs]
  · rw [if_neg hs, if_neg hs]
    cases hk : kindOf f.chars with
    | none => simp
    | some kind => cases kind <;> simp

theorem ReqUnit.judge_some (r : ReqUnit) (f : RxFrame) :
    r.judge (some f) =
      if srcOf f.chars ≠ r.body.target then .badReply
      else if kindOf f.chars = some .nak then (if f.good then .refused else .badReply)
      else if f.good = true ∧ (r.body.kind = some .pollOnce ∧ kindOf f.chars = some .reply
        ∨ r.body.kind = some .set ∧ kindOf f.chars = some .ack) then .ok else .badReply := by
  unfold ReqUnit.judge
  dsimp only
  by_cases hs : srcOf f.chars ≠ r.body.target
  · rw [if_pos hs, if_pos hs]
  · rw [if_neg hs, if_neg hs]
    cases hk : kindOf f.chars with
    | none => simp
    | some kind => cases kind <;> simp [and_comm]

theorem ReqUnit.keeps_iff (r : ReqUnit) (f : RxFrame) :
    r.keeps f = true ↔ r.body.kind = some .pollOnce ∧ kindOf f.chars = some .reply ∧ srcOf f.chars = r.body.target
      ∧ (f.good = true ∨ r.body.limit.toNat ≤ r.attempt) := by
  simp [ReqUnit.keeps, and_assoc]

/-- A REPLY that is kept is good for OK, unless it is the last attempt. -/
theorem ReqUnit.keeps_notLast {r : ReqUnit} {f : RxFrame} (h : r.attempt < r.body.limit.toNat)
    (hj : r.judge (some f) = .badReply) : r.keeps f = false := by
  rw [Bool.eq_false_iff, ne_eq, ReqUnit.keeps_iff]
  rintro ⟨hk, hf, hs, hg⟩
  have hgood : f.good = true := hg.resolve_right (Nat.not_le.mpr h)
  rw [ReqUnit.judge_some] at hj
  simp [hs, hf, hk, hgood] at hj

/-! ## Dropping, then judging -/

/-- The judgement of an awaited answer f whose exchange has ended, b being a free buffer. -/
def Segment.answerJudged (g : Segment) (f : Option RxFrame) (b : Option Buf) : Segment :=
  match g.unit with
  | .entry e =>
    match e.judge f, f, b with
    | .replied, some fr, some b =>
      ({ g with line := g.line.store b fr }.setEntry { e with buf := some b, seq := seqOf fr.chars }).attemptEnds
        (e.judge f) .running
    | .duplicate, _, _ => g.attemptEnds (e.judge f) .running
    | .refused, _, _ => g.attemptEnds (e.judge f) .running
    | _, _, _ => g.attemptFails (e.judge f) .running
  | .request r =>
    if r.judge f = .ok ∨ r.judge f = .refused then (g.keepReply r f b).attemptEnds (r.judge f) .running
    else (g.keepReply r f b).attemptFails (r.judge f) .running
  | .none => { g with xact := .idle }

/-- An answer that was neither GOOD nor DAMAGED is judged as it is. -/
theorem Segment.answerReported_none (g : Segment) :
    g.answerReported none = g.exchangeOver.answerJudged none g.line.freeBuf := rfl

/-- An answer with no free buffer is dropped and counted, and judged as none (R21). -/
theorem Segment.answerReported_dropped {g : Segment} {f : RxFrame} (hb : g.line.freeBuf = none) :
    g.answerReported (some f) = g.dropFrame.exchangeOver.answerJudged none none := by
  unfold Segment.answerReported
  simp only [hb, Option.isSome_some, Option.isNone_none, Bool.and_self, if_true]
  rfl

theorem Segment.answerReported_held {g : Segment} {f : RxFrame} {b : Buf} (hb : g.line.freeBuf = some b) :
    g.answerReported (some f) = g.exchangeOver.answerJudged (some f) (some b) := by
  unfold Segment.answerReported
  simp only [hb, Option.isSome_some, Option.isNone_some, Bool.and_false, Bool.false_eq_true, if_false]
  rfl

/-! ## The answer to a poll entry -/

/-- An answer judged BAD_REPLY fails the attempt. -/
theorem Segment.answerJudged_entryBad {g : Segment} {e : EntryUnit} {f : Option RxFrame} {b : Option Buf}
    (hu : g.unit = .entry e) (hj : e.judge f = .badReply) :
    g.answerJudged f b = g.attemptFails .badReply .running := by
  unfold Segment.answerJudged
  rw [hu]
  simp only [hj]

theorem Segment.answerReported_entryNone {g : Segment} {e : EntryUnit} (hu : g.unit = .entry e) :
    g.answerReported none = g.attemptFails .badReply .running := by
  rw [Segment.answerReported_none, Segment.exchangeOver_entry hu, Segment.answerJudged_entryBad hu rfl]

theorem Segment.answerReported_entryDropped {g : Segment} {e : EntryUnit} {f : RxFrame} (hu : g.unit = .entry e)
    (hb : g.line.freeBuf = none) : g.answerReported (some f) = g.dropFrame.attemptFails .badReply .running := by
  have hd : g.dropFrame.unit = .entry e := hu
  rw [Segment.answerReported_dropped hb, Segment.exchangeOver_entry hd, Segment.answerJudged_entryBad hd rfl]

theorem Segment.answerReported_entryBad {g : Segment} {e : EntryUnit} {f : RxFrame} {b : Buf} (hu : g.unit = .entry e)
    (hb : g.line.freeBuf = some b) (hj : e.judge (some f) = .badReply) :
    g.answerReported (some f) = g.attemptFails .badReply .running := by
  rw [Segment.answerReported_held hb, Segment.exchangeOver_entry hu, Segment.answerJudged_entryBad hu hj]

/-- DUPLICATE and REFUSED end the entry. -/
theorem Segment.answerReported_entryEnds {g : Segment} {e : EntryUnit} {f : RxFrame} {b : Buf} {o : Ending}
    (hu : g.unit = .entry e) (hb : g.line.freeBuf = some b) (hj : e.judge (some f) = o)
    (ho : o = .duplicate ∨ o = .refused) : g.answerReported (some f) = g.attemptEnds o .running := by
  rw [Segment.answerReported_held hb, Segment.exchangeOver_entry hu]
  unfold Segment.answerJudged
  rw [hu]
  rcases ho with rfl | rfl <;> simp only [hj]

/-- An accepted REPLY keeps its buffer for the capture. -/
theorem Segment.answerReported_entryReplied {g : Segment} {e : EntryUnit} {f : RxFrame} {b : Buf}
    (hu : g.unit = .entry e) (hb : g.line.freeBuf = some b) (hj : e.judge (some f) = .replied) :
    g.answerReported (some f) = Segment.decideEntry { g with line := g.line.store b f }
      { e with buf := some b, seq := seqOf f.chars, used := e.used + 1 } .replied .running := by
  rw [Segment.answerReported_held hb, Segment.exchangeOver_entry hu]
  unfold Segment.answerJudged
  rw [hu]
  simp only [hj]
  rfl

theorem Segment.inbDrops_zero (g : Segment) :
    ({ g with counters := { g.counters with inbDrops := g.counters.inbDrops + 0 } } : Segment) = g := by simp

/-- An answer that fails the attempt of a poll entry; d counts the frame dropped. -/
theorem Segment.answerReported_entryFails {g : Segment} {e : EntryUnit} {f : Option RxFrame} {d : Word}
    (hu : g.unit = .entry e)
    (h : f = none ∧ d = 0 ∨ (∃ x, f = some x ∧ g.line.freeBuf = none) ∧ d = 1
      ∨ (∃ x b, f = some x ∧ g.line.freeBuf = some b ∧ e.judge f = .badReply) ∧ d = 0) :
    g.answerReported f = Segment.attemptFails
      { g with counters := { g.counters with inbDrops := g.counters.inbDrops + d } } .badReply .running := by
  rcases h with ⟨rfl, rfl⟩ | ⟨⟨x, rfl, hb⟩, rfl⟩ | ⟨⟨x, b, rfl, hb, hj⟩, rfl⟩
  · rw [Segment.inbDrops_zero, Segment.answerReported_entryNone hu]
  · exact Segment.answerReported_entryDropped hu hb
  · rw [Segment.inbDrops_zero, Segment.answerReported_entryBad hu hb hj]

/-! ## The answer to a request -/

/-- The exchange of a request has ended; d frames of it were dropped. -/
def Segment.exchanged (g : Segment) (d : Word) : Segment :=
  { g with counters := { g.counters with inbDrops := g.counters.inbDrops + d },
           req := { g.req with gap := .measuring } }

theorem Segment.exchangeOver_exchanged {g : Segment} {r : ReqUnit} (hu : g.unit = .request r) :
    g.exchangeOver = g.exchanged 0 := by
  rw [Segment.exchangeOver_request hu]
  simp [Segment.exchanged]

/-- No answer to judge fails the attempt. -/
theorem Segment.answerJudged_requestNone {g : Segment} {r : ReqUnit} {b : Option Buf} (hu : g.unit = .request r) :
    g.answerJudged none b = g.attemptFails .badReply .running := by
  unfold Segment.answerJudged
  rw [hu]
  rfl

theorem Segment.answerReported_requestNone {g : Segment} {r : ReqUnit} (hu : g.unit = .request r) :
    g.answerReported none = (g.exchanged 0).attemptFails .badReply .running := by
  rw [Segment.answerReported_none, Segment.exchangeOver_exchanged hu]
  exact Segment.answerJudged_requestNone hu

theorem Segment.answerReported_requestDropped {g : Segment} {r : ReqUnit} {f : RxFrame} (hu : g.unit = .request r)
    (hb : g.line.freeBuf = none) :
    g.answerReported (some f) = (g.exchanged 1).attemptFails .badReply .running := by
  have hd : g.dropFrame.exchangeOver = g.exchanged 1 := Segment.exchangeOver_request (g := g.dropFrame) hu
  rw [Segment.answerReported_dropped hb, hd]
  exact Segment.answerJudged_requestNone hu

/-- With a free buffer the answer is judged; the reply that goes into the record keeps the buffer. -/
theorem Segment.answerReported_request {g : Segment} {r : ReqUnit} {f : RxFrame} {b : Buf} (hu : g.unit = .request r)
    (hb : g.line.freeBuf = some b) :
    g.answerReported (some f) =
      if r.judge (some f) = .ok ∨ r.judge (some f) = .refused then
        ((g.exchanged 0).keepReply r (some f) (some b)).attemptEnds (r.judge (some f)) .running
      else ((g.exchanged 0).keepReply r (some f) (some b)).attemptFails (r.judge (some f)) .running := by
  have hu' : (g.exchanged 0).unit = .request r := hu
  rw [Segment.answerReported_held hb, Segment.exchangeOver_exchanged hu]
  unfold Segment.answerJudged
  rw [hu']

/-- An answer that fails an attempt of a request before the last; d counts the frame dropped. -/
theorem Segment.answerReported_requestFails {g : Segment} {r : ReqUnit} {f : Option RxFrame} {d : Word}
    (hu : g.unit = .request r)
    (h : f = none ∧ d = 0 ∨ (∃ x, f = some x ∧ g.line.freeBuf = none) ∧ d = 1
      ∨ (∃ x b, f = some x ∧ g.line.freeBuf = some b ∧ r.judge f = .badReply) ∧ d = 0)
    (hl : r.attempt < r.body.limit.toNat) :
    g.answerReported f = (g.exchanged d).attemptFails .badReply .running := by
  rcases h with ⟨rfl, rfl⟩ | ⟨⟨x, rfl, hb⟩, rfl⟩ | ⟨⟨x, b, rfl, hb, hj⟩, rfl⟩
  · exact Segment.answerReported_requestNone hu
  · exact Segment.answerReported_requestDropped hu hb
  · have hk : (g.exchanged 0).keepReply r (some x) (some b) = g.exchanged 0 := by
      unfold Segment.keepReply
      simp [ReqUnit.keeps_notLast hl hj]
    rw [Segment.answerReported_request hu hb, hj, hk, if_neg (by simp)]

/-- An answer with a free buffer that ends the request: by its result, or as its last attempt. -/
theorem Segment.answerReported_requestEnds {g : Segment} {r : ReqUnit} {f : RxFrame} {b : Buf} {o : Ending}
    (hu : g.unit = .request r) (hj : r.judge (some f) = o)
    (ho : o = .ok ∨ o = .refused ∨ ¬r.attempt < r.body.limit.toNat) (hb : g.line.freeBuf = some b) :
    g.answerReported (some f) =
      if r.keeps f then
        Segment.decideReq { g.exchanged 0 with line := g.line.store b f, unit := .request { r with buf := some b } }
          { r with buf := some b, used := r.used + 1 } o
      else (g.exchanged 0).decideReq { r with used := r.used + 1 } o := by
  have ends : ∀ (v : Segment) (q : ReqUnit), v.unit = .request q → q.attempt = r.attempt → q.body = r.body →
      (if o = .ok ∨ o = .refused then v.attemptEnds o .running else v.attemptFails o .running)
        = v.decideReq { q with used := q.used + 1 } o := by
    intro v q hv ha hbody
    by_cases h : o = .ok ∨ o = .refused
    · rw [if_pos h, Segment.attemptEnds_request hv]
    · rw [if_neg h, Segment.attemptFails_requestLast hv]
      rw [ha, hbody]
      exact (ho.resolve_left fun h' => h (.inl h')).resolve_left fun h' => h (.inr h')
  rw [Segment.answerReported_request hu hb, hj]
  unfold Segment.keepReply
  dsimp only
  by_cases hk : r.keeps f = true
  · rw [if_pos hk, if_pos hk]
    exact ends _ { r with buf := some b } rfl rfl rfl
  · rw [if_neg hk, if_neg hk]
    exact ends _ r hu rfl rfl

/-! ## The judgement leaves nothing that waits for a report -/

theorem Segment.decideEntry_awaitsNoReport {g : Segment} (h : g.awaitsNoReport) (e : EntryUnit) (o : Ending) {p : Pause}
    (hp : p ≠ .awaiting) : (g.decideEntry e o p).awaitsNoReport := by
  obtain ⟨hg, -, -⟩ := h
  have hpause : (if e.pauseAfter = 0 ∨ g.state = .stopping then Pause.none else p) ≠ .awaiting := by
    split
    · simp
    · exact hp
  have hidle : Xact.idle ≠ .lostReport := by simp
  unfold Segment.decideEntry
  dsimp only
  split <;> exact ⟨hg, hpause, hidle⟩

theorem Segment.tryComplete_awaited (g : Segment) (r : ReqUnit) : (g.tryComplete r).awaited = g.awaited := by
  unfold Segment.tryComplete
  repeat' split
  all_goals rfl

theorem Segment.decideReq_awaitsNoReport {g : Segment} (h : g.awaitsNoReport) (r : ReqUnit) (o : Ending) :
    (g.decideReq r o).awaitsNoReport := by
  obtain ⟨hg, hp, -⟩ := h
  refine Segment.awaitsNoReport_congr (Segment.tryComplete_awaited _ _) ⟨?_, hp, by simp⟩
  rw [ReqEngine.breakGroup_if]
  exact hg

theorem Segment.attemptEnds_awaitsNoReport {g : Segment} (h : g.awaitsNoReport) (o : Ending) {p : Pause}
    (hp : p ≠ .awaiting) : (g.attemptEnds o p).awaitsNoReport := by
  unfold Segment.attemptEnds
  split
  · exact Segment.decideEntry_awaitsNoReport h _ o hp
  · exact Segment.decideReq_awaitsNoReport h _ o
  · exact ⟨h.1, h.2.1, by simp⟩

theorem Segment.attemptFails_awaitsNoReport {g : Segment} (h : g.awaitsNoReport) (o : Ending) {p : Pause}
    (hp : p ≠ .awaiting) : (g.attemptFails o p).awaitsNoReport := by
  obtain ⟨hg, hpause, -⟩ := id h
  unfold Segment.attemptFails
  split
  · split
    · exact ⟨hg, hpause, by simp⟩
    · exact Segment.attemptEnds_awaitsNoReport h o hp
  · split
    · exact ⟨hg, hpause, by simp⟩
    · exact Segment.attemptEnds_awaitsNoReport h o hp
  · exact ⟨hg, hpause, by simp⟩

theorem Segment.exchangeOver_awaitsNoReport {g : Segment} (h : g.awaitsNoReport) : g.exchangeOver.awaitsNoReport := by
  unfold Segment.exchangeOver
  split
  · exact ⟨by simp, h.2⟩
  · exact h

theorem Segment.keepReply_awaited (g : Segment) (r : ReqUnit) (f : Option RxFrame) (b : Option Buf) :
    (g.keepReply r f b).awaited = g.awaited := by
  unfold Segment.keepReply
  repeat' split
  all_goals rfl

theorem Segment.answerJudged_awaitsNoReport {g : Segment} {f : Option RxFrame} {b : Option Buf}
    (h : g.awaitsNoReport) : (g.answerJudged f b).awaitsNoReport := by
  unfold Segment.answerJudged
  split
  · split
    · refine Segment.attemptEnds_awaitsNoReport (p := .running) ?_ _ (by simp)
      exact h
    · exact Segment.attemptEnds_awaitsNoReport h _ (by simp)
    · exact Segment.attemptEnds_awaitsNoReport h _ (by simp)
    · exact Segment.attemptFails_awaitsNoReport h _ (by simp)
  · rename_i r _
    have hk := Segment.awaitsNoReport_congr (Segment.keepReply_awaited g r f b) h
    split
    · exact Segment.attemptEnds_awaitsNoReport hk _ (by simp)
    · exact Segment.attemptFails_awaitsNoReport hk _ (by simp)
  · exact ⟨h.1, h.2.1, by simp⟩

theorem Segment.answerReported_awaitsNoReport {g : Segment} {f : Option RxFrame} (h : g.awaitsNoReport) :
    (g.answerReported f).awaitsNoReport := by
  have hd : g.dropFrame.awaitsNoReport := h
  cases f with
  | none =>
    rw [Segment.answerReported_none]
    exact Segment.answerJudged_awaitsNoReport (Segment.exchangeOver_awaitsNoReport h)
  | some x =>
    cases hb : g.line.freeBuf with
    | none =>
      rw [Segment.answerReported_dropped hb]
      exact Segment.answerJudged_awaitsNoReport (Segment.exchangeOver_awaitsNoReport hd)
    | some b =>
      rw [Segment.answerReported_held hb]
      exact Segment.answerJudged_awaitsNoReport (Segment.exchangeOver_awaitsNoReport h)

/-! ## The obligation -/

/-- A report in LOCKED that loses no lock counts at most one framing fault. -/
theorem Segment.countFraming_kept {g : Segment} {fault : Bool} (c : Class) (h : fault = true → g.line.framing + 1 < 3) :
    g.countFraming fault (c == .good) = { g with
      line := { g.line with
        framing := if fault then g.line.framing + 1 else if c = .good then 0 else g.line.framing },
      counters := { g.counters with
        framingFaults := if fault then g.counters.framingFaults + 1 else g.counters.framingFaults } } := by
  cases fault with
  | true => exact Segment.countFraming_few (h rfl)
  | false =>
    by_cases hc : c = .good
    · subst hc; rfl
    · have hn : (c == .good) = false := by simp [hc]
      rw [hn]
      simp only [hc, if_false, Bool.false_eq_true]
      rfl

/-- The report of an awaited answer in LOCKED that loses no lock goes to the transaction machine (R22). -/
theorem Segment.report_awaited {g : Segment} {a : Assembly} (ha : g.line.asm = some a) (hf : g.faultHeld = none)
    (hw : g.awaitsNoReport) (hs : g.state = .locked) (hx : g.xact = .started)
    (hff : a.framingFault = true → g.line.framing + 1 < 3) :
    g.report = Segment.answerReported { g with
      line := { g.line.reported a with framing :=
        if a.framingFault then g.line.framing + 1 else if a.cls = .good then 0 else g.line.framing },
      counters := { g.counters with framingFaults :=
        if a.framingFault then g.counters.framingFaults + 1 else g.counters.framingFaults } }
      (if a.cls = .good ∨ a.cls = .damaged then some a.frame else none) := by
  rw [Segment.report_handOver ha hf hs (Segment.countFraming_kept (g := { g with line := g.line.reported a }) a.cls hff)]
  refine Eq.trans (congrArg (fun v : Segment => v.afterReport a) (Segment.handOver_started hx)) ?_
  refine Segment.afterReport_none ?_ a
  exact Segment.answerReported_awaitsNoReport hw

/-- Settles O39: the judgement as functions, and the awaited answer by its unit and by what the judgement makes of it. -/
theorem awaitedAnswerJudged : Obligations.AwaitedAnswerJudged := by
  refine ⟨fun s k g a hg ha hf hw hs hx hff => ?_, fun e => rfl, EntryUnit.judge_some, fun r => rfl,
    fun r f => ⟨r.judge_some f, r.keeps_iff f⟩, fun g e hu => ⟨fun f b hj hb => ?_, fun f b o hj ho hb => ?_,
      fun f d h => ⟨fun hl => ?_, fun hl => ?_⟩⟩,
    fun g r hu => ⟨fun f d h hl => ?_, fun f d h hl => ?_, fun f b o hj ho hb => ?_⟩⟩
  · exact exec_after rfl hg (Segment.report_awaited ha hf hw hs hx hff)
  · rw [Segment.answerReported_entryReplied hu hb hj, Segment.decideEntry_replied]
    rfl
  · rw [Segment.answerReported_entryEnds hu hb hj ho, Segment.attemptEnds_entry hu,
      Segment.decideEntry_status _ _ _ (by rcases ho with rfl | rfl <;> simp)]
  · exact (Segment.answerReported_entryFails hu h).trans (Eq.trans (Segment.attemptFails_entry hu hl) rfl)
  · refine (Segment.answerReported_entryFails hu h).trans (Eq.trans (Segment.attemptFails_entryLast hu hl) ?_)
    rw [Segment.decideEntry_status _ _ _ (by simp)]
    rfl
  · exact (Segment.answerReported_requestFails hu h hl).trans (Eq.trans (Segment.attemptFails_request hu hl) rfl)
  · rcases h with ⟨rfl, rfl⟩ | ⟨⟨x, rfl, hb⟩, rfl⟩
    · exact (Segment.answerReported_requestNone hu).trans (Segment.attemptFails_requestLast (g := g.exchanged 0) hu hl)
    · exact (Segment.answerReported_requestDropped hu hb).trans
        (Segment.attemptFails_requestLast (g := g.exchanged 1) hu hl)
  · rw [Segment.answerReported_requestEnds hu hj ho hb]
    simp [Segment.exchanged]

end Sys2Proof.Machine

/-! The departures from LOCKED (R28, R30, R32, R35, R130): what becomes of an owed answer and of the unit in service, by a
lock loss or a stall. -/

namespace Sys2Proof.Machine

/-! ## The answer given up -/

theorem Segment.GivesUpAnswer.map {g : Segment} {l l' : Line} {r : Responder} (f : Line → Line)
    (hf : ∀ x b, f (x.release b) = (f x).release b) (h : g.GivesUpAnswer l l' r) : g.GivesUpAnswer (f l) (f l') r := by
  rcases h with ⟨hb, hr, rfl⟩ | ⟨p, hp, hb, h⟩
  · exact .inl ⟨hb, hr, rfl⟩
  · refine .inr ⟨p, hp, hb, ?_⟩
    rcases h with ⟨hn, hr, rfl⟩ | ⟨b, x, hbuf, hx, ⟨h1, h2, h3, rfl, hr⟩ | ⟨h1, rfl, hr⟩⟩
    · exact .inl ⟨hn, hr, rfl⟩
    · exact .inr ⟨b, x, hbuf, hx, .inl ⟨h1, h2, h3, rfl, hr⟩⟩
    · exact .inr ⟨b, x, hbuf, hx, .inr ⟨h1, hf _ _, hr⟩⟩

theorem Line.release_framing (n : Nat) (l : Line) (b : Buf) :
    ({ l.release b with framing := n } : Line) = ({ l with framing := n } : Line).release b := by
  cases b <;> rfl

/-! ## The departure, by the unit in service (R35) -/

/-- The outcome of work that a departure ends. -/
def Departure.ending : Departure → Ending
  | .lockLoss => .framingLost
  | .stall => .lineStall

theorem Segment.departEnding_eq (g : Segment) : g.departEnding = g.departed.ending := by
  unfold Segment.departEnding
  cases g.departed <;> rfl

/-- The segment unit once the owed answer is given up, l and w being the line and the responder then. -/
def Segment.departing (g : Segment) (l : Line) (w : Responder) (c : Departure) : Segment :=
  { g with line := l, resp := w, departed := c }

/-- The transactions that a departure ends at once: no frame of theirs is on the line. -/
def Segment.endsAtOnce (g : Segment) : Prop := g.xact = .waiting ∨ g.xact = .ready ∨ g.xact = .started

/-- What a departure makes of the transaction in service: a frame on the line is sent to its end first. -/
def Segment.departWork (v : Segment) : Segment :=
  match v.xact with
  | .ready | .waiting | .started => v.finishUnit v.departEnding .none
  | .sending => { v with xact := .ending v.departEnding }
  | .idle | .ending _ | .lostReport | .lostAnswer => v

theorem Segment.departWork_atOnce {v : Segment} (hx : v.endsAtOnce) :
    v.departWork = v.finishUnit v.departed.ending .none := by
  rw [← Segment.departEnding_eq]
  unfold Segment.departWork
  rcases hx with hx | hx | hx <;> rw [hx]

theorem Segment.departWork_sending {v : Segment} (hx : v.xact = .sending) :
    v.departWork = { v with xact := .ending v.departed.ending } := by
  rw [← Segment.departEnding_eq]
  unfold Segment.departWork
  rw [hx]

theorem Segment.departWork_idle {v : Segment} (hx : v.xact = .idle) : v.departWork = v := by
  unfold Segment.departWork
  rw [hx]

theorem Segment.depart_noRequest {g : Segment} {l : Line} {w : Responder} {c : Departure}
    (ha : g.abandonAnswer = { g with line := l, resp := w }) (hu : g.unit = .none ∨ ∃ e, g.unit = .entry e) :
    g.depart c = (g.departing l w c).departWork := by
  have hb : (match g.unit with
      | .request _ => { g.departing l w c with req := g.req.breakGroup }
      | .none => g.departing l w c
      | .entry _ => g.departing l w c) = g.departing l w c := by
    rcases hu with hu | ⟨e, hu⟩ <;> rw [hu]
  unfold Segment.depart
  rw [ha]
  exact congrArg Segment.departWork hb

theorem Segment.depart_request {g : Segment} {r : ReqUnit} {l : Line} {w : Responder} {c : Departure}
    (ha : g.abandonAnswer = { g with line := l, resp := w }) (hu : g.unit = .request r) :
    g.depart c = Segment.departWork { g.departing l w c with req := g.req.breakGroup } := by
  have hb : (match g.unit with
      | .request _ => { g.departing l w c with req := g.req.breakGroup }
      | .none => g.departing l w c
      | .entry _ => g.departing l w c) = { g.departing l w c with req := g.req.breakGroup } := by rw [hu]
  unfold Segment.depart
  rw [ha]
  exact congrArg Segment.departWork hb

theorem Segment.depart_idle {g : Segment} {l : Line} {w : Responder} {c : Departure}
    (ha : g.abandonAnswer = { g with line := l, resp := w }) (hu : g.unit = .none) (hx : g.xact = .idle) :
    g.depart c = g.departing l w c := by
  rw [Segment.depart_noRequest ha (.inl hu)]
  exact Segment.departWork_idle hx

theorem Segment.depart_sendingEntry {g : Segment} {e : EntryUnit} {l : Line} {w : Responder} {c : Departure}
    (ha : g.abandonAnswer = { g with line := l, resp := w }) (hu : g.unit = .entry e) (hx : g.xact = .sending) :
    g.depart c = { g.departing l w c with xact := .ending c.ending } := by
  rw [Segment.depart_noRequest ha (.inr ⟨e, hu⟩)]
  exact Segment.departWork_sending hx

theorem Segment.depart_sendingRequest {g : Segment} {r : ReqUnit} {l : Line} {w : Responder} {c : Departure}
    (ha : g.abandonAnswer = { g with line := l, resp := w }) (hu : g.unit = .request r) (hx : g.xact = .sending) :
    g.depart c = { g.departing l w c with
      req := { g.req with cond := if g.req.cond = .holding then .breaking else g.req.cond },
      xact := .ending c.ending } := by
  rw [Segment.depart_request ha hu, ReqEngine.breakGroup_eq]
  exact Segment.departWork_sending hx

/-- The poll entry in service ends with its status write, which leaves all but the state and the outcome as read. -/
theorem Segment.depart_entryStatus {g : Segment} {e : EntryUnit} {l : Line} {w : Responder} {c : Departure}
    (ha : g.abandonAnswer = { g with line := l, resp := w }) (hu : g.unit = .entry e) (hx : g.endsAtOnce) :
    g.depart c = { g.departing l w c with
      xact := .idle, unit := .entry { e with step := .status, outcome := some c.ending },
      cycle := { g.cycle with pause := .none },
      waits := { g.waits with unit := some (.write .statusWrite (e.recAddr + 16)
        (Status.bytes { e.st with state := healthOf e.cfg.threshold e.st.miss e.st.heard } c.ending.code)) } } := by
  rw [Segment.depart_noRequest ha (.inr ⟨e, hu⟩)]
  refine Eq.trans (Segment.departWork_atOnce hx) ?_
  refine Eq.trans (Segment.finishUnit_entry (e := e) hu) ?_
  have ho : c.ending ≠ .replied := by cases c <;> simp [Departure.ending]
  refine Eq.trans (Segment.decideEntry_noPause _ _ ho) ?_
  cases c <;> rfl

/-- The request in service ends with its outcome write, and the group it holds is broken. -/
theorem Segment.depart_requestOutcome {g : Segment} {r : ReqUnit} {l : Line} {w : Responder} {c : Departure}
    (ha : g.abandonAnswer = { g with line := l, resp := w }) (hu : g.unit = .request r) (hx : g.endsAtOnce)
    (hs : r.step = .serve) (hb : r.buf = none) (hr : r.succ = .none ∨ r.succ = .fresh ∨ r.succ = .unmet) :
    g.depart c = { g.departing l w c with
      xact := .idle, unit := .request { r with outcome := some c.ending, step := .outcome, doneCycle := g.cycle.number },
      req := { g.req with cond := if g.req.cond = .holding then .breaking else g.req.cond },
      waits := { g.waits with unit := some (r.outcomeWrite c.ending r.used g.cycle.number) } } := by
  have hbreak : { g.req.breakGroup with
      cond := if (c.ending = .framingLost ∨ c.ending = .lineStall ∨ c.ending = .lineLost ∨ c.ending = .collision)
          ∧ g.req.breakGroup.cond = .holding then .breaking else g.req.breakGroup.cond } = g.req.breakGroup := by
    have hn : g.req.breakGroup.cond ≠ .holding := by
      rw [ReqEngine.breakGroup_eq]
      by_cases h : g.req.cond = .holding <;> simp [h]
    simp [hn]
  rw [Segment.depart_request ha hu, ← ReqEngine.breakGroup_eq]
  refine Eq.trans (Segment.departWork_atOnce hx) ?_
  refine Eq.trans (Segment.finishUnit_request (r := r) hu) ?_
  refine Eq.trans (Segment.decideReq_outcome hs (Succ.reading_eq_false hr) hb) ?_
  exact congrArg (fun q : ReqEngine => ({ g.departing l w c with
      xact := .idle, unit := .request { r with outcome := some c.ending, step := .outcome, doneCycle := g.cycle.number },
      req := q,
      waits := { g.waits with unit := some (r.outcomeWrite c.ending r.used g.cycle.number) } } : Segment)) hbreak

/-! ## The entry to ACQUIRING (R28, R30, R32) -/

theorem Segment.enterAcquiring_counts {g : Segment} (h : g.blk.acq ≠ 0) (cs : List Change) :
    g.enterAcquiring cs = { g with
      state := .acquiring, good := 0, line := { g.line with framing := 0 },
      waits := { g.waits with control := some g.progressWait }, prWait := g.prWait ++ cs } := by
  unfold Segment.enterAcquiring
  exact if_neg h

/-- Acquisition count 0 locks at once, after the notice of the change into ACQUIRING. -/
theorem Segment.enterAcquiring_locks {g : Segment} (h : g.blk.acq = 0) (cs : List Change) :
    g.enterAcquiring cs = Segment.enterLocked { g with
      state := .acquiring, good := 0, line := { g.line with framing := 0 },
      waits := { g.waits with control := some g.progressWait }, prWait := g.prWait ++ cs } 0 := by
  unfold Segment.enterAcquiring
  exact if_pos h

/-- With no unit in service a later entry to LOCKED finds nothing that waited for it. -/
theorem Segment.enterLocked_again {g : Segment} (he : g.everLocked = true) (hu : g.unit = .none) (detail : Byte) :
    g.enterLocked detail = g.lockedAt detail := by
  have hh : (g.lockedAt detail).beginHeld = g.lockedAt detail := by
    unfold Segment.beginHeld
    refine if_neg fun h => ?_
    have hu' : (g.lockedAt detail).unit = .none := hu
    rw [hu'] at h
    cases h.2.2
  have hsw : (g.lockedAt detail).beginHeldSweep = g.lockedAt detail := by
    have hu' : (g.lockedAt detail).unit = .none := hu
    unfold Segment.beginHeldSweep
    rw [hu']
  unfold Segment.enterLocked
  refine Eq.trans (if_pos he) ?_
  exact (congrArg Segment.beginHeldSweep hh).trans hsw

/-! ## The third fault in a row (R20, R32) -/

/-- The segment unit at the report of a framing fault in LOCKED, the fault counted. -/
def Segment.faultCounted (g : Segment) (a : Assembly) : Segment :=
  { g with line := { g.line.reported a with framing := g.line.framing + 1 },
           counters := { g.counters with framingFaults := g.counters.framingFaults + 1 } }

theorem Segment.faultCounted_abandons {g : Segment} {a : Assembly} {l : Line} {w : Responder}
    (h : g.GivesUpAnswer (g.line.reported a) l w) :
    (g.faultCounted a).abandonAnswer
      = { g.faultCounted a with line := { l with framing := g.line.framing + 1 }, resp := w } :=
  Segment.abandonAnswer_givesUp
    (g := { g with counters := { g.counters with framingFaults := g.counters.framingFaults + 1 } })
    (l := { g.line.reported a with framing := g.line.framing + 1 })
    (Segment.GivesUpAnswer.map (fun x : Line => { x with framing := g.line.framing + 1 })
      (fun x b => Line.release_framing _ x b) h)

/-- The report of a fault that loses the lock: v is the segment unit after the departure. -/
theorem Segment.report_lockLoss {g v : Segment} {a : Assembly} (ha : g.line.asm = some a) (hf : g.faultHeld = none)
    (hs : g.state = .locked) (hff : a.framingFault = true) (h3 : 3 ≤ g.line.framing + 1)
    (hv : (g.faultCounted a).lockLoss = v) (hvs : v.state ≠ .locked) (hw : v.awaitsNoReport) : g.report = v := by
  have hc : Segment.countFraming { g with line := g.line.reported a } a.framingFault (a.cls == .good) = v := by
    rw [hff]
    exact Eq.trans (Segment.countFraming_third (g := { g with line := g.line.reported a }) h3) hv
  rw [Segment.report_locked ha hf hs hc, if_neg hvs, Segment.afterReport_none hw]

/-- The lock is lost and the segment counts towards the next one: v is the segment unit after the departure. -/
theorem Segment.report_lockLost {g v : Segment} {a : Assembly} (ha : g.line.asm = some a) (hf : g.faultHeld = none)
    (hs : g.state = .locked) (hff : a.framingFault = true) (h3 : 3 ≤ g.line.framing + 1)
    (hv : (g.faultCounted a).depart .lockLoss = v) (hacq : v.blk.acq ≠ 0) (hw : v.awaitsNoReport) :
    g.report = { v with
      state := .acquiring, good := 0, line := { v.line with framing := 0 },
      waits := { v.waits with control := some v.progressWait }, prWait := v.prWait ++ [⟨.lockLost, 0⟩] } := by
  refine Segment.report_lockLoss ha hf hs hff h3 ?_ (by simp) hw
  unfold Segment.lockLoss
  rw [hv, Segment.enterAcquiring_counts hacq]

/-- The lock is lost with no unit in service and acquisition count 0: the segment locks again at once. -/
theorem Segment.report_locksAgain {g v : Segment} {a : Assembly} (ha : g.line.asm = some a) (hf : g.faultHeld = none)
    (hs : g.state = .locked) (hff : a.framingFault = true) (hc : a.cls ≠ .good) (h3 : 3 ≤ g.line.framing + 1)
    (hv : (g.faultCounted a).depart .lockLoss = v) (hacq : v.blk.acq = 0) (he : v.everLocked = true)
    (hu : v.unit = .none) (hx : v.xact ≠ .started) (hw : v.awaitsNoReport) :
    g.report = { v with
      state := .locked, good := 0, line := { v.line with framing := 0 },
      waits := { v.waits with control := some v.progressWait },
      prWait := v.prWait ++ [⟨.lockLost, 0⟩, ⟨.segmentLocked, 0⟩] } := by
  have hl : Segment.countFraming { g with line := g.line.reported a } a.framingFault (a.cls == .good) = { v with
      state := .locked, good := 0, line := { v.line with framing := 0 },
      waits := { v.waits with control := some v.progressWait },
      prWait := v.prWait ++ [⟨.lockLost, 0⟩, ⟨.segmentLocked, 0⟩] } := by
    rw [hff]
    refine Eq.trans (Segment.countFraming_third (g := { g with line := g.line.reported a }) h3) ?_
    refine Eq.trans (b := v.enterAcquiring [⟨.lockLost, 0⟩]) (congrArg (fun x => Segment.enterAcquiring x _) hv) ?_
    rw [Segment.enterAcquiring_locks hacq]
    refine Eq.trans (Segment.enterLocked_again ?_ ?_ 0) ?_
    · exact he
    · exact hu
    · unfold Segment.lockedAt Segment.reqProgress
      dsimp only
      rw [List.append_assoc]
      rfl
  rw [Segment.report_locked ha hf hs hl, if_pos rfl]
  refine Eq.trans (congrArg (fun x : Segment => x.afterReport a) (Segment.handOver_other ?_ hc)) ?_
  · exact hx
  · refine Segment.afterReport_none ?_ a
    exact hw

/-- The report of a framing fault in LOCKED that is neither the third in a row nor the awaited answer. -/
theorem Segment.report_fewFaults {g : Segment} {a : Assembly} (ha : g.line.asm = some a) (hf : g.faultHeld = none)
    (hw : g.awaitsNoReport) (hs : g.state = .locked) (hx : g.xact ≠ .started) (hff : a.framingFault = true)
    (hc : a.cls ≠ .good) (hn : g.line.framing + 1 < 3) : g.report = g.faultCounted a := by
  have hcount : Segment.countFraming { g with line := g.line.reported a } a.framingFault (a.cls == .good)
      = g.faultCounted a := by
    rw [hff]
    exact Segment.countFraming_few (g := { g with line := g.line.reported a }) hn
  rw [Segment.report_handOver ha hf hs hcount]
  refine Eq.trans (congrArg (fun v : Segment => v.afterReport a) (Segment.handOver_other ?_ hc)) ?_
  · exact hx
  · refine Segment.afterReport_none ?_ a
    exact hw

/-! ## Classes and framing faults (R8, R19) -/

theorem Assembly.cls_broken {a : Assembly} (h : a.broken = true) : a.cls = .broken := by
  unfold Assembly.cls
  rw [if_pos h]

theorem Assembly.cls_whole {a : Assembly} (hb : a.broken = false) (hf : a.fail = none) :
    a.cls = if 6 ≤ a.chars.length ∧ a.chars.length = 8 + (lenOf a.chars).toNat then
      (if crcGood a.chars then .good else .damaged) else .broken := by
  unfold Assembly.cls
  simp [hb, hf, Assembly.complete]

theorem Assembly.cls_noSync {a : Assembly} (hb : a.broken = false) (hf : a.fail = some .noSync) : a.cls = .noSync := by
  unfold Assembly.cls
  simp [hb, hf]

theorem Assembly.cls_badHeader {a : Assembly} {cause : HeaderFail} (hb : a.broken = false) (hf : a.fail = some cause)
    (hc : cause ≠ .noSync) : a.cls = .badHeader cause := by
  unfold Assembly.cls
  cases cause with
  | noSync => exact absurd rfl hc
  | _ => simp [hb, hf]

/-- The classes that are framing faults whatever the characters (R19). -/
def Class.framingFault : Class → Bool
  | .noSync => true
  | .badHeader cause => cause == .checkMismatch || cause == .reservedBits
  | _ => false

theorem Assembly.cls_framingFault (a : Assembly) :
    a.cls.framingFault = true
      ↔ a.broken = false ∧ (a.fail = some .noSync ∨ a.fail = some .checkMismatch ∨ a.fail = some .reservedBits) := by
  cases hb : a.broken with
  | true => simp [Assembly.cls_broken hb, Class.framingFault]
  | false =>
    cases hf : a.fail with
    | none =>
      rw [Assembly.cls_whole hb hf]
      repeat' split
      all_goals simp [Class.framingFault]
    | some cause =>
      cases cause with
      | noSync => simp [Assembly.cls_noSync hb hf, Class.framingFault]
      | _ => simp [Assembly.cls_badHeader hb hf, Class.framingFault]

theorem Assembly.framingFault_iff (a : Assembly) :
    a.framingFault = true ↔ (a.own = 0 ∨ a.foreign = true) ∧ (a.framing = true ∨ (a.broken = false
      ∧ (a.fail = some .noSync ∨ a.fail = some .checkMismatch ∨ a.fail = some .reservedBits))) := by
  have hdef : a.framingFault = ((decide (a.own = 0) || a.foreign) && (a.framing || a.cls.framingFault)) := rfl
  rw [hdef, Bool.and_eq_true, Bool.or_eq_true, Bool.or_eq_true, decide_eq_true_eq, Assembly.cls_framingFault]

/-! ## The obligation -/

/-- Settles O37: few faults by the report with no taker, the third by the departure of what is in service, the awaited
answer by its judgement, and the classes by their definition. -/
theorem framingFaultsLoseLock : Obligations.FramingFaultsLoseLock := by
  refine ⟨fun s k g a hg ha hf hw hs hx => ⟨fun hff hc hn => ?_, fun l r hff h3 hacq hu hi hup => ?_,
      fun l r hff hc h3 hacq he hu hi hup => ?_, fun hff hc => ?_⟩,
    fun s k g a e l w hg ha hf hw hs hx hu hup hff h3 hacq => ?_,
    fun s k g a r l w hg ha hf hw hs hx hu hst hb hr hup hff h3 hacq => ?_,
    fun s k g a e hg ha hf hw hs hx hu hff hc hd hn hm => ?_,
    fun a => ⟨Assembly.cls_broken, Assembly.cls_noSync, fun cause hb hf hc => Assembly.cls_badHeader hb hf hc,
      Assembly.cls_whole, a.framingFault_iff⟩⟩
  · exact exec_after rfl hg (Segment.report_fewFaults ha hf hw hs hx hff hc hn)
  · exact exec_after rfl hg (Segment.report_lockLost ha hf hs hff h3
      (Segment.depart_idle (Segment.faultCounted_abandons hup) hu hi) hacq hw)
  · exact exec_after rfl hg (Segment.report_locksAgain ha hf hs hff hc h3
      (Segment.depart_idle (Segment.faultCounted_abandons hup) hu hi) hacq he hu hx hw)
  · refine exec_after rfl hg (Eq.trans (Segment.report_counts (n := g.good) (c := g.line.framing) ha hf
      (.inr (.inr (.inr ⟨hs, hx, hff, rfl, .inl ⟨hc, rfl⟩⟩)))) ?_)
    refine Segment.afterReport_none ?_ a
    exact hw
  · obtain ⟨hgap, -, -⟩ := hw
    exact exec_after rfl hg (Segment.report_lockLost ha hf hs hff h3
      (Segment.depart_entryStatus (Segment.faultCounted_abandons hup) hu hx) hacq ⟨hgap, by simp, by simp⟩)
  · obtain ⟨hgap, hpause, -⟩ := hw
    exact exec_after rfl hg (Segment.report_lockLost ha hf hs hff h3
      (Segment.depart_requestOutcome (Segment.faultCounted_abandons hup) hu hx hst hb hr) hacq
      ⟨hgap, hpause, by simp⟩)
  · have hnone : (if a.cls = .good ∨ a.cls = .damaged then some a.frame else none) = none :=
      if_neg (by simp [hc, hd])
    refine exec_after rfl hg ((Segment.report_awaited ha hf hw hs hx fun _ => hn).trans ?_)
    rw [hff, hnone]
    refine Eq.trans (Segment.answerReported_entryNone hu) ?_
    exact Segment.attemptFails_entry hu hm

end Sys2Proof.Machine

/-! The stall report and the stall's end (R18, R28, R30, R33, R34, R35). -/

namespace Sys2Proof.Machine

/-! ## The stall report -/

/-- The segment unit with a stall noted. -/
def Segment.stallNoted (g : Segment) : Segment := { g with line := { g.line with stalled := true, idle := false } }

/-- The frame in assembly is reported first: v is the segment unit after that. -/
theorem Segment.stallReport_enters {g v : Segment} (hl : g.live = true) (hn : g.line.stalled = false) (hr : g.report = v)
    (hs : v.state = .acquiring ∨ v.state = .locked) : g.stallReport = v.stallNoted.enterStalled := by
  unfold Segment.stallReport
  rw [if_pos ⟨hl, hn⟩, hr]
  rcases hs with hs | hs
  · simp only [Segment.setLine_state, hs]
    rfl
  · simp only [Segment.setLine_state, hs]
    rfl

theorem Segment.stallReport_notes {g v : Segment} (hl : g.live = true) (hn : g.line.stalled = false) (hr : g.report = v)
    (hs : v.state = .settling ∨ v.state = .stopping) : g.stallReport = v.stallNoted := by
  unfold Segment.stallReport
  rw [if_pos ⟨hl, hn⟩, hr]
  rcases hs with hs | hs
  · simp only [Segment.setLine_state, hs]
    rfl
  · simp only [Segment.setLine_state, hs]
    rfl

theorem Segment.stallReport_stalled {g : Segment} (h : g.line.stalled = true) : g.stallReport = g := by
  unfold Segment.stallReport
  rw [if_neg]
  rintro ⟨-, hn⟩
  rw [h] at hn
  cases hn

/-- The segment unit in STALLED, with the notice of the stall owed to the record write. -/
def Segment.stalledNow (g : Segment) : Segment :=
  { g with
    state := .stalled, good := 0, line := { g.line with framing := 0 },
    waits := { g.waits with control := some g.progressWait }, prWait := g.prWait ++ [⟨.lineStall, 0⟩] }

theorem Segment.enterStalled_unlocked {g : Segment} (hs : g.state ≠ .locked) :
    g.enterStalled = g.stalledNow := by
  unfold Segment.enterStalled
  rw [if_neg hs]
  rfl

/-- Out of LOCKED the segment departs first: v is the segment unit after that. -/
theorem Segment.enterStalled_locked {g v : Segment} (hs : g.state = .locked) (hd : g.depart .stall = v) :
    g.enterStalled = v.stalledNow := by
  unfold Segment.enterStalled
  rw [if_pos hs, hd]
  rfl

/-! ## A stall of a LOCKED segment -/

/-- The segment unit as a stall finds it in LOCKED: the line l with m framing faults in a row, and n counted, once the
frame in assembly, if any, has been reported. -/
def Segment.stallFound (g : Segment) (l : Line) (m : Nat) (n : Word) : Segment :=
  { g with line := { l with framing := m, stalled := true, idle := false },
           counters := { g.counters with framingFaults := n } }

theorem Segment.stallFound_abandons {g : Segment} {l l' : Line} {w : Responder} (m : Nat) (n : Word)
    (h : g.GivesUpAnswer l' l w) :
    (g.stallFound l' m n).abandonAnswer
      = { g.stallFound l' m n with line := { l with framing := m, stalled := true, idle := false }, resp := w } :=
  Segment.abandonAnswer_givesUp (g := { g with counters := { g.counters with framingFaults := n } })
    (l := { l' with framing := m, stalled := true, idle := false })
    (Segment.GivesUpAnswer.map (fun x : Line => { x with framing := m, stalled := true, idle := false })
      (fun x b => by cases b <;> rfl) h)

/-- The report that a stall makes in LOCKED of the frame in assembly, if there is one. -/
theorem Segment.stallReport_found {g : Segment} {l' : Line} {n : Word} (hf : g.faultHeld = none)
    (hn : g.line.stalled = false) (hs : g.state = .locked)
    (h : g.line.asm = none ∧ l' = g.line ∧ n = g.counters.framingFaults
      ∨ (∃ a, g.line.asm = some a ∧ a.cls ≠ .good ∧ a.framingFault = true ∧ g.line.framing + 1 < 3
          ∧ g.xact ≠ .started ∧ g.awaitsNoReport ∧ l' = g.line.reported a ∧ n = g.counters.framingFaults + 1)) :
    ∃ m, g.stallReport = (g.stallFound l' m n).enterStalled := by
  have hl : g.live = true := Segment.live_of (by simp [hs]) (by simp [hs]) hf
  rcases h with ⟨ha, rfl, rfl⟩ | ⟨a, ha, hc, hff, h3, hx, hw, rfl, rfl⟩
  · exact ⟨g.line.framing, Segment.stallReport_enters hl hn (Segment.report_none (.inl ha)) (.inr hs)⟩
  · exact ⟨g.line.framing + 1,
      Segment.stallReport_enters hl hn (Segment.report_fewFaults ha hf hw hs hx hff hc h3) (.inr hs)⟩

/-! ## The end of a stall -/

/-- The segment unit with the note of a stall cleared. -/
def Segment.stallCleared (g : Segment) : Segment := { g with line := { g.line with stalled := false, idle := true } }

theorem Segment.stallEnd_stalled {g : Segment} (hf : g.faultHeld = none) (hs : g.state = .stalled)
    (hn : g.line.stalled = true) :
    g.stallEnd = g.stallCleared.enterAcquiring [] := by
  unfold Segment.stallEnd
  rw [if_pos ⟨Segment.live_of (by simp [hs]) (by simp [hs]) hf, hn⟩]
  exact if_pos hs

theorem Segment.stallEnd_clears {g : Segment} (hl : g.live = true) (hs : g.state ≠ .stalled)
    (hn : g.line.stalled = true) :
    g.stallEnd = g.stallCleared := by
  unfold Segment.stallEnd
  rw [if_pos ⟨hl, hn⟩]
  exact if_neg hs

theorem Segment.stallEnd_none {g : Segment} (h : g.line.stalled = false) : g.stallEnd = g := by
  unfold Segment.stallEnd
  rw [if_neg]
  rintro ⟨-, hn⟩
  rw [h] at hn
  cases hn

/-! ## The obligation -/

/-- Settles O40: outside LOCKED the entry to STALLED as a value, in LOCKED the departure of what is in service, and the
stall's end by the acquisition count. -/
theorem stallReportAndStallEnd : Obligations.StallReportAndStallEnd := by
  refine ⟨fun s k g hg hf hn => ⟨fun hs ha => ?_, fun a hs ha hc hw => ?_, fun hs ha => ?_⟩,
    fun s k g l l' w n hg hf hn hs hup h => ?_,
    fun s k g hg hf => ⟨fun hs hn hacq => ?_, fun hs hn hacq => ?_, fun h1 h2 h3 hn => ?_, fun hn => ?_, fun hn => ?_⟩⟩
  · refine exec_after rfl hg ((Segment.stallReport_enters (Segment.live_of (by simp [hs]) (by simp [hs]) hf) hn
      (Segment.report_none (.inl ha)) (.inl hs)).trans ?_)
    exact Segment.enterStalled_unlocked (g := g.stallNoted) (by simp [Segment.stallNoted, hs])
  · have hl : g.live = true := Segment.live_of (by simp [hs]) (by simp [hs]) hf
    have hrep : g.report = { g with line := g.line.reported a, good := 0 } := by
      refine (Segment.report_counts (n := 0) (c := g.line.framing) ha hf (.inr (.inl ⟨hs, hc, rfl, rfl⟩))).trans ?_
      refine Segment.afterReport_none ?_ a
      exact hw
    refine exec_after rfl hg ((Segment.stallReport_enters hl hn hrep (.inl hs)).trans ?_)
    exact Segment.enterStalled_unlocked
      (g := Segment.stallNoted { g with line := g.line.reported a, good := 0 }) (by simp [Segment.stallNoted, hs])
  · have hl : g.live = true := by
      rcases hs with hs | hs <;> exact Segment.live_of (by simp [hs]) (by simp [hs]) hf
    exact exec_after rfl hg (Segment.stallReport_notes hl hn (Segment.report_none (.inl ha)) hs)
  · obtain ⟨m, hm⟩ := Segment.stallReport_found hf hn hs h
    have hab := Segment.stallFound_abandons m n hup
    have hlock : ∀ v : Segment, (g.stallFound l' m n).depart .stall = v →
        exec (.stallReport k) s = .next (s.afterEvent k v.stalledNow []) := fun v hv =>
      exec_after rfl hg (hm.trans (Segment.enterStalled_locked hs hv))
    refine ⟨fun hu hx => ?_, fun e hu hx => ?_, fun r hu hx hst hb hr => ?_, fun e hu hx => ?_, fun r hu hx => ?_⟩
    · exact (hlock _ (Segment.depart_idle hab hu hx) :)
    · exact (hlock _ (Segment.depart_entryStatus hab hu hx) :)
    · exact (hlock _ (Segment.depart_requestOutcome hab hu hx hst hb hr) :)
    · exact (hlock _ (Segment.depart_sendingEntry hab hu hx) :)
    · exact (hlock _ (Segment.depart_sendingRequest hab hu hx) :)
  · refine exec_after rfl hg ((Segment.stallEnd_stalled hf hs hn).trans
      (Eq.trans (Segment.enterAcquiring_counts (g := g.stallCleared) hacq []) ?_))
    rw [List.append_nil]
    rfl
  · have hend := (Segment.stallEnd_stalled hf hs hn).trans (Segment.enterAcquiring_locks (g := g.stallCleared) hacq [])
    rw [List.append_nil] at hend
    refine ⟨_, exec_after rfl hg hend, ?_⟩
    obtain ⟨h1, h2, -, -, h5, -⟩ := State.afterEvent_enterLocked s k (detail := 0) (g := { g with
      line := { g.line with stalled := false, idle := true, framing := 0 }, state := .acquiring, good := 0,
      waits := { g.waits with control := some g.progressWait } }) hf
    exact ⟨h1, h2, h5⟩
  · exact exec_after rfl hg (Segment.stallEnd_clears (Segment.live_of h2 h3 hf) h1 hn)
  · exact exec_after rfl hg (Segment.stallEnd_none hn)
  · exact exec_after rfl hg (Segment.stallReport_stalled hn)

end Sys2Proof.Machine

/-! The frames that begin on the line (R5, R12, R13, R72, R130, R140). -/

namespace Sys2Proof.Machine

/-! ## What the transmitter begins -/

/-- With no answer due the frame of the transaction begins, if it may. -/
theorem Segment.tryBegin_work {g : Segment} (hs : g.working = true) (ht : g.line.tx = none)
    (hp : ∀ p, g.resp.pend = some p → p.due = false) (hx : g.xact = .ready) (hm : g.workMayBegin = true) :
    g.tryBegin = g.beginWork := by
  unfold Segment.tryBegin
  rw [if_pos ⟨hs, ht⟩, Segment.beginAnswer_notDue hp]
  exact if_pos ⟨ht, hx, hm⟩

/-- An answer that is due begins ahead of any work frame. -/
theorem Segment.tryBegin_answer {g : Segment} {p : Pend} (hs : g.working = true) (ht : g.line.tx = none)
    (hp : g.resp.pend = some p) (hd : p.due = true) :
    g.tryBegin = (g.drive p.frame).setPend (some { p with begun := true }) := by
  have hb : g.beginAnswer = (g.drive p.frame).setPend (some { p with begun := true }) := by
    unfold Segment.beginAnswer
    rw [hp]
    exact if_pos hd
  unfold Segment.tryBegin
  rw [if_pos ⟨hs, ht⟩, hb]
  refine if_neg ?_
  rintro ⟨h, -⟩
  cases h

theorem Segment.workMayBegin_entry {g : Segment} {e : EntryUnit} (hu : g.unit = .entry e) :
    g.workMayBegin = (g.line.tracker == .free) := by
  unfold Segment.workMayBegin
  rw [hu]
  rfl

/-- The frame of a poll entry is its POLL (R72). -/
theorem Segment.beginWork_entry {g : Segment} {e : EntryUnit} (hu : g.unit = .entry e) :
    g.beginWork = { g.drive ⟨buildFrame e.cfg.addr g.blk.own0 (ctrlByte .poll false (e.st.lastSeq == some true))
      (e.cfg.payload.take e.cfg.payLen.toNat), .poll, false⟩ with xact := .sending } := by
  have hw : g.workFrame = some ⟨buildFrame e.cfg.addr g.blk.own0 (ctrlByte .poll false (e.st.lastSeq == some true))
      (e.cfg.payload.take e.cfg.payLen.toNat), .poll, false⟩ := by
    unfold Segment.workFrame
    rw [hu]
  have hn : ¬g.unit.isRequest = true := by rw [hu]; simp [WorkUnit.isRequest]
  unfold Segment.beginWork
  rw [hw]
  exact if_neg hn

/-! ## The control bytes of the frames (R5) -/

theorem ctrlByte_poll (q : Option Bool) :
    ctrlByte .poll false (q == some true) = if q = some true then 0x10 else 0x00 := by
  by_cases h : q = some true
  · rw [if_pos h, h]; rfl
  · have hn : (q == some true) = false := by simp [h]
    rw [if_neg h, hn]; rfl

theorem ctrlByte_reply (seq : Bool) : ctrlByte .reply seq false = if seq then 0x09 else 0x01 := by
  cases seq <;> rfl

/-! ## The epilogue begins what is due -/

/-- With a unit in service and nothing owed by the responder only the frame of the transaction can begin. -/
theorem State.afterEvent_tryBegin {s : State} {k : Seg} {g : Segment} {ns : List Notice} (hs : g.state = .locked)
    (hf : g.faultHeld = none) (hu : g.unit ≠ .none) (hx : g.xact ≠ .lostAnswer) (hq : g.resp.quiet) :
    (s.afterEvent k g ns).segs.get k = g.tryBegin := by
  rw [State.afterEvent_seg, Work.finish_inService (w := s.workWith k g ns) hs hf hu (.inl hx),
    Work.respDue_quiet (w := s.workWith k g ns) hq, State.workWith_seg]

/-- The epilogue begins the answer that is due, whatever the tracker holds and whatever work frame is ready. -/
theorem Work.finish_answer {w : Work} {p : Pend} (hs : w.seg.state = .locked) (hf : w.seg.faultHeld = none)
    (ht : w.seg.line.tx = none) (hp : w.seg.resp.pend = some p) (hturn : p.turn = true) (hb : p.begun = false)
    (ha : p.ans ≠ .undecided) :
    w.finish.seg.line.tx = some p.frame ∧ w.finish.seg.line.tracker = .busy
      ∧ ∃ q, w.finish.seg.resp.pend = some q ∧ q.begun = true := by
  have hk := (Segment.kick_side w.seg.lostDue).trans (Segment.lostDue_side w.seg)
  simp only [Segment.side, Prod.mk.injEq] at hk
  obtain ⟨hkr, hkl, -⟩ := hk
  have hc := (Segment.kick_ctl w.seg.lostDue).trans (Segment.lostDue_ctl w.seg)
  simp only [Segment.ctl, Prod.mk.injEq] at hc
  obtain ⟨hcs, -, hcf, -⟩ := hc
  obtain ⟨r, n, u, rd, hr, hrp⟩ := Work.respDue_frame (w.on fun s => s.lostDue.kick)
  rw [Work.on_seg, hkr, hp] at hrp
  have hseg : (w.on fun s => s.lostDue.kick).respDue.seg = { w.seg.lostDue.kick with
      resp := r, waits := { w.seg.lostDue.kick.waits with responder := n, urgent := u } } := by rw [hr]; rfl
  have hbegin := Segment.tryBegin_answer (g := (w.on fun s => s.lostDue.kick).respDue.seg)
    (p := { p with read := rd }) (by rw [hseg]; simp [Segment.working, hcs, hs, hcf, hf])
    (by rw [hseg]; exact (congrArg Line.tx hkl).trans ht) (by rw [hseg]; exact hrp)
    (by simp [Pend.due, hturn, hb, ha])
  rw [Work.finish_locked hf hs]
  obtain ⟨h1, -⟩ := Work.stopCheck_responder ((w.on fun s => s.lostDue.kick).respDue.on Segment.tryBegin)
  rw [Work.stopCheck_line, h1, Work.on_seg, hbegin]
  exact ⟨rfl, rfl, _, rfl, rfl⟩

/-! ## The obligation -/

/-- Settles O56: the POLL of a ready entry by the tracker, and the owed answer by what it was decided to be. -/
theorem framesBeginWhenDue : Obligations.FramesBeginWhenDue := by
  refine ⟨fun s k g e ns hs hf hu hx ht hq => ?_, fun s k g p ns hs hf ht hp hturn hb => ?_⟩
  · have hpend : ∀ p, g.resp.pend = some p → p.due = false := fun p hp => by
      rw [hq.1] at hp
      cases hp
    have hafter := State.afterEvent_tryBegin (s := s) (k := k) (ns := ns) hs hf (by simp [hu]) (by simp [hx]) hq
    refine ⟨fun hfree => ?_, fun hbusy => ?_⟩
    · rw [hafter, Segment.tryBegin_work (by simp [Segment.working, hs, hf]) ht hpend hx
        (by rw [Segment.workMayBegin_entry hu, hfree]; rfl), Segment.beginWork_entry hu, ctrlByte_poll]
      rfl
    · rw [hafter, Segment.tryBegin_nothing hpend (.inr (by rw [Segment.workMayBegin_entry hu]; simp [hbusy]))]
  · rw [State.afterEvent_seg]
    have hbegin := Work.finish_answer (w := s.workWith k g ns) hs hf ht hp hturn hb
    refine ⟨fun r ha => ?_, fun ha => ?_, fun ha => ?_, fun ha => ?_⟩
    · rw [(hbegin (by simp [ha])).1]
      unfold Pend.frame
      rw [ha, ← ctrlByte_reply]
    · rw [(hbegin (by simp [ha])).1]
      unfold Pend.frame
      rw [ha]
      rfl
    · rw [(hbegin (by simp [ha])).1]
      unfold Pend.frame
      rw [ha]
      rfl
    · exact (hbegin ha).2

end Sys2Proof.Machine

/-! The capture of a poll entry (R56, R92 to R98): the accesses of a slot, and its body. -/

namespace Sys2Proof.Machine

/-! ## The accesses of a capture -/

/-- The three accesses of a capture are those of the entry in service. -/
theorem Work.accessDone_capture {w : Work} {e : EntryUnit} {a : Access} (hu : w.seg.unit = .entry e)
    (ho : a.op = .capMarkerRead ∨ a.op = .capBody ∨ a.op = .capMarkerWrite) (d : List Byte) :
    w.accessDone a d = w.entryDone e a.op d := by
  unfold Work.accessDone
  rcases ho with ho | ho | ho <;> rw [ho] <;> dsimp only <;> rw [hu]

theorem rdHalf_pair_zero (lo hi : Byte) : rdHalf [lo, hi] 0 = 0 ↔ lo = 0 ∧ hi = 0 := by
  have h : rdHalf [lo, hi] 0 = hi ++ lo := rfl
  rw [h]
  constructor
  · intro hz
    have hn : hi.toNat <<< 8 ||| lo.toNat = 0 := by
      rw [← BitVec.toNat_append, hz]
      rfl
    obtain ⟨h1, h2⟩ := Nat.or_eq_zero_iff.mp hn
    rw [Nat.shiftLeft_eq] at h1
    have h3 : hi.toNat = 0 := by omega
    exact ⟨BitVec.eq_of_toNat_eq h2, BitVec.eq_of_toNat_eq h3⟩
  · rintro ⟨rfl, rfl⟩
    rfl

theorem Segment.entryFrame_held {g : Segment} {e : EntryUnit} {b : Buf} {f : RxFrame} (hb : e.buf = some b)
    (hf : g.line.held b = some f) : g.entryFrame e = f := by
  unfold Segment.entryFrame Segment.frameIn
  rw [hb]
  simp [hf]

/-- A clear marker draws the body write. -/
theorem Work.capMarkerDone_clear {w : Work} {e : EntryUnit} {b : Buf} {f : RxFrame} {lo hi : Byte} (hb : e.buf = some b)
    (hf : w.seg.line.held b = some f) (h : lo = 0 ∧ hi = 0) :
    w.capMarkerDone e [lo, hi] = { w with seg := { w.seg with
      unit := .entry { e with step := .capBody },
      waits := { w.seg.waits with unit := some ⟨.capBody, w.seg.capSlot, 0,
        placeAt (w.seg.capSlot + 2) (captureBody e f w.seg.cycle.number)⟩ } } } := by
  unfold Work.capMarkerDone
  rw [if_pos ((rdHalf_pair_zero lo hi).mpr h)]
  have hframe := Segment.entryFrame_held (g := w.seg) hb hf
  subst hframe
  rfl

/-- A set marker drops the capture: the drop is counted in the status write, and CAPTURE_FULL raised at the first. -/
theorem Work.capMarkerDone_set {w : Work} {e : EntryUnit} {b : Buf} {lo hi : Byte} (hb : e.buf = some b)
    (h : ¬(lo = 0 ∧ hi = 0)) :
    w.capMarkerDone e [lo, hi] = { w with
      seg := Segment.writeStatus { w.seg with line := w.seg.line.release b, cap := { w.seg.cap with full := true } }
        { e with buf := none, dropped := true } .replied,
      notices := if w.seg.cap.full then w.notices
        else w.notices ++ [{ kind := .captureFull, seg := segByte w.k, station := e.station, addr := e.cfg.addr,
                             detail := 0, cycle := w.seg.cycle.number, ref := w.seg.capSlot }] } := by
  unfold Work.capMarkerDone
  rw [if_neg fun hz => h ((rdHalf_pair_zero lo hi).mp hz)]
  simp only [hb]
  cases hc : w.seg.cap.full <;> rfl

theorem Segment.capBodyDone_eq {g : Segment} {e : EntryUnit} {b : Buf} (hb : e.buf = some b) :
    g.capBodyDone e = { g with
      unit := .entry { e with step := .capMark, buf := none }, line := g.line.release b,
      waits := { g.waits with unit := some ⟨.capMarkerWrite, g.capSlot, 0, [(g.capSlot, 1), (g.capSlot + 1, 0)]⟩ } } := by
  unfold Segment.capBodyDone
  rw [hb]
  rfl

/-! ## The block marks of a slot (R96, R97) -/

/-- Bit i of marks set one after another. -/
theorem getLsbD_foldl_marks (l : List Nat) (acc : Byte) (i : Nat) :
    (l.foldl (fun acc b => acc ||| BitVec.ofNat 8 (2 ^ b)) acc).getLsbD i = true
      ↔ acc.getLsbD i = true ∨ i < 8 ∧ i ∈ l := by
  induction l generalizing acc with
  | nil => simp
  | cons b l ih =>
    rw [List.foldl_cons, ih, BitVec.getLsbD_or, BitVec.getLsbD_ofNat, Nat.testBit_two_pow]
    simp only [Bool.or_eq_true, Bool.and_eq_true, decide_eq_true_eq, List.mem_cons, eq_comm (a := b)]
    tauto

theorem getLsbD_blockMarks (n : Nat) (p : Nat → Bool) (b : Nat) :
    (blockMarks n p).getLsbD b = true
      ↔ b < 4 ∧ ∃ i, 16 * b ≤ i ∧ i < 16 * b + 16 ∧ i < n ∧ p i = true := by
  have hmem : b ∈ [0, 1, 2, 3] ↔ b < 4 := by simp; omega
  have hany : ((List.range 16).any fun j => decide (16 * b + j < n) && p (16 * b + j)) = true
      ↔ ∃ i, 16 * b ≤ i ∧ i < 16 * b + 16 ∧ i < n ∧ p i = true := by
    simp only [List.any_eq_true, List.mem_range, Bool.and_eq_true, decide_eq_true_eq]
    constructor
    · rintro ⟨j, hj, hn, hp⟩
      exact ⟨16 * b + j, by omega, by omega, hn, hp⟩
    · rintro ⟨i, h1, h2, hn, hp⟩
      obtain ⟨j, rfl⟩ := Nat.exists_eq_add_of_le h1
      exact ⟨j, by omega, hn, hp⟩
  unfold blockMarks
  rw [getLsbD_foldl_marks, List.mem_filter, hmem, hany]
  simp only [BitVec.ofNat_eq_ofNat, BitVec.getLsbD_zero, Bool.false_eq_true, false_or]
  constructor
  · exact fun h => h.2
  · exact fun h => ⟨by omega, h⟩

theorem getLsbD_padMarks (len n b : Nat) :
    (padMarks len n).getLsbD b = true ↔ b < 4 ∧ ∃ i, 16 * b ≤ i ∧ i < 16 * b + 16 ∧ len ≤ i ∧ i < n := by
  unfold padMarks
  rw [getLsbD_blockMarks]
  simp only [decide_eq_true_eq, and_comm (a := _ < n)]

theorem damageMarks_good {f : RxFrame} (h : f.good = true) (n : Nat) : damageMarks f n = 0 := by
  unfold damageMarks
  simp [h]

/-- With a marked data byte the blocks that hold one are marked. -/
theorem damageMarks_marked {f : RxFrame} {n : Nat} (h : f.good = false)
    (hm : ∃ i, i < min (lenOf f.chars).toNat n ∧ 6 + i ∈ f.marks) :
    damageMarks f n = blockMarks (min (lenOf f.chars).toNat n) fun i => f.marks.contains (6 + i) := by
  have hany : ((List.range (min (lenOf f.chars).toNat n)).any fun i => f.marks.contains (6 + i)) = true := by
    simpa only [List.any_eq_true, List.mem_range, List.contains_iff_mem] using hm
  unfold damageMarks
  simp only [h, hany]
  rfl

/-- With none every block that holds data is marked. -/
theorem damageMarks_unmarked {f : RxFrame} {n : Nat} (h : f.good = false)
    (hm : ¬∃ i, i < min (lenOf f.chars).toNat n ∧ 6 + i ∈ f.marks) :
    damageMarks f n = blockMarks (min (lenOf f.chars).toNat n) fun _ => true := by
  have hany : ((List.range (min (lenOf f.chars).toNat n)).any fun i => f.marks.contains (6 + i)) = false := by
    rw [Bool.eq_false_iff]
    intro hc
    exact hm (by simpa only [List.any_eq_true, List.mem_range, List.contains_iff_mem] using hc)
  unfold damageMarks
  simp only [h, hany]
  rfl

/-! ## The data and the flags of a slot (R94, R95) -/

theorem captureData_length (l : List Byte) (n : Nat) : (captureData l n).length = n := by
  unfold captureData
  simp only [List.length_append, List.length_take, List.length_replicate]
  omega

theorem captureData_getElem? {l : List Byte} {n i : Nat} (h : i < n) :
    (captureData l n)[i]? = some (if i < l.length then l.getD i 0 else 0) := by
  unfold captureData
  by_cases hi : i < l.length
  · rw [if_pos hi, List.getElem?_append_left (by rw [List.length_take]; omega), List.getElem?_take_of_lt h,
      List.getD_eq_getElem?_getD, List.getElem?_eq_getElem hi]
    rfl
  · rw [if_neg hi, List.getElem?_append_right (by rw [List.length_take]; omega),
      List.getElem?_replicate_of_lt (by rw [List.length_take]; omega)]

/-- SHORT, LONG and DAMAGED are bits 0, 1 and 2. -/
theorem getLsbD_captureFlags (f : RxFrame) (n i : Nat) :
    (captureFlags f n).getLsbD i
      = (decide (i = 0 ∧ (lenOf f.chars).toNat < n) || decide (i = 1 ∧ n < (lenOf f.chars).toNat)
        || decide (i = 2 ∧ f.good = false)) := by
  have pow : ∀ j, j < 8 → (BitVec.ofNat 8 (2 ^ j)).getLsbD i = decide (i = j) := by
    intro j hj
    rw [BitVec.getLsbD_ofNat, Nat.testBit_two_pow]
    by_cases h : i = j <;> simp [h, hj, eq_comm]
  have h1 : (1 : Byte).getLsbD i = decide (i = 0) := pow 0 (by omega)
  have h2 : (2 : Byte).getLsbD i = decide (i = 1) := pow 1 (by omega)
  have h4 : (4 : Byte).getLsbD i = decide (i = 2) := pow 2 (by omega)
  have bit : ∀ (c : Prop) [Decidable c] (v : Byte), (if c then v else 0).getLsbD i = (decide c && v.getLsbD i) := by
    intro c _ v
    by_cases h : c <;> simp [h]
  unfold captureFlags
  dsimp only
  rw [← ite_not (f.good = true), BitVec.getLsbD_or, BitVec.getLsbD_or, bit, bit, bit, h1, h2, h4]
  simp only [Bool.decide_and, Bool.and_comm, Bool.not_eq_true]

/-! ## The obligation -/

/-- Settles O51: each of the three accesses as the value it gives the segment unit, and the bytes of the slot's body. -/
theorem captureMarkerDecides : Obligations.CaptureMarkerDecides := by
  refine ⟨fun s k g src a e h hg hu slot hslot => ⟨fun b f lo hi ho hb hf => ⟨fun hz => ?_, fun hz => ?_⟩,
      fun b ho hb => ?_, fun ho => ?_⟩, fun e f cycle len n hlen hn => ?_⟩
  · subst hg hslot
    refine exec_accessComplete_after h ((Work.accessDone_capture hu (.inl ho) _).trans ?_)
    rw [ho]
    exact Work.capMarkerDone_clear (w := s.freePort.work k) hb hf hz
  · subst hg hslot
    refine exec_accessComplete_after h ((Work.accessDone_capture hu (.inl ho) _).trans ?_)
    rw [ho]
    exact Work.capMarkerDone_set (w := s.freePort.work k) hb hz
  · subst hg hslot
    refine exec_accessComplete_after h ((Work.accessDone_capture hu (.inr (.inl ho)) _).trans ?_)
    rw [ho]
    exact congrArg (fun v : Segment => { s.freePort.work k with seg := v, notices := [] }) (Segment.capBodyDone_eq hb)
  · subst hg hslot
    refine exec_accessComplete_after h ((Work.accessDone_capture hu (.inr (.inr ho)) _).trans ?_)
    rw [ho]
    rfl
  · subst hlen hn
    refine ⟨captureFlags f e.cfg.expLen.toNat, damageMarks f e.cfg.expLen.toNat,
      padMarks (lenOf f.chars).toNat e.cfg.expLen.toNat, captureData (payloadOf f.chars) e.cfg.expLen.toNat, rfl,
      ?_, ?_, ?_, fun i hi => ?_, captureData_length _ _, fun i hi => captureData_getElem? hi, getLsbD_padMarks _ _,
      fun hg => damageMarks_good hg _, fun hg hm b => ?_, fun hg hm b => ?_⟩
    · rw [getLsbD_captureFlags]; simp
    · rw [getLsbD_captureFlags]; simp
    · rw [getLsbD_captureFlags]; simp
    · rw [getLsbD_captureFlags]
      simp [show i ≠ 0 by omega, show i ≠ 1 by omega, show i ≠ 2 by omega]
    · rw [damageMarks_marked hg hm, getLsbD_blockMarks]
      simp only [List.contains_iff_mem]
    · rw [damageMarks_unmarked hg hm, getLsbD_blockMarks]
      simp only [and_true]

end Sys2Proof.Machine

/-! A character that joins the frame in assembly (R1, R3, R4, R6, R8, R11). -/

namespace Sys2Proof.Machine

/-! ## Parity (R1) -/

/-- The number of list members that satisfy a test is odd when the tests xor to true. -/
theorem length_filter_odd {α : Type} (p : α → Bool) (l : List α) :
    ((l.filter p).length % 2 == 1) = l.foldr (fun i x => p i ^^ x) false := by
  induction l with
  | nil => rfl
  | cons i l ih =>
    rw [List.foldr_cons, ← ih]
    cases hp : p i with
    | false => simp [hp]
    | true =>
      rw [List.filter_cons_of_pos hp, List.length_cons]
      rcases Nat.mod_two_eq_zero_or_one (l.filter p).length with h | h <;> simp [Nat.add_mod, h]

theorem parityOk_xor (c : Byte) (parity : Bool) :
    parityOk c parity = !(c.getLsbD 0 ^^ c.getLsbD 1 ^^ c.getLsbD 2 ^^ c.getLsbD 3
      ^^ c.getLsbD 4 ^^ c.getLsbD 5 ^^ c.getLsbD 6 ^^ c.getLsbD 7 ^^ parity) := by
  have hodd := length_filter_odd (fun i => c.getLsbD i) (List.range 8)
  have hone : parityOk c parity = !((onesOf c % 2 == 1) ^^ parity) := by
    unfold parityOk
    rcases Nat.mod_two_eq_zero_or_one (onesOf c) with h | h <;> cases parity <;> simp [Nat.add_mod, h]
  rw [hone]
  unfold onesOf
  rw [hodd]
  simp only [List.range, List.range.loop, List.foldr_cons, List.foldr_nil, Bool.xor_false, Bool.xor_assoc]

/-! ## The header test (R6) -/

theorem extractLsb'_reserved (c : Byte) : c.extractLsb' 5 3 ≠ 0 ↔ 32 ≤ c.toNat := by
  have hc := c.isLt
  have hn : (c.extractLsb' 5 3).toNat = c.toNat / 32 := by
    rw [BitVec.extractLsb'_toNat, Nat.shiftRight_eq_div_pow]
    omega
  rw [ne_eq, ← BitVec.toNat_inj, hn]
  show ¬c.toNat / 32 = 0 ↔ _
  omega

/-- Kind code 7 is no kind (R9). -/
theorem kindOfCtrl_isNone (c : Byte) : (kindOfCtrl c).isNone = true ↔ c.toNat % 8 = 7 := by
  have hn : (c.extractLsb' 0 3).toNat = c.toNat % 8 := by
    rw [BitVec.extractLsb'_toNat]
    rfl
  have hlt : c.toNat % 8 < 8 := Nat.mod_lt _ (by omega)
  unfold kindOfCtrl
  rw [hn]
  generalize c.toNat % 8 = m at hlt
  interval_cases m <;> simp

theorem headerTest_ctrl (sync dest src ctrl : Byte) :
    headerTest [sync, dest, src, ctrl] 3 =
      if 32 ≤ ctrl.toNat then some .reservedBits else if ctrl.toNat % 8 = 7 then some .invalidKind else none := by
  have h : headerTest [sync, dest, src, ctrl] 3 =
      if ctrl.extractLsb' 5 3 ≠ 0 then some .reservedBits
      else if (kindOfCtrl ctrl).isNone then some .invalidKind else none := rfl
  rw [h]
  simp only [extractLsb'_reserved, kindOfCtrl_isNone]

/-- A value past its limit fails its test. -/
theorem ite_range (n m : Nat) :
    (if m < n then some HeaderFail.range else none) = if n ≤ m then none else some HeaderFail.range := by
  by_cases h : n ≤ m
  · rw [if_pos h, if_neg (Nat.not_lt.mpr h)]
  · rw [if_neg h, if_pos (Nat.lt_of_not_le h)]

theorem hchkOf_eq (dest src ctrl len : Byte) : hchkOf dest src ctrl len = 255 - (dest + src + ctrl + len) :=
  (BitVec.allOnes_sub_eq_not _).symm

theorem headerTest_payload (cs : List Byte) {i : Nat} (h : 6 ≤ i) : headerTest cs i = none := by
  obtain ⟨j, rfl⟩ := Nat.exists_eq_add_of_le' h
  rfl

/-! ## Joining the frame in assembly (R3, R8) -/

theorem Segment.character_on {g : Segment} (hr : g.receiverOn = true) (ht : g.line.tx = none) (c : Byte)
    (parity stop : Bool) :
    g.character c parity stop = { g with
      line := { g.line with idle := true, asm := some (assemble g.line.asm c (parityOk c parity) stop) } } :=
  if_pos ⟨hr, ht⟩

theorem Segment.character_off {g : Segment} (h : g.state = .stopped ∨ g.state = .faulted ∨ g.line.tx ≠ none) (c : Byte)
    (parity stop : Bool) : g.character c parity stop = g := by
  refine if_neg ?_
  rintro ⟨hr, ht⟩
  obtain ⟨h1, h2⟩ := (Segment.receiverOn_iff g).mp hr
  rcases h with h | h | h
  · exact h1 h
  · exact h2 h
  · exact h ht

/-- A character begins a frame where there is none in assembly, or where the last has ended. -/
theorem assemble_begins {old : Option Assembly}
    (h : old = none ∨ ∃ b, old = some b ∧ (b.complete = true ∨ b.broken = true)) (c : Byte) (good stop : Bool) : assemble old c good stop = assemble (some Assembly.empty) c good stop := by
  rcases h with rfl | ⟨b, rfl, hb⟩
  · rfl
  · have hend : (b.complete || b.broken) = true := by rcases hb with hb | hb <;> simp [hb]
    unfold assemble
    simp only [hend, if_true]
    rfl

/-- A character that joins a frame whose header has not failed. -/
theorem assemble_joins {a : Assembly} (hc : a.complete = false) (hb : a.broken = false) (hf : a.fail = none) (c : Byte)
    (good stop : Bool) :
    assemble (some a) c good stop =
      if stop then
        { a with chars := a.chars ++ [c], marks := if good then a.marks else a.marks ++ [a.chars.length],
                 fail := headerTest (a.chars ++ [c]) a.chars.length, foreign := true }
      else { a with framing := true, broken := true, foreign := true } := by
  have hopen : (a.complete || a.broken) = false := by simp [hc, hb]
  have hn : ¬a.fail.isSome = true := by simp [hf]
  unfold assemble
  simp only [hopen, Bool.false_eq_true, if_false]
  cases stop with
  | true =>
    rw [if_pos rfl, if_pos rfl]
    exact if_neg hn
  | false => exact if_neg hn

/-- After a header failure a character is ignored, and a character framing error noted. -/
theorem assemble_failed {a : Assembly} (hf : a.fail.isSome = true) (hb : a.broken = false) (c : Byte) (good stop : Bool) :
    assemble (some a) c good stop = { a with framing := a.framing || !stop, foreign := true } := by
  have hc : (a.complete || a.broken) = false := by
    unfold Assembly.complete
    cases h : a.fail <;> simp_all
  unfold assemble
  simp only [hc, Bool.false_eq_true, if_false]
  cases stop with
  | true =>
    rw [Bool.not_true, Bool.or_false]
    exact if_pos hf
  | false =>
    rw [Bool.not_false, Bool.or_true]
    exact if_pos hf

/-! ## The obligation -/

/-- Settles O28: the character by what is in assembly, the parity as a xor of the bits, and the header test by position. -/
theorem characterJoinsFrame : Obligations.CharacterJoinsFrame := by
  refine ⟨fun s k g c parity stop hg => ⟨fun h1 h2 ht a ha hf => ?_, fun h => ?_⟩,
    fun s k g a c parity stop hg h1 h2 ht ha hf hb => ?_, parityOk_xor,
    fun sync dest src ctrl len hchk => ⟨rfl, ite_range _ _, ite_range _ _, headerTest_ctrl _ _ _ _, ite_range _ _, ?_⟩,
    fun cs i hi => headerTest_payload cs hi⟩
  · have hjoin : assemble g.line.asm c (parityOk c parity) stop = assemble (some a) c (parityOk c parity) stop
        ∧ a.complete = false ∧ a.broken = false := by
      rcases ha with ⟨ha, hc, hb⟩ | ⟨ha, rfl⟩
      · exact ⟨by rw [ha], hc, hb⟩
      · exact ⟨assemble_begins ha _ _ _, rfl, rfl⟩
    obtain ⟨hj, hc, hb⟩ := hjoin
    refine exec_after rfl hg ((Segment.character_on ((Segment.receiverOn_iff g).mpr ⟨h1, h2⟩) ht _ _ _).trans ?_)
    rw [hj, assemble_joins hc hb hf]
  · exact exec_after rfl hg (Segment.character_off h _ _ _)
  · refine exec_after rfl hg ((Segment.character_on ((Segment.receiverOn_iff g).mpr ⟨h1, h2⟩) ht _ _ _).trans ?_)
    rw [ha, assemble_failed hf hb]
  · rw [← hchkOf_eq]
    rfl

end Sys2Proof.Machine

/-! A frame that the part builds, received character by character (R4, R5, R6, R7, R8). -/

namespace Sys2Proof.Machine

/-! ## The fields of a built frame (R4, R5) -/

theorem kindOfCtrl_ctrlByte (kind : FrameKind) (seq ack : Bool) : kindOfCtrl (ctrlByte kind seq ack) = some kind := by
  cases kind <;> cases seq <;> cases ack <;> rfl

theorem getLsbD_ctrlByte (kind : FrameKind) (seq ack : Bool) : (ctrlByte kind seq ack).getLsbD 3 = seq := by
  cases kind <;> cases seq <;> cases ack <;> rfl

theorem ctrlByte_reserved (kind : FrameKind) (seq ack : Bool) : (ctrlByte kind seq ack).extractLsb' 5 3 = 0 := by
  cases kind <;> cases seq <;> cases ack <;> rfl

/-- The characters after the header. -/
def frameTail (dest src ctrl : Byte) (payload : List Byte) : List Byte :=
  payload ++ [(crc16 ([dest, src, ctrl, BitVec.ofNat 8 payload.length] ++ payload)).extractLsb' 8 8,
    (crc16 ([dest, src, ctrl, BitVec.ofNat 8 payload.length] ++ payload)).extractLsb' 0 8]

theorem buildFrame_eq (dest src ctrl : Byte) (payload : List Byte) :
    buildFrame dest src ctrl payload =
      Config.sync :: dest :: src :: ctrl :: BitVec.ofNat 8 payload.length
        :: hchkOf dest src ctrl (BitVec.ofNat 8 payload.length) :: frameTail dest src ctrl payload := rfl

theorem length_buildFrame (dest src ctrl : Byte) (payload : List Byte) :
    (buildFrame dest src ctrl payload).length = 8 + payload.length := by
  simp only [buildFrame_eq, frameTail, List.length_cons, List.length_append, List.length_nil]
  omega

theorem toNat_lenByte {n : Nat} (h : n ≤ 64) : (BitVec.ofNat 8 n).toNat = n := by
  rw [BitVec.toNat_ofNat]
  omega

theorem lenOf_buildFrame {dest src ctrl : Byte} {payload : List Byte} (h : payload.length ≤ 64) :
    (lenOf (buildFrame dest src ctrl payload)).toNat = payload.length := toNat_lenByte h

theorem payloadOf_buildFrame {dest src ctrl : Byte} {payload : List Byte} (h : payload.length ≤ 64) :
    payloadOf (buildFrame dest src ctrl payload) = payload := by
  have hd : (buildFrame dest src ctrl payload).drop 6 = frameTail dest src ctrl payload := rfl
  unfold payloadOf
  rw [lenOf_buildFrame h, hd]
  exact List.take_left

/-- A character after the header. -/
theorem charAt_buildFrame (dest src ctrl : Byte) (payload : List Byte) (i : Nat) :
    charAt (buildFrame dest src ctrl payload) (i + 6) = (frameTail dest src ctrl payload).getD i 0 := rfl

theorem crcGood_buildFrame {dest src ctrl : Byte} {payload : List Byte} (h : payload.length ≤ 64) :
    crcGood (buildFrame dest src ctrl payload) = true := by
  have hhead : ((buildFrame dest src ctrl payload).drop 1).take 4
      = [dest, src, ctrl, BitVec.ofNat 8 payload.length] := rfl
  have h6 : 6 + payload.length = payload.length + 6 := by omega
  have h7 : 7 + payload.length = payload.length + 1 + 6 := by omega
  unfold crcGood
  dsimp only
  rw [lenOf_buildFrame h, payloadOf_buildFrame h, hhead, h6, h7, charAt_buildFrame, charAt_buildFrame]
  unfold frameTail
  rw [List.getD_append_right _ _ _ _ (Nat.le_refl _), List.getD_append_right _ _ _ _ (by omega),
    show payload.length - payload.length = 0 by omega, show payload.length + 1 - payload.length = 1 by omega]
  simp

/-! ## The header test of a built frame (R6) -/

theorem headerTest_buildFrame {dest src : Byte} {payload : List Byte} (kind : FrameKind) (seq ack : Bool)
    (hd : dest.toNat ≤ 127) (hs : src.toNat ≤ 127) (hl : payload.length ≤ 64) (i : Nat) :
    headerTest (buildFrame dest src (ctrlByte kind seq ack) payload) i = none := by
  match i with
  | 0 => rfl
  | 1 => exact if_neg (Nat.not_lt.mpr hd)
  | 2 => exact if_neg (Nat.not_lt.mpr hs)
  | 3 =>
    have hr : ¬(ctrlByte kind seq ack).extractLsb' 5 3 ≠ 0 := fun h => h (ctrlByte_reserved kind seq ack)
    have hk : ¬(kindOfCtrl (ctrlByte kind seq ack)).isNone = true := by simp [kindOfCtrl_ctrlByte]
    exact (if_neg hr).trans (if_neg hk)
  | 4 =>
    refine if_neg ?_
    rw [lenOf_buildFrame hl]
    omega
  | 5 =>
    unfold headerTest
    exact if_pos rfl
  | j + 6 => exact headerTest_payload _ (by omega)

/-- The test of a character looks at nothing beyond it. -/
theorem headerTest_agrees {cs f : List Byte} (h : cs <+: f) {i : Nat} (hi : i < cs.length) :
    headerTest cs i = headerTest f i := by
  have hat : ∀ j, j ≤ i → charAt cs j = charAt f j := by
    intro j hj
    obtain ⟨t, rfl⟩ := h
    exact (List.getD_append _ _ _ _ (by omega)).symm
  match i with
  | 0 =>
    unfold headerTest
    rw [hat 0 (by omega)]
    rfl
  | 1 =>
    unfold headerTest destOf
    rw [hat 1 (by omega)]
    rfl
  | 2 =>
    unfold headerTest srcOf
    rw [hat 2 (by omega)]
    rfl
  | 3 =>
    unfold headerTest kindOf ctrlOf
    rw [hat 3 (by omega)]
    rfl
  | 4 =>
    unfold headerTest lenOf
    rw [hat 4 (by omega)]
    rfl
  | 5 =>
    unfold headerTest destOf srcOf ctrlOf lenOf
    rw [hat 1 (by omega), hat 2 (by omega), hat 3 (by omega), hat 4 (by omega), hat 5 (by omega)]
    rfl
  | j + 6 => rfl

/-! ## The reception (R3, R8) -/

/-- The assembly of characters cs of another device, received with correct parity and stop bits. -/
def Assembly.received (cs : List Byte) : Assembly := { Assembly.empty with chars := cs, foreign := true }

/-- Whether all characters of a frame are there. -/
theorem Assembly.received_complete (cs : List Byte) :
    (Assembly.received cs).complete = true ↔ 6 ≤ cs.length ∧ cs.length = 8 + (lenOf cs).toNat := by
  have h : (Assembly.received cs).complete
      = (decide (6 ≤ cs.length) && decide (cs.length = 8 + (lenOf cs).toNat)) := rfl
  rw [h, Bool.and_eq_true, decide_eq_true_eq, decide_eq_true_eq]

/-- A part of a frame is not a whole frame. -/
theorem Assembly.received_incomplete {cs f : List Byte} (h : cs <+: f) (hl : cs.length < f.length)
    (hf : f.length = 8 + (lenOf f).toNat) : (Assembly.received cs).complete = false := by
  rw [Bool.eq_false_iff, ne_eq, Assembly.received_complete]
  rintro ⟨h6, hc⟩
  obtain ⟨t, rfl⟩ := h
  have hlen : lenOf (cs ++ t) = lenOf cs := List.getD_append _ _ _ _ (by omega)
  rw [hlen] at hf
  omega

/-- The characters of a frame whose header is valid, received one after another. -/
theorem foldl_assemble {f : List Byte} (hh : ∀ i, headerTest f i = none) (hf : f.length = 8 + (lenOf f).toNat)
    {cs : List Byte} (h : cs <+: f) (hne : cs ≠ []) :
    cs.foldl (fun x c => some (assemble x c true true)) none = some (Assembly.received cs) := by
  induction cs using List.reverseRecOn with
  | nil => exact absurd rfl hne
  | append_singleton cs c ih =>
    have hpre : cs <+: f := List.IsPrefix.trans ⟨[c], rfl⟩ h
    have hlt : cs.length < f.length := by
      have := h.length_le
      rw [List.length_append, List.length_singleton] at this
      omega
    have htest : headerTest (cs ++ [c]) cs.length = none :=
      (headerTest_agrees h (by simp)).trans (hh _)
    have hjoin : ∀ a : Assembly, { a with foreign := true } = Assembly.received cs → a.complete = false →
        assemble (some a) c true true = Assembly.received (cs ++ [c]) := by
      intro a ha hc
      have hchars : a.chars = cs := congrArg Assembly.chars ha
      have hfail : a.fail = none := congrArg Assembly.fail ha
      have hbroken : a.broken = false := congrArg Assembly.broken ha
      rw [assemble_joins hc hbroken hfail, if_pos rfl, if_pos rfl, hchars, htest]
      exact congrArg (fun b : Assembly => { b with chars := cs ++ [c], fail := none }) ha
    rw [List.foldl_append, List.foldl_cons, List.foldl_nil]
    cases cs with
    | nil => exact congrArg some ((assemble_begins (.inl rfl) c true true).trans (hjoin Assembly.empty rfl rfl))
    | cons x xs =>
      rw [ih hpre (by simp)]
      exact congrArg some (hjoin _ rfl (Assembly.received_incomplete hpre hlt hf))

/-! ## The obligation -/

/-- Settles O60: the characters received in turn make the assembly of the whole frame, which is of class GOOD. -/
theorem builtFrameIsReceivedGood : Obligations.BuiltFrameIsReceivedGood := by
  intro dest src kind seq ack payload hd hs hl
  have hlen : (buildFrame dest src (ctrlByte kind seq ack) payload).length
      = 8 + (lenOf (buildFrame dest src (ctrlByte kind seq ack) payload)).toNat := by
    rw [length_buildFrame, lenOf_buildFrame hl]
  have hfold := foldl_assemble (headerTest_buildFrame kind seq ack hd hs hl) hlen ⟨[], List.append_nil _⟩
    (by simp [buildFrame_eq])
  have hgood : (Assembly.received (buildFrame dest src (ctrlByte kind seq ack) payload)).cls = .good := by
    rw [Assembly.cls_whole rfl rfl]
    have hc := crcGood_buildFrame (dest := dest) (src := src) (ctrl := ctrlByte kind seq ack) hl
    have h6 : 6 ≤ (buildFrame dest src (ctrlByte kind seq ack) payload).length := by
      rw [length_buildFrame]
      omega
    exact (if_pos ⟨h6, hlen⟩).trans (if_pos hc)
  refine ⟨_, hfold, hgood, ?_, rfl, rfl, rfl, kindOfCtrl_ctrlByte _ _ _, getLsbD_ctrlByte _ _ _,
    payloadOf_buildFrame hl, ?_, rfl⟩
  · rw [Bool.eq_false_iff, ne_eq, Assembly.framingFault_iff]
    simp [Assembly.received, Assembly.empty]
  · unfold Assembly.frame
    rw [hgood]
    rfl

end Sys2Proof.Machine

/-! SUPPORT. Where a start is in progress (R24): which operations of a segment unit enter or leave STOPPED, said once for all
of them, and the invariant of the block that follows from it. -/

namespace Sys2Proof.Machine

/-! ## The invariant of one segment unit -/

/-- A start is in progress in STOPPED alone, and a STOPPED segment unit holds no fault back (R24). -/
def Segment.startsStopped (g : Segment) : Prop :=
  (g.starting = true → g.state = .stopped) ∧ (g.state = .stopped → g.faultHeld = none)

theorem StartsStopped_iff (s : State) : StartsStopped s ↔ ∀ k, (s.segs.get k).startsStopped := Iff.rfl

/-- Outside STOPPED no start is in progress. -/
theorem Segment.startsStopped.noStart {g : Segment} (h : g.startsStopped) (hs : g.state ≠ .stopped) : g.starting = false :=
  Bool.eq_false_iff.mpr fun c => hs (h.1 c)

theorem Segment.startsStopped_of_noStart {g : Segment} (hs : g.state ≠ .stopped) (h : g.starting = false) :
    g.startsStopped := ⟨fun c => by simp [h] at c, fun c => absurd c hs⟩

/-- From a to b the segment unit stays in STOPPED or outside it, with the same start in progress and the same fault held. -/
def Segment.sameStart (a b : Segment) : Prop :=
  b.starting = a.starting ∧ b.faultHeld = a.faultHeld ∧ (b.state = .stopped ↔ a.state = .stopped)

theorem Segment.sameStart_trans {a b c : Segment} (h : a.sameStart b) (h' : b.sameStart c) : a.sameStart c := by
  obtain ⟨hs, hf, hi⟩ := h
  obtain ⟨hs', hf', hi'⟩ := h'
  exact ⟨hs'.trans hs, hf'.trans hf, hi'.trans hi⟩

theorem Segment.sameStart_refl (a : Segment) : a.sameStart a := ⟨rfl, rfl, Iff.rfl⟩

theorem Segment.sameStart_of_ctl {a b : Segment} (h : b.ctl = a.ctl) : a.sameStart b := by
  simp only [Segment.ctl, Prod.mk.injEq] at h
  obtain ⟨hs, hst, hf, -⟩ := h
  exact ⟨hst, hf, by rw [hs]⟩

/-- A change of state outside STOPPED. -/
theorem Segment.sameStart_of_running {a b : Segment} (hs : b.starting = a.starting) (hf : b.faultHeld = a.faultHeld)
    (ha : a.state ≠ .stopped) (hb : b.state ≠ .stopped) : a.sameStart b :=
  ⟨hs, hf, ⟨fun c => absurd c hb, fun c => absurd c ha⟩⟩

theorem Segment.sameStart.keeps {a b : Segment} (h : a.sameStart b) (ha : a.startsStopped) : b.startsStopped := by
  obtain ⟨hs, hf, hi⟩ := h
  exact ⟨fun c => hi.mpr (ha.1 (hs ▸ c)), fun c => hf.trans (ha.2 (hi.mp c))⟩

theorem Segment.live_running {g : Segment} (h : g.live = true) : g.state ≠ .stopped := by
  intro c
  simp [Segment.live, c] at h

/-! ## The running states (R28 to R35) -/

theorem Segment.enterLocked_sameStart {g : Segment} (h : g.state ≠ .stopped) (detail : Byte) :
    g.sameStart (g.enterLocked detail) := by
  obtain ⟨-, hc, -⟩ := g.enterLocked_locksAs detail
  exact Segment.sameStart_trans (b := g.lockedAt detail)
    (Segment.sameStart_of_running rfl rfl h (by simp [Segment.lockedAt, Segment.reqProgress])) (Segment.sameStart_of_ctl hc)

theorem Segment.enterAcquiring_sameStart {g : Segment} (h : g.state ≠ .stopped) (cs : List Change) :
    g.sameStart (g.enterAcquiring cs) := by
  by_cases ha : g.blk.acq = 0
  · rw [Segment.enterAcquiring_locks ha]
    refine Segment.sameStart_trans ?_ (Segment.enterLocked_sameStart (fun c => by cases c) 0)
    exact Segment.sameStart_of_running rfl rfl h (fun c => by cases c)
  · rw [Segment.enterAcquiring_counts ha]
    exact Segment.sameStart_of_running rfl rfl h (fun c => by cases c)

theorem Segment.departWork_ctl (g : Segment) : g.departWork.ctl = g.ctl := by
  unfold Segment.departWork
  split
  all_goals first | exact Segment.finishUnit_ctl _ _ _ | rfl

/-- A departure from LOCKED is no change of state by itself. -/
theorem Segment.depart_ctl (g : Segment) (c : Departure) : (g.depart c).ctl = g.ctl := by
  have hw : ∀ v : Segment, v.ctl = g.ctl → v.departWork.ctl = g.ctl := fun v h => (Segment.departWork_ctl v).trans h
  unfold Segment.depart
  cases hu : g.unit with
  | none | entry _ | request _ =>
    have ha : g.abandonAnswer.unit = g.unit := by
      unfold Segment.abandonAnswer Segment.answerOver; dsimp only
      repeat' split
      all_goals rfl
    dsimp only
    rw [ha, hu]
    exact hw _ ((Segment.abandonAnswer_ctl g).trans rfl)

theorem Segment.lockLoss_sameStart {g : Segment} (h : g.state ≠ .stopped) : g.sameStart g.lockLoss := by
  have hd := Segment.sameStart_of_ctl (g.depart_ctl .lockLoss)
  exact Segment.sameStart_trans hd (Segment.enterAcquiring_sameStart (mt hd.2.2.mp h) _)

theorem Segment.enterStalled_sameStart {g : Segment} (h : g.state ≠ .stopped) : g.sameStart g.enterStalled := by
  have hd : g.sameStart (if g.state = .locked then g.depart .stall else g) := by
    split
    · exact Segment.sameStart_of_ctl (g.depart_ctl .stall)
    · exact Segment.sameStart_refl g
  refine Segment.sameStart_trans hd ?_
  exact Segment.sameStart_of_running rfl rfl (mt hd.2.2.mp h) (fun c => by cases c)

theorem Segment.acquire_sameStart {g : Segment} (h : g.state ≠ .stopped) (good : Bool) : g.sameStart (g.acquire good) := by
  unfold Segment.acquire
  dsimp only
  split
  · split
    · exact Segment.sameStart_trans (Segment.sameStart_of_ctl rfl) (Segment.enterLocked_sameStart (by exact h) 1)
    · exact Segment.sameStart_of_ctl rfl
  · exact Segment.sameStart_of_ctl rfl

theorem Segment.countFraming_sameStart {g : Segment} (h : g.state ≠ .stopped) (fault good : Bool) :
    g.sameStart (g.countFraming fault good) := by
  unfold Segment.countFraming
  dsimp only
  split
  · split
    · exact Segment.sameStart_trans (Segment.sameStart_of_ctl rfl) (Segment.lockLoss_sameStart (by exact h))
    · exact Segment.sameStart_of_ctl rfl
  · split <;> exact Segment.sameStart_of_ctl rfl

theorem Segment.controllerReport_sameStart (g : Segment) (fault good : Bool) :
    g.sameStart (g.controllerReport fault good) := by
  unfold Segment.controllerReport
  split
  · exact Segment.acquire_sameStart (by simp [*]) good
  · exact Segment.countFraming_sameStart (by simp [*]) fault good
  all_goals exact Segment.sameStart_refl g

theorem Segment.afterReport_ctl (g : Segment) (a : Assembly) : (g.afterReport a).ctl = g.ctl := by
  rw [Segment.afterReport_eq]; rfl

theorem Segment.report_sameStart (g : Segment) : g.sameStart g.report := by
  unfold Segment.report
  split
  · exact Segment.sameStart_refl g
  · rename_i a _
    split
    · dsimp only
      refine Segment.sameStart_trans ?_ (Segment.sameStart_of_ctl (Segment.afterReport_ctl _ a))
      have hc := Segment.sameStart_trans (Segment.sameStart_of_ctl rfl)
        (Segment.controllerReport_sameStart (g.setLine ({ g.line with asm := none }.frameEnd a.cls a.chars)) a.framingFault
          (a.cls == .good))
      split
      · exact Segment.sameStart_trans hc (Segment.sameStart_of_ctl (Segment.handOver_ctl _ _ _))
      · exact hc
    · exact Segment.sameStart_refl g

theorem Segment.stallReport_sameStart (g : Segment) : g.sameStart g.stallReport := by
  unfold Segment.stallReport
  dsimp only
  split
  · have hr := Segment.sameStart_trans g.report_sameStart
      (Segment.sameStart_of_ctl (b := g.report.setLine { g.report.line with stalled := true, idle := false }) rfl)
    split
    case h_1 hs | h_2 hs => exact Segment.sameStart_trans hr (Segment.enterStalled_sameStart (by rw [hs]; simp))
    all_goals exact hr
  · exact Segment.sameStart_refl g

theorem Segment.stallEnd_sameStart (g : Segment) : g.sameStart g.stallEnd := by
  unfold Segment.stallEnd
  dsimp only
  split
  · rename_i h
    split
    · refine Segment.sameStart_trans ?_ (Segment.enterAcquiring_sameStart (Segment.live_running (by exact h.1)) [])
      exact Segment.sameStart_of_ctl rfl
    · exact Segment.sameStart_of_ctl rfl
  · exact Segment.sameStart_refl g

theorem Segment.quiet_sameStart (g : Segment) : g.sameStart g.quiet := by
  unfold Segment.quiet
  split
  · rename_i h
    exact Segment.enterLocked_sameStart (Segment.live_running h.1) 2
  · exact Segment.sameStart_refl g

theorem Segment.leaveSettling_sameStart {g : Segment} (h : g.state ≠ .stopped) : g.sameStart g.leaveSettling := by
  unfold Segment.leaveSettling
  split
  · exact Segment.enterStalled_sameStart h
  · split
    · exact Segment.enterLocked_sameStart h 0
    · exact Segment.enterAcquiring_sameStart h []

theorem Work.settleExpiry_sameStart (w : Work) (mv : Nat) : w.seg.sameStart (w.settleExpiry mv).seg := by
  unfold Work.settleExpiry
  split
  · rename_i h
    have hs := Segment.sameStart_of_ctl (w.sampleAt_ctl mv)
    refine Segment.sameStart_trans hs ?_
    refine Segment.sameStart_trans (Segment.sameStart_of_ctl rfl) (Segment.leaveSettling_sameStart ?_)
    exact mt hs.2.2.mp (Segment.live_running h.1)
  · exact Segment.sameStart_refl _

/-! ## Line and timers: no change of state -/

theorem Segment.character_ctl (g : Segment) (c : Byte) (parity stop : Bool) : (g.character c parity stop).ctl = g.ctl := by
  unfold Segment.character; split <;> rfl

theorem Segment.startBit_ctl (g : Segment) : g.startBit.ctl = g.ctl := by
  unfold Segment.startBit
  dsimp only
  repeat' split
  all_goals first | rfl | exact (Segment.abandonAnswer_ctl _).trans rfl

theorem Segment.lostPause_ctl (g : Segment) : g.lostPause.ctl = g.ctl := by
  rw [Segment.lostPause_eq]; rfl

theorem Segment.arbitrationLoss_ctl (g : Segment) (pos : Nat) (start : Bool) : (g.arbitrationLoss pos start).ctl = g.ctl := by
  unfold Segment.arbitrationLoss
  dsimp only
  repeat' split
  · rfl
  · exact (Segment.answerOver_ctl _ _).trans rfl
  · exact (Segment.workLost_ctl _).trans rfl

theorem Segment.collision_ctl (g : Segment) (pos : Nat) (start : Bool) : (g.collision pos start).ctl = g.ctl := by
  unfold Segment.collision
  dsimp only
  repeat' split
  · rfl
  · exact (Segment.answerOver_ctl _ _).trans rfl
  · exact (Segment.workCollided_ctl _).trans rfl

theorem Segment.transmitEnd_ctl (g : Segment) : g.transmitEnd.ctl = g.ctl := by
  unfold Segment.transmitEnd
  dsimp only
  repeat' split
  · rfl
  all_goals first
    | exact (Segment.lostPause_ctl _).trans ((Segment.answerOver_ctl _ _).trans rfl)
    | exact (Segment.workSent_ctl _ _).trans rfl

theorem Segment.frameGap_ctl (g : Segment) : g.frameGap.ctl = g.ctl := by unfold Segment.frameGap; split <;> rfl

theorem Segment.reservationExpiry_ctl (g : Segment) : g.reservationExpiry.ctl = g.ctl := by
  unfold Segment.reservationExpiry; split <;> rfl

theorem Segment.holdGap_ctl (g : Segment) : g.holdGap.ctl = g.ctl := by unfold Segment.holdGap; split <;> rfl

theorem Segment.turnaround_ctl (g : Segment) : g.turnaround.ctl = g.ctl := by unfold Segment.turnaround; split <;> rfl

theorem Segment.scanExpiry_ctl (g : Segment) : g.scanExpiry.ctl = g.ctl := by
  unfold Segment.scanExpiry; split
  · rfl
  · exact Segment.chainRequest_ctl g

theorem Segment.pauseEnd_ctl (g : Segment) : g.pauseEnd.ctl = g.ctl := by unfold Segment.pauseEnd; split <;> rfl

theorem Segment.scanned_ctl (g : Segment) : g.scanned.ctl = g.ctl := by
  unfold Segment.scanned; split
  · exact Segment.chainRequest_ctl g
  · rfl

theorem Work.cycleExpiry_ctl (w : Work) : (w.cycleExpiry).seg.ctl = w.seg.ctl := by
  unfold Work.cycleExpiry
  dsimp only
  repeat' split
  all_goals rfl

theorem Work.sampleExpiry_ctl (w : Work) (mv : Nat) : (w.sampleExpiry mv).seg.ctl = w.seg.ctl := by
  unfold Work.sampleExpiry
  dsimp only
  repeat' split
  · rfl
  · rfl
  · exact (Work.sampleAt_ctl _ _).trans rfl

theorem Segment.sweepOver_ctl (g : Segment) (best : Option Nat) : (g.sweepOver best).ctl = g.ctl := by
  unfold Segment.sweepOver
  dsimp only
  split
  · exact (Segment.decideReq_ctl _ _ _).trans rfl
  all_goals rfl

theorem Work.sweepStep_ctl (w : Work) (mv next : Nat) : (w.sweepStep mv next).seg.ctl = w.seg.ctl := by
  unfold Work.sweepStep
  dsimp only
  repeat' split
  all_goals first | rfl | exact (Work.deferredSample_ctl _ _).trans (Segment.sweepOver_ctl _ _)

/-! ## Starts, stops and faults (R25, R26, R36 to R41) -/

theorem Work.enterStopped_startsStopped (w : Work) : w.enterStopped.seg.startsStopped := ⟨fun _ => rfl, fun _ => rfl⟩

theorem Work.startFault_startsStopped (w : Work) (code : FaultCode) (check : Byte) (ref : Word) :
    (w.startFault code check ref).seg.startsStopped :=
  Segment.startsStopped_of_noStart (by simp [Work.startFault]) rfl

theorem Work.beginStart_startsStopped {w : Work} (h : w.seg.state = .stopped) (hw : w.seg.startsStopped) :
    w.beginStart.seg.startsStopped := by
  unfold Work.beginStart
  split
  · exact Work.startFault_startsStopped _ _ _ _
  · exact ⟨fun _ => h, hw.2⟩

theorem Work.segBlockDone_startsStopped (w : Work) (d : List Byte) : (w.segBlockDone d).seg.startsStopped := by
  unfold Work.segBlockDone
  dsimp only
  split
  · exact Work.startFault_startsStopped _ _ _ _
  · exact Segment.startsStopped_of_noStart (by simp [Segment.started, Segment.reqProgress]) rfl

theorem Work.enterFaulted_startsStopped {w : Work} (h : w.seg.starting = false) (ref : Word) :
    (w.enterFaulted ref).seg.startsStopped :=
  Segment.startsStopped_of_noStart (by simp [Work.enterFaulted, Segment.reqProgress]) h

/-- Marking the access on the bus sets at most the discard mark. -/
theorem Work.discard_eq (w : Work) (p : Op → Bool) : ∃ d, w.discard p = { w with drop := d } := by
  unfold Work.discard
  repeat' split
  all_goals exact ⟨_, rfl⟩

/-- What stops at a fault and at the entry to STOPPED, as one change of the segment unit (R40, R68, R104, R128, R144). -/
def Segment.idled (g : Segment) : Segment :=
  { g with
    cycle := { g.cycle with timer := .stopped, attempt := 0, pause := .none, held := false },
    req := g.req.afterStop, unit := .none, xact := .idle,
    resp := { g.resp with pend := none, hands := [], due := [] },
    supply := { g.supply with sweep := .idle, weakCmp := g.blk.weakStep.toNat, timer := .stopped, deferred := false } }

theorem Segment.workOff_eq (g : Segment) : g.workOff = g.idled := rfl

/-- What a fault leaves of a live segment unit, whether or not a frame is on the line (R40): its work stops, and of the
waiting accesses only the progress record write stays. -/
def Segment.faultTaken (g : Segment) (code : FaultCode) : Segment :=
  { g.idled with fault := code, stopWrite := false, waits := { Waits.empty with control := g.waits.control } }

theorem Segment.faultTaken_start (g : Segment) (code : FaultCode) :
    (g.faultTaken code).state = g.state ∧ (g.faultTaken code).starting = g.starting := ⟨rfl, rfl⟩

theorem Work.on_faultTaken (w : Work) (code : FaultCode) :
    (w.on fun s => { s.workOff with
      fault := code, stopWrite := false, waits := { Waits.empty with control := s.waits.control } })
      = { w with seg := w.seg.faultTaken code } :=
  congrArg (fun g : Segment => ({ w with seg := { g with
    fault := code, stopWrite := false, waits := { Waits.empty with control := w.seg.waits.control } } } : Work))
    w.seg.workOff_eq

/-- A fault of a live segment that drives a frame is held back until the frame's end (R40). -/
theorem Work.takeFault_held {w : Work} (code : FaultCode) (ref : Word) (hl : w.seg.live = true)
    (ht : w.seg.line.tx.isSome = true) :
    ∃ d, w.takeFault code ref = { w with drop := d, seg := { w.seg.faultTaken code with faultHeld := some ref } } := by
  obtain ⟨d, hd⟩ := w.discard_eq fun op => op != .progress
  refine ⟨d, ?_⟩
  unfold Work.takeFault
  rw [if_pos hl, hd, Work.on_faultTaken]
  exact if_pos ht

/-- A fault of a live segment that drives no frame takes it to FAULTED (R40). -/
theorem Work.takeFault_now {w : Work} (code : FaultCode) (ref : Word) (hl : w.seg.live = true) (ht : w.seg.line.tx = none) :
    ∃ d, w.takeFault code ref = Work.enterFaulted { w with drop := d, seg := w.seg.faultTaken code } ref := by
  obtain ⟨d, hd⟩ := w.discard_eq fun op => op != .progress
  refine ⟨d, ?_⟩
  unfold Work.takeFault
  rw [if_pos hl, hd, Work.on_faultTaken]
  exact if_neg (by show ¬w.seg.line.tx.isSome = true; simp [ht])

/-- A segment that is not live takes no fault (R40). -/
theorem Work.takeFault_none {w : Work} (code : FaultCode) (ref : Word) (hl : w.seg.live = false) :
    w.takeFault code ref = w := by
  unfold Work.takeFault
  exact if_neg (by simp [hl])

theorem Work.takeFault_startsStopped {w : Work} (hw : w.seg.startsStopped) (code : FaultCode) (ref : Word) :
    (w.takeFault code ref).seg.startsStopped := by
  cases hl : w.seg.live with
  | false => rw [Work.takeFault_none code ref hl]; exact hw
  | true =>
    have hs := Segment.live_running hl
    have hst := hw.noStart hs
    cases ht : w.seg.line.tx with
    | none =>
      obtain ⟨d, h⟩ := Work.takeFault_now code ref hl ht
      have hg : (w.seg.faultTaken code).starting = false := (w.seg.faultTaken_start code).2.trans hst
      rw [h]
      generalize w.seg.faultTaken code = g at hg
      exact Work.enterFaulted_startsStopped (by exact hg) ref
    | some x =>
      obtain ⟨d, h⟩ := Work.takeFault_held code ref hl (by simp [ht])
      rw [h]
      obtain ⟨h1, h2⟩ := w.seg.faultTaken_start code
      exact Segment.startsStopped_of_noStart (g := { w.seg.faultTaken code with faultHeld := some ref })
        (fun c => hs (h1.symm.trans c)) (h2.trans hst)

theorem Segment.stopUnit_ctl (g : Segment) : g.stopUnit.ctl = g.ctl := by
  unfold Segment.stopUnit; split
  · rfl
  · exact Segment.stopEntry_ctl _ _
  · exact Segment.stopReq_ctl _ _

theorem Segment.beginStop_sameStart {g : Segment} (h : g.state ≠ .stopped) : g.sameStart g.beginStop := by
  refine Segment.sameStart_trans (b := ({ g with state := .stopping, line := { g.line with framing := 0 } }).reqProgress [])
    (Segment.sameStart_of_running rfl rfl h (by simp [Segment.reqProgress])) ?_
  exact Segment.sameStart_trans (Segment.sameStart_of_ctl (Segment.abandonAnswer_ctl _)) (Segment.sameStart_of_ctl rfl)

theorem Work.enterStopping_sameStart {w : Work} (h : w.seg.state ≠ .stopped) : w.seg.sameStart w.enterStopping.seg := by
  have hb : w.seg.sameStart ((w.discard Op.stopDrops).on Segment.beginStop).seg := by
    rw [Work.on_seg, Work.discard_seg]
    exact Segment.beginStop_sameStart h
  refine Segment.sameStart_trans hb ?_
  exact Segment.sameStart_trans (Segment.sameStart_of_ctl (Work.sweepStop_ctl _))
    (Segment.sameStart_of_ctl (Segment.stopUnit_ctl _))

theorem Work.runClear_startsStopped {w : Work} (hw : w.seg.startsStopped) : w.runClear.seg.startsStopped := by
  unfold Work.runClear
  split
  · rename_i hs
    refine ⟨fun c => by simp [Work.cancelStart] at c, fun _ => ?_⟩
    show (w.discard _).seg.faultHeld = none
    rw [Work.discard_seg]
    exact hw.2 hs
  iterate 4 exact (Work.enterStopping_sameStart (by simp [*])).keeps hw
  · exact hw
  · unfold Work.faultedToStopped
    split
    · exact hw
    · exact Work.enterStopped_startsStopped w

/-! ## Responses -/

theorem Work.raiseFault_seg (w : Work) (ref : Word) : (w.raiseFault ref).seg = w.seg := by
  unfold Work.raiseFault; split <;> rfl

theorem Work.faultRecordEnded_startsStopped {w : Work} (hw : w.seg.startsStopped) :
    w.faultRecordEnded.seg.startsStopped := by
  unfold Work.faultRecordEnded
  split
  · rename_i ref _
    dsimp only
    split
    · exact Work.enterStopped_startsStopped _
    · rw [Work.on_seg, Work.raiseFault_seg]
      exact hw
  · exact hw

theorem Work.progressDone_startsStopped {w : Work} (hw : w.seg.startsStopped) : w.progressDone.seg.startsStopped := by
  unfold Work.progressDone
  dsimp only
  split
  · exact Work.faultRecordEnded_startsStopped (w := w.raiseChanges) hw
  · split
    · exact Work.enterStopped_startsStopped _
    · exact hw

theorem Work.progressFailed_startsStopped {w : Work} (hw : w.seg.startsStopped) (code : FaultCode) (ref : Word) :
    (w.progressFailed code ref).seg.startsStopped := by
  unfold Work.progressFailed
  dsimp only
  split
  · exact Work.faultRecordEnded_startsStopped (w := w.raiseChanges) hw
  · exact Work.takeFault_startsStopped (w := w.raiseChanges) hw code ref

theorem Work.accessDone_startsStopped {w : Work} (hw : w.seg.startsStopped) (a : Access) (d : List Byte) :
    (w.accessDone a d).seg.startsStopped := by
  have hc : ∀ v : Work, v.seg.ctl = w.seg.ctl → v.seg.startsStopped := fun v h => (Segment.sameStart_of_ctl h).keeps hw
  unfold Work.accessDone
  split
  case h_1 => exact Work.segBlockDone_startsStopped w d
  case h_2 => exact Work.progressDone_startsStopped hw
  case h_3 | h_4 => exact hc _ (Work.urgentDone_ctl _ _ _)
  case h_5 | h_6 | h_7 | h_8 => exact hc _ (Work.respDone_ctl _ _ _)
  case h_9 | h_10 | h_11 =>
    split
    · exact Work.takeFault_startsStopped hw _ _
    · exact hc _ (Segment.chainDone_ctl _ _ _)
  case h_12 | h_13 | h_14 | h_15 | h_16 | h_17 =>
    split
    · exact hc _ (Work.entryDone_ctl _ _ _ _)
    all_goals exact hw
  case h_18 | h_19 | h_20 | h_21 | h_22 | h_23 | h_24 | h_25 =>
    split
    · split
      · exact Work.takeFault_startsStopped hw _ _
      · exact hc _ (Work.reqDone_ctl _ _ _ _)
    all_goals exact hw
  all_goals exact hw

theorem Work.accessError_startsStopped {w : Work} (hw : w.seg.startsStopped) (a : Access) :
    (w.accessError a).seg.startsStopped := by
  unfold Work.accessError
  split
  · exact hw
  · split
    · exact Work.startFault_startsStopped _ _ _ _
    · exact Work.progressFailed_startsStopped hw _ _
    · exact Work.takeFault_startsStopped hw _ _

/-! ## The epilogue and the block -/

theorem Work.heldFault_startsStopped {w : Work} (hw : w.seg.startsStopped) : w.heldFault.seg.startsStopped := by
  unfold Work.heldFault
  split
  · rename_i ref hr
    have hs : w.seg.state ≠ .stopped := fun c => by simp [hw.2 c] at hr
    split
    · exact Work.enterFaulted_startsStopped (hw.noStart hs) ref
    · exact hw
  · exact hw

theorem Work.stopCheck_ctl (w : Work) : w.stopCheck.seg.ctl = w.seg.ctl := by
  unfold Work.stopCheck; split <;> rfl

theorem Work.finish_startsStopped {w : Work} (hw : w.seg.startsStopped) : w.finish.seg.startsStopped := by
  unfold Work.finish
  dsimp only
  refine (Segment.sameStart_of_ctl ?_).keeps (Work.heldFault_startsStopped hw)
  rw [Work.stopCheck_ctl]
  split
  · rw [Work.on_seg, Segment.tryBegin_ctl, Work.respDue_ctl, Work.on_seg, Segment.kick_ctl, Segment.lostDue_ctl]
  · rfl

/-- The block with the segment units of s, or of which one has moved. -/
theorem StartsStopped.of_segs {s t : State} (hs : StartsStopped s) (h : t.segs = s.segs) : StartsStopped t := by
  unfold StartsStopped; rw [h]; exact hs

theorem StartsStopped.put {s t : State} {k : Seg} {g : Segment} (hs : StartsStopped s) (h : t.segs = s.segs.put k g)
    (hg : g.startsStopped) : StartsStopped t := by
  intro j
  rw [h, Four.get_put]
  split
  · exact hg
  · exact hs j

/-- An event of a segment unit keeps the invariant when its operation does. -/
theorem StartsStopped.onSeg {s : State} (hs : StartsStopped s) {k : Seg} {f : Work → Work}
    (hf : ((s.work k).seg).startsStopped → (f (s.work k)).seg.startsStopped) : StartsStopped (s.onSeg k f) :=
  hs.put (State.onSeg_segs s k f) (Work.finish_startsStopped (hf (hs k)))

theorem StartsStopped.settle {s : State} (hs : StartsStopped s) : StartsStopped s.settle := hs.of_segs s.settle_segs

theorem StartsStopped.segEvent {s t : State} (hs : StartsStopped s) {k : Seg} {f : Segment → Segment}
    (hf : ∀ g : Segment, g.sameStart (f g)) (h : s.segEvent k f = .next t) : StartsStopped t := by
  cases h
  exact (hs.onSeg fun hk => (hf _).keeps hk).settle

theorem StartsStopped.workEvent {s t : State} (hs : StartsStopped s) {k : Seg} {f : Work → Work}
    (hf : ∀ w : Work, w.seg.sameStart (f w).seg) (h : s.workEvent k f = .next t) : StartsStopped t := by
  cases h
  exact (hs.onSeg fun hk => (hf _).keeps hk).settle

theorem StartsStopped.stopSeg {s : State} (hs : StartsStopped s) (k : Seg) : StartsStopped (s.stopSeg k) := by
  unfold State.stopSeg; split
  · exact hs.onSeg Work.runClear_startsStopped
  · exact hs

theorem StartsStopped.stopAll {s : State} (hs : StartsStopped s) : StartsStopped s.stopAll :=
  (((hs.stopSeg .s0).stopSeg .s1).stopSeg .s2).stopSeg .s3

theorem State.raise_segs (s : State) (n : Notice) : (s.raise n).segs = s.segs := by
  obtain ⟨v, a, h⟩ := s.raise_frame n; rw [h]

theorem State.dropNotice_segs (s : State) : s.dropNotice.segs = s.segs := by
  unfold State.dropNotice
  rcases State.requestRecord_cases
    ({ s with nw := { s.nw with dropped := s.nw.dropped + 1 } }.setCause .noticeLost) with h | h <;> rw [h] <;> rfl

theorem State.noticeDone_segs (s : State) (op : Op) (d : List Byte) : (s.noticeDone op d).segs = s.segs := by
  unfold State.noticeDone
  dsimp only
  repeat' split
  all_goals first | rfl | exact State.dropNotice_segs _

theorem StartsStopped.noticeFault {s : State} (hs : StartsStopped s) (addr : Word) : StartsStopped (s.noticeFault addr) := by
  unfold State.noticeFault
  dsimp only
  refine StartsStopped.stopAll (hs.of_segs ?_)
  split <;> rfl

theorem State.enterReady_segs (s : State) : s.enterReady.segs = s.segs := by
  unfold State.enterReady
  dsimp only
  split
  · rfl
  · exact State.raise_segs _ _

/-- The values of a control block move no segment unit. -/
theorem StartsStopped.takeControlBlock {s : State} (hs : StartsStopped s) (d : List Byte) :
    StartsStopped (s.takeControlBlock d) := by
  intro k
  have := hs k
  cases k <;> exact this

theorem StartsStopped.loadDone {s : State} (hs : StartsStopped s) (d : List Byte) : StartsStopped (s.loadDone d) := by
  unfold State.loadDone
  split
  · exact hs.of_segs rfl
  · exact (hs.takeControlBlock d).of_segs (State.enterReady_segs _)

theorem StartsStopped.complete {s : State} (hs : StartsStopped s) (d : List Byte) : StartsStopped (s.complete d) := by
  have hf : StartsStopped s.freePort := hs.of_segs rfl
  unfold State.complete
  split
  · exact hs
  · dsimp only
    split
    · refine hf.onSeg fun hk => ?_
      split
      · exact hk
      · exact Work.accessDone_startsStopped hk _ _
    · split
      · exact hf
      · exact hf.of_segs (State.noticeDone_segs _ _ _)
    · split
      · exact hf
      · exact hf.loadDone d

theorem StartsStopped.errorResponse {s : State} (hs : StartsStopped s) : StartsStopped s.errorResponse := by
  have hf : StartsStopped s.freePort := hs.of_segs rfl
  unfold State.errorResponse
  split
  · exact hs
  · dsimp only
    split
    · refine hf.onSeg fun hk => ?_
      split
      · exact hk
      · exact Work.accessError_startsStopped hk _
    · split
      · exact hf
      · exact hf.noticeFault _
    · split
      · exact hf
      · exact hf.of_segs rfl

theorem Work.refused_startsStopped {w : Work} (hw : w.seg.startsStopped) (a : Access) : (w.refused a).seg.startsStopped := by
  unfold Work.refused; split
  · exact Work.progressFailed_startsStopped hw _ _
  · exact Work.takeFault_startsStopped hw _ _

theorem Segment.grant_ctl (g : Segment) (src : Source) (a : Access) : (g.grant src a).1.ctl = g.ctl := by
  unfold Segment.grant; dsimp only; split <;> rfl

/-- Putting a granted access on the bus, or refusing it, is an event of the segment at most. -/
theorem StartsStopped.grantSegment {s : State} (hs : StartsStopped s) (k : Seg) (src : Source) :
    StartsStopped (s.grantSegment k src) := by
  have hp : ∀ (t : State) (a : Access), StartsStopped t →
      StartsStopped (if a.op.isWrite && !a.inWindow t.port.windowLow t.port.windowHigh then t.refusal.refuseSegment k a
        else t.issue (.segment k src) a) := by
    intro t a ht
    split
    · unfold State.refuseSegment
      exact StartsStopped.onSeg (s := t.refusal) (ht.of_segs rfl) fun hk => Work.refused_startsStopped (by exact hk) a
    · exact ht.of_segs rfl
  unfold State.grantSegment
  split
  · exact hs
  · rename_i a _
    dsimp only
    refine hp _ _ ?_
    have hg := (Segment.sameStart_of_ctl (Segment.grant_ctl (s.segs.get k) src a)).keeps (hs k)
    split
    · exact hs.put rfl hg
    · exact hs.put rfl hg

theorem StartsStopped.grantNotice {s : State} (hs : StartsStopped s) : StartsStopped s.grantNotice := by
  have hp : ∀ (t : State) (a : Access), StartsStopped t →
      StartsStopped (if a.op.isWrite && !a.inWindow t.port.windowLow t.port.windowHigh then
        t.refusal.noticeFault (firstByte a.bytes a.addr) else t.issue .notice a) := by
    intro t a ht
    split
    · exact StartsStopped.noticeFault (s := t.refusal) (ht.of_segs rfl) _
    · exact ht.of_segs rfl
  unfold State.grantNotice
  split
  · exact hs
  · exact hp _ _ (hs.of_segs rfl)

theorem StartsStopped.grant {s : State} (hs : StartsStopped s) (late : List Requester) : StartsStopped (s.grant late) := by
  unfold State.grant
  split
  · exact hs
  · split
    · exact hs.grantSegment _ _
    · exact hs.grantNotice
    · unfold State.grantDevice
      split
      · exact hs
      · exact hs.of_segs rfl
    · exact hs

theorem StartsStopped.scanSeg {s : State} (hs : StartsStopped s) (v : Word) (k : Seg) : StartsStopped (s.scanSeg v k) := by
  unfold State.scanSeg
  split
  · exact hs.onSeg fun hk => (Segment.sameStart_of_ctl (Segment.scanned_ctl _)).keeps hk
  · exact hs

theorem StartsStopped.runSet {s : State} (hs : StartsStopped s) (k : Seg) : StartsStopped (s.runSet k) := by
  unfold State.runSet
  split
  · rename_i h
    refine hs.onSeg fun hk => Work.beginStart_startsStopped ?_ hk
    have hr := ((Bool.and_eq_true _ _).mp h).2
    simp only [Segment.atRest, Segment.runBit, Bool.not_eq_true', Bool.or_eq_false_iff, bne_eq_false_iff_eq] at hr
    exact hr.1
  · exact hs

theorem StartsStopped.enableClear {s : State} (hs : StartsStopped s) : StartsStopped s.enableClear := by
  unfold State.enableClear
  split
  · exact hs
  · exact hs
  · split
    · exact hs
    · exact StartsStopped.stopAll (hs.of_segs rfl)
  · exact hs.of_segs rfl

/-- A reset leaves every segment unit STOPPED with no start in progress. -/
theorem StartsStopped_reset {t : State} (h : t.segs = .const .reset) : StartsStopped t := by
  intro k
  rw [h, Four.get_const]
  exact ⟨fun _ => rfl, fun _ => rfl⟩

/-! ## The obligation -/

/-- Every command keeps the invariant. -/
theorem StartsStopped.exec {s t : State} (hs : StartsStopped s) (c : Instr) (h : exec c s = .next t) : StartsStopped t := by
  have ctl : ∀ {k : Seg} {f : Segment → Segment}, (∀ g, (f g).ctl = g.ctl) → s.segEvent k f = .next t → StartsStopped t :=
    fun hf => hs.segEvent fun g => Segment.sameStart_of_ctl (hf g)
  have wctl : ∀ {k : Seg} {f : Work → Work}, (∀ w, (f w).seg.ctl = w.seg.ctl) → s.workEvent k f = .next t →
      StartsStopped t := fun hf => hs.workEvent fun w => Segment.sameStart_of_ctl (hf w)
  cases c with
  | pinReset | softReset => cases h; exact StartsStopped_reset rfl
  | enableSet =>
    cases h
    refine (hs.of_segs ?_).settle
    unfold State.enableSet
    split <;> rfl
  | enableClear => cases h; exact hs.enableClear.settle
  | runSet k => cases h; exact (hs.runSet k).settle
  | runClear k =>
    cases h
    refine StartsStopped.settle ?_
    unfold State.runClear
    split
    · exact hs.stopSeg k
    · exact hs
  | scan v => cases h; exact ((((hs.scanSeg v .s0).scanSeg v .s1).scanSeg v .s2).scanSeg v .s3).settle
  | attentionRead | attentionMaskWrite v => cases h; exact hs.of_segs rfl
  | registerWrite reg v =>
    cases h
    refine hs.of_segs ?_
    unfold State.registerWrite
    repeat' split
    all_goals rfl
  | memoryGrant late => cases h; exact (hs.grant late).settle
  | accessComplete d => cases h; exact (hs.complete d).settle
  | errorResponse => cases h; exact hs.errorResponse.settle
  | throttleExpiry k =>
    cases h
    exact StartsStopped.settle (s := { s with port := _ }) (hs.of_segs rfl)
  | frameReport k => exact hs.segEvent Segment.report_sameStart h
  | startBitTaken k => exact ctl Segment.startBit_ctl h
  | arbitrationLoss k pos start => exact ctl (fun g => g.arbitrationLoss_ctl pos start) h
  | collision k pos start => exact ctl (fun g => g.collision_ctl pos start) h
  | transmitEnd k => exact ctl Segment.transmitEnd_ctl h
  | frameGap k => exact ctl Segment.frameGap_ctl h
  | reservationExpiry k => exact ctl Segment.reservationExpiry_ctl h
  | wExpiry k => exact ctl Segment.noReply_ctl h
  | holdGap k => exact ctl Segment.holdGap_ctl h
  | answerTurnaround k => exact ctl Segment.turnaround_ctl h
  | responderDeadline k => exact ctl Segment.deadline_ctl h
  | stallReport k => exact hs.segEvent Segment.stallReport_sameStart h
  | stallEnd k => exact hs.segEvent Segment.stallEnd_sameStart h
  | settleExpiry k mv => exact hs.workEvent (fun w => w.settleExpiry_sameStart mv) h
  | quietInterval k => exact hs.segEvent Segment.quiet_sameStart h
  | cycleTimerExpiry k => exact wctl Work.cycleExpiry_ctl h
  | scanTimerExpiry k => exact ctl Segment.scanExpiry_ctl h
  | sampleTimerExpiry k mv => exact wctl (fun w => w.sampleExpiry_ctl mv) h
  | sweepStep k mv next => exact wctl (fun w => w.sweepStep_ctl mv next) h
  | pauseAfterEnd k => exact ctl Segment.pauseEnd_ctl h
  | characterComplete k c parity stop => exact ctl (fun g => g.character_ctl c parity stop) h

/-- Settles O7: a step is a command on the rest of the queue, and every command keeps the invariant. -/
theorem startsStayInStopped : Obligations.StartsStayInStopped := by
  intro s t hs h
  unfold step at h
  split at h
  · cases h; exact hs
  · rename_i c rest _
    exact StartsStopped.exec (s := { s with pending := rest }) (hs.of_segs rfl) c h

end Sys2Proof.Machine

/-! SUPPORT. Fields of a register word: which bits a field has, and what is read back at its place (R161, R42). -/

namespace Sys2Proof.Machine

/-- Bit j of a field that stands at or below it. -/
theorem getLsbD_field {n sh j : Nat} (hj : sh ≤ j) (h32 : j < 32) : (field n sh).getLsbD j = n.testBit (j - sh) := by
  unfold field
  rw [BitVec.getLsbD_ofNat, Nat.testBit_mul_two_pow]
  simp [hj, h32]

/-- A field of w bits has no bit outside its place. -/
theorem getLsbD_field_outside {n w : Nat} (h : n < 2 ^ w) {sh j : Nat} (hj : j < sh ∨ sh + w ≤ j) :
    (field n sh).getLsbD j = false := by
  unfold field
  rw [BitVec.getLsbD_ofNat, Nat.testBit_mul_two_pow]
  rcases hj with hj | hj
  · simp [Nat.not_le.mpr hj]
  · have hlt : n < 2 ^ (j - sh) := lt_of_lt_of_le h (Nat.pow_le_pow_right (by decide) (by omega))
    simp [Nat.testBit_lt_two_pow hlt]

/-- A number of len bits is what stands at a place of a word when its bits do. -/
theorem toNat_extractLsb'_of_bits {v : Word} {st len c : Nat} (hc : c < 2 ^ len)
    (h : ∀ j, st ≤ j → j < st + len → v.getLsbD j = c.testBit (j - st)) : (v.extractLsb' st len).toNat = c := by
  refine Nat.eq_of_testBit_eq fun i => ?_
  rw [BitVec.testBit_toNat, BitVec.getLsbD_extractLsb']
  by_cases hi : i < len
  · have hb := h (st + i) (by omega) (by omega)
    rw [Nat.add_sub_cancel_left] at hb
    simp [hi, hb]
  · have hlt : c < 2 ^ i := lt_of_lt_of_le hc (Nat.pow_le_pow_right (by decide) (by omega))
    simp [hi, Nat.testBit_lt_two_pow hlt]

theorem testBit_toNat_zero (b : Bool) : b.toNat.testBit 0 = b := by cases b <;> rfl

/-! ## The codes fit their fields (11) -/

theorem Bool.toNat_lt_field (b : Bool) : b.toNat < 2 ^ 1 := by cases b <;> decide

theorem SegState.code_lt (st : SegState) : st.code < 2 ^ 3 := by cases st <;> decide

theorem FaultCode.code_lt (c : FaultCode) : c.code < 2 ^ 3 := by cases c <;> decide

theorem Level.code_lt (l : Level) : l.code < 2 ^ 2 := by cases l <;> decide

theorem DevState.code_lt (st : DevState) : st.code < 2 ^ 2 := by cases st <;> decide

theorem DevFault.code_lt (c : DevFault) : c.code < 2 ^ 3 := by cases c <;> decide

end Sys2Proof.Machine

/-! The register window: what reads return, which commands writes are, and when BLOCK is taken (R161). -/

namespace Sys2Proof.Machine

/-! ## CONTROL and STATE, bit by bit -/

/-- Bit j of CONTROL, as the fields it is made of. -/
theorem State.getLsbD_controlView (s : State) (j : Nat) : s.controlView.getLsbD j
    = ((field s.dev.enable.toNat 0).getLsbD j || (field (s.segs.get .s0).runBit.toNat 4).getLsbD j
      || (field (s.segs.get .s1).runBit.toNat 5).getLsbD j || (field (s.segs.get .s2).runBit.toNat 6).getLsbD j
      || (field (s.segs.get .s3).runBit.toNat 7).getLsbD j) := by
  unfold State.controlView
  simp only [BitVec.getLsbD_or]

theorem State.controlView_enable (s : State) : s.controlView.getLsbD 0 = s.dev.enable := by
  rw [State.getLsbD_controlView, getLsbD_field (by decide) (by decide), testBit_toNat_zero]
  simp (disch := omega) only [getLsbD_field_outside (Bool.toNat_lt_field _), Bool.or_false]

theorem State.controlView_run (s : State) (k : Seg) : s.controlView.getLsbD (4 + k.toNat) = (s.segs.get k).runBit := by
  rw [State.getLsbD_controlView]
  cases k <;> dsimp only [Seg.toNat] <;>
    simp (disch := omega) only [getLsbD_field_outside (Bool.toNat_lt_field _), getLsbD_field, Nat.sub_self,
      testBit_toNat_zero, Bool.or_false, Bool.false_or]

/-- The bits of CONTROL that are not named read 0. -/
theorem State.controlView_unnamed (s : State) {i : Nat} (h : (1 ≤ i ∧ i ≤ 3) ∨ 8 ≤ i) :
    s.controlView.getLsbD i = false := by
  rw [State.getLsbD_controlView]
  simp (disch := omega) only [getLsbD_field_outside (Bool.toNat_lt_field _), Bool.or_false]

/-- Bit j of STATE, as the fields it is made of. -/
theorem State.getLsbD_stateView (s : State) (j : Nat) : s.stateView.getLsbD j
    = ((field s.dev.state.code 0).getLsbD j || (field s.dev.fault.code 4).getLsbD j
      || (field (s.segs.get .s0).state.code 8).getLsbD j || (field (s.segs.get .s1).state.code 12).getLsbD j
      || (field (s.segs.get .s2).state.code 16).getLsbD j || (field (s.segs.get .s3).state.code 20).getLsbD j) := by
  unfold State.stateView
  simp only [BitVec.getLsbD_or]

theorem State.stateView_dev (s : State) : (s.stateView.extractLsb' 0 2).toNat = s.dev.state.code := by
  refine toNat_extractLsb'_of_bits (DevState.code_lt _) fun j hj hl => ?_
  rw [State.getLsbD_stateView, getLsbD_field hj (by omega)]
  simp (disch := omega) only [getLsbD_field_outside (DevFault.code_lt _), getLsbD_field_outside (SegState.code_lt _),
    Bool.or_false]

theorem State.stateView_fault (s : State) : (s.stateView.extractLsb' 4 4).toNat = s.dev.fault.code := by
  refine toNat_extractLsb'_of_bits (lt_of_lt_of_le (DevFault.code_lt _) (by decide)) fun j hj hl => ?_
  rw [State.getLsbD_stateView, getLsbD_field (n := s.dev.fault.code) hj (by omega)]
  simp (disch := omega) only [getLsbD_field_outside (DevState.code_lt _), getLsbD_field_outside (SegState.code_lt _),
    Bool.or_false, Bool.false_or]

theorem State.stateView_seg (s : State) (k : Seg) :
    (s.stateView.extractLsb' (8 + 4 * k.toNat) 3).toNat = (s.segs.get k).state.code := by
  refine toNat_extractLsb'_of_bits (SegState.code_lt _) fun j hj hl => ?_
  rw [State.getLsbD_stateView]
  cases k <;> dsimp only [Seg.toNat] at hj hl ⊢ <;>
    simp (disch := omega) only [getLsbD_field_outside (DevState.code_lt _), getLsbD_field_outside (DevFault.code_lt _),
      getLsbD_field_outside (SegState.code_lt _), getLsbD_field, Bool.or_false, Bool.false_or]

/-- The bits of STATE that are not named read 0. -/
theorem State.stateView_unnamed (s : State) {i : Nat} (h : i = 2 ∨ i = 3 ∨ i = 11 ∨ i = 15 ∨ i = 19 ∨ 23 ≤ i) :
    s.stateView.getLsbD i = false := by
  rw [State.getLsbD_stateView]
  simp (disch := omega) only [getLsbD_field_outside (DevState.code_lt _), getLsbD_field_outside (DevFault.code_lt _),
    getLsbD_field_outside (SegState.code_lt _), Bool.or_false]

/-! ## The window -/

/-- No register stands at another offset. -/
theorem registerAt_none {o : Nat} (h : ∀ r : Register, o ≠ r.offset) : registerAt o = none := by
  unfold registerAt
  rw [List.find?_eq_none]
  intro r _ hr
  exact h r (beq_iff_eq.mp hr).symm

/-- BLOCK is taken while the device is DISABLED. -/
theorem State.registerWrite_block {s : State} (v : Word) (h : s.dev.state = .disabled) :
    s.registerWrite .block v = { s with block := v } := if_pos h

theorem State.registerWrite_ignored {s : State} (v : Word) (h : s.dev.state ≠ .disabled) :
    s.registerWrite .block v = s := if_neg h

/-! ## The obligation -/

/-- Settles O19: the two composed registers bit by bit, the other registers and the commands by their definitions. -/
theorem registerWindowReadsAndWrites : Obligations.RegisterWindowReadsAndWrites := by
  refine ⟨fun s => ⟨⟨s.controlView, rfl, s.controlView_enable, s.controlView_run, fun i hi => s.controlView_unnamed hi⟩,
      rfl, rfl, rfl, rfl,
      ⟨s.stateView, rfl, s.stateView_dev, s.stateView_fault, s.stateView_seg, fun i hi => s.stateView_unnamed hi⟩,
      fun o h0 h1 h2 h3 h4 h5 => ?_⟩, rfl, fun r hr => ?_, fun v => ⟨rfl, rfl, rfl, rfl, rfl, rfl⟩,
    fun s v => ⟨fun h => ?_, fun h => ?_, rfl, rfl⟩⟩
  · unfold State.windowRead
    rw [registerAt_none (fun r => by cases r <;> assumption)]
    rfl
  · cases r with
    | attention => exact absurd rfl hr
    | control | block | scan | mask | state => rfl
  · exact congrArg Host.Outcome.next (State.registerWrite_block v h)
  · exact congrArg Host.Outcome.next (State.registerWrite_ignored v h)

end Sys2Proof.Machine

/-! RUN writes: the ones that are ignored, the begin of a start, the cancelled start and the move from FAULTED to STOPPED
(R25, R26, R41, R162). -/

namespace Sys2Proof.Machine

/-! ## When a RUN write is taken -/

theorem State.takesRun_iff (s : State) : s.takesRun = true ↔ s.dev.state = .ready ∧ s.dev.disabling = false := by
  simp [State.takesRun]

theorem Segment.atRest_iff (g : Segment) : g.atRest = true ↔ g.state = .stopped ∧ g.starting = false := by
  simp [Segment.atRest, Segment.runBit]

/-- A RUN write of 1 to a segment that takes it is an event of that segment. -/
theorem exec_runSet_taken {s : State} {k : Seg} (ht : s.takesRun = true) (hr : (s.segs.get k).atRest = true) :
    exec (.runSet k) s = .next (s.onSeg k Work.beginStart).settle := by
  have h : s.runSet k = s.onSeg k Work.beginStart := if_pos (by rw [ht, hr]; rfl)
  exact congrArg (fun t : State => Host.Outcome.next t.settle) h

theorem exec_runSet_ignored {s : State} {k : Seg} (hs : s.settled) (h : s.takesRun = false ∨ (s.segs.get k).atRest = false) :
    exec (.runSet k) s = .next s := by
  have hr : s.runSet k = s := if_neg (by rcases h with h | h <;> simp [h])
  exact congrArg Host.Outcome.next ((congrArg State.settle hr).trans hs)

/-- A RUN write of 0 to a segment that acts on it is an event of that segment. -/
theorem exec_runClear_taken {s : State} {k : Seg} (ht : s.takesRun = true) (hr : (s.segs.get k).takesRunClear = true) :
    exec (.runClear k) s = .next (s.onSeg k Work.runClear).settle := by
  have h : s.runClear k = s.onSeg k Work.runClear := (if_pos ht).trans (if_pos hr)
  exact congrArg (fun t : State => Host.Outcome.next t.settle) h

theorem exec_runClear_ignored {s : State} {k : Seg} (hs : s.settled)
    (h : s.takesRun = false ∨ (s.segs.get k).takesRunClear = false) : exec (.runClear k) s = .next s := by
  have hr : s.runClear k = s := by
    unfold State.runClear State.stopSeg
    rcases h with h | h <;> simp [h]
  exact congrArg Host.Outcome.next ((congrArg State.settle hr).trans hs)

/-- The segments that a RUN write of 0 leaves alone (R25, R40). -/
theorem Segment.takesRunClear_ignores {g : Segment} (h : (g.state = .stopped ∧ g.starting = false)
    ∨ g.state = .stopping ∨ (g.state.running ∧ g.faultHeld ≠ none)) : g.takesRunClear = false := by
  unfold Segment.takesRunClear
  rcases h with ⟨hs, hst⟩ | hs | ⟨hs, hf⟩
  · rw [hs]; exact hst
  · rw [hs]
  · have hn : g.faultHeld.isNone = false := by
      cases hh : g.faultHeld with
      | none => exact absurd hh hf
      | some _ => rfl
    rcases hs with hs | hs | hs | hs <;> rw [hs] <;> exact hn

/-- Settles O14: a RUN write that the device or the segment ignores leaves a settled block as it is. -/
theorem runWritesIgnored : Obligations.RunWritesIgnored := by
  refine ⟨fun s k hs h => exec_runSet_ignored hs ?_, fun s k g hs hg h => exec_runClear_ignored hs ?_⟩
  · rcases h with h | h | h | h
    · exact .inl (Bool.eq_false_iff.mpr fun c => h (s.takesRun_iff.mp c).1)
    · exact .inl (Bool.eq_false_iff.mpr fun c => by simp [(s.takesRun_iff.mp c).2] at h)
    · exact .inr (Bool.eq_false_iff.mpr fun c => h ((Segment.atRest_iff _).mp c).1)
    · exact .inr (Bool.eq_false_iff.mpr fun c => by simp [((Segment.atRest_iff _).mp c).2] at h)
  · subst hg
    rcases h with h | h | h
    · exact .inl (Bool.eq_false_iff.mpr fun c => h (s.takesRun_iff.mp c).1)
    · exact .inl (Bool.eq_false_iff.mpr fun c => by simp [(s.takesRun_iff.mp c).2] at h)
    · exact .inr (Segment.takesRunClear_ignores h)

end Sys2Proof.Machine

/-! SUPPORT. The epilogue of an event by the state of the segment: STOPPED and FAULTED, STOPPING, and a live segment that
serves a unit; and what settling leaves to do in READY. -/

namespace Sys2Proof.Machine

/-! ## A segment that is not live -/

/-- The epilogue does nothing in a segment that is STOPPED or FAULTED and holds no fault back. -/
theorem Work.finish_off {w : Work} (hs : w.seg.state = .stopped ∨ w.seg.state = .faulted) (hf : w.seg.faultHeld = none) :
    w.finish = w := by
  unfold Work.finish
  dsimp only
  have hl : ¬w.seg.live = true := by rcases hs with hs | hs <;> simp [Segment.live, hs]
  rw [Work.heldFault_none hf, if_neg hl, Work.stopCheck_other]
  rcases hs with hs | hs <;> simp [hs]

/-! ## A live segment outside LOCKED, and one that serves a unit -/

/-- The sequencer begins nothing outside LOCKED, nor while a unit is in service. -/
theorem Segment.kick_none {g : Segment} (h : g.state ≠ .locked ∨ g.unit ≠ .none) : g.kick = g := by
  unfold Segment.kick
  refine if_neg fun c => ?_
  rcases h with h | h
  · have hw := ((Bool.and_eq_true _ _).mp c.1).1
    exact h (by simpa using hw)
  · exact h c.2

/-- The transmitter begins nothing outside LOCKED. -/
theorem Segment.tryBegin_unlocked {g : Segment} (h : g.state ≠ .locked) : g.tryBegin = g := by
  unfold Segment.tryBegin
  refine if_neg fun c => ?_
  have hw := ((Bool.and_eq_true _ _).mp c.1).1
  exact h (by simpa using hw)

/-- With no work frame ready, the transmitter moves only the line and the pending answer. -/
theorem Segment.tryBegin_answerOnly {g : Segment} (hx : g.xact ≠ .ready) :
    g.tryBegin.unit = g.unit ∧ g.tryBegin.xact = g.xact ∧ g.tryBegin.waits = g.waits ∧ g.tryBegin.cycle = g.cycle := by
  have hb : ∃ l r, g.beginAnswer = { g with line := l, resp := r } := by
    unfold Segment.beginAnswer
    repeat' split
    all_goals exact ⟨_, _, rfl⟩
  obtain ⟨l, r, hb⟩ := hb
  unfold Segment.tryBegin
  split
  · dsimp only
    rw [hb, if_neg fun c => hx c.2.1]
    exact ⟨rfl, rfl, rfl, rfl⟩
  · exact ⟨rfl, rfl, rfl, rfl⟩

/-- Outside LOCKED the epilogue lets only a lost unit and the responder move, and the end of STOPPING. -/
theorem Work.finish_unlocked {w : Work} (hl : w.seg.live = true) (hs : w.seg.state ≠ .locked) :
    ∃ r n u rd, w.finish = Work.stopCheck { w with seg := { w.seg.lostDue with
        resp := r, waits := { w.seg.lostDue.waits with responder := n, urgent := u } } }
      ∧ r.pend = w.seg.resp.pend.map fun p => { p with read := rd } := by
  have hf : w.seg.faultHeld = none := by
    have h := ((Bool.and_eq_true _ _).mp hl).2
    simpa using h
  have hd : w.seg.lostDue.state ≠ .locked := by
    have h := w.seg.lostDue_ctl
    simp only [Segment.ctl, Prod.mk.injEq] at h
    rw [h.1]; exact hs
  have hk : (w.on fun s => s.lostDue.kick) = w.on Segment.lostDue := by
    unfold Work.on
    dsimp only
    rw [Segment.kick_none (.inl hd)]
  obtain ⟨r, n, u, rd, hr, hp⟩ := Work.respDue_frame (w.on Segment.lostDue)
  refine ⟨r, n, u, rd, ?_, ?_⟩
  · unfold Work.finish
    dsimp only
    rw [Work.heldFault_none hf, if_pos hl, hk, hr]
    exact congrArg (fun g => Work.stopCheck { w with seg := g }) (Segment.tryBegin_unlocked hd)
  · have h := w.seg.lostDue_side
    simp only [Segment.side, Prod.mk.injEq] at h
    rw [hp, Work.on_seg, h.1]

/-- The end of STOPPING waits for the unit in service (R38). -/
theorem Work.stopCheck_unit {w : Work} (hu : w.seg.unit ≠ .none) : w.stopCheck = w := by
  unfold Work.stopCheck
  refine if_neg fun c => hu ?_
  simp only [Work.stopReady, Bool.and_eq_true, beq_iff_eq] at c
  tauto

/-- While a unit is in service that has no frame ready, the epilogue of a live segment leaves the unit, its transaction, its
waiting access and the cycle as the end of a lost unit leaves them. -/
theorem Work.finish_unit {w : Work} (hl : w.seg.live = true) (hu : w.seg.lostDue.unit ≠ .none)
    (hx : w.seg.lostDue.xact ≠ .ready) :
    w.finish.seg.unit = w.seg.lostDue.unit ∧ w.finish.seg.xact = w.seg.lostDue.xact
      ∧ w.finish.seg.waits.unit = w.seg.lostDue.waits.unit ∧ w.finish.seg.cycle = w.seg.lostDue.cycle := by
  have hf : w.seg.faultHeld = none := by
    have h := ((Bool.and_eq_true _ _).mp hl).2
    simpa using h
  have hk : (w.on fun s => s.lostDue.kick) = w.on Segment.lostDue := by
    unfold Work.on
    dsimp only
    rw [Segment.kick_none (.inr hu)]
  obtain ⟨r, n, u, rd, hr, -⟩ := Work.respDue_frame (w.on Segment.lostDue)
  obtain ⟨h1, h2, h3, h4⟩ := Segment.tryBegin_answerOnly
    (g := { w.seg.lostDue with resp := r, waits := { w.seg.lostDue.waits with responder := n, urgent := u } }) hx
  unfold Work.finish
  dsimp only
  rw [Work.heldFault_none hf, if_pos hl, hk, hr, Work.stopCheck_unit]
  · exact ⟨h1, h2, (congrArg Waits.unit h3 :), h4⟩
  · exact fun c => hu (h1.symm.trans c)

/-! ## The end of STOPPING (R38) -/

/-- The access of segment k on the bus is what its working copy sees there. -/
theorem Work.busSource_isSome {w : Work} :
    w.busSource.isSome = true ↔ ∃ b src, w.bus = some b ∧ b.req = .segment w.k src := by
  unfold Work.busSource
  constructor
  · intro h
    split at h
    · rename_i j src acc disc hb
      split at h
      · rename_i hj
        exact ⟨_, src, hb, by rw [← hj]⟩
      · cases h
    · cases h
  · rintro ⟨⟨req, acc, disc⟩, src, hb, hreq⟩
    cases hreq
    rw [hb]
    simp

/-- Nothing but a frame on the line or an access on the bus keeps the segment from ending its stop (R38). -/
structure Segment.stopDone (g : Segment) : Prop where
  state : g.state = .stopping
  faultHeld : g.faultHeld = none
  stopWrite : g.stopWrite = false
  unit : g.unit = .none
  resp : g.resp.quiet
  urgent : g.waits.urgent = none
  responder : g.waits.responder = none
  waitsUnit : g.waits.unit = none
  chain : g.waits.chain = none

theorem Work.stopReady_iff {w : Work} (h : w.seg.stopDone) :
    w.stopReady = true ↔ w.seg.line.tx = none ∧ ¬∃ b src, w.bus = some b ∧ b.req = .segment w.k src := by
  obtain ⟨hs, hf, hw, hu, ⟨hp, hh, hd⟩, h1, h2, h3, h4⟩ := h
  rw [← Work.busSource_isSome]
  unfold Work.stopReady
  simp [hs, hf, hw, hu, hp, hh, hd, h1, h2, h3, h4]

/-- The segment unit once the record write that carries STOPPED is asked for (R38, R145). -/
def Segment.stopAsked (g : Segment) : Segment :=
  { g with
    stopWrite := true, supply := { g.supply with timer := .stopped },
    waits := { g.waits with control := some g.progressWait } }

theorem Work.stopCheck_ends {w : Work} (h : w.stopReady = true) : w.stopCheck = w.on Segment.stopAsked := by
  unfold Work.stopCheck
  rw [if_pos h]
  unfold Work.on Segment.reqProgress
  simp only [List.append_nil]
  rfl

theorem Work.stopCheck_waits {w : Work} (h : ¬w.stopReady = true) : w.stopCheck = w := if_neg h

/-! ## Committing a working copy that raises nothing -/

/-- An event that raises nothing: the segment unit, the discard mark, the withdrawn requests, the draw and SEG_STOP. -/
theorem State.onSeg_silent {s : State} {k : Seg} {f : Work → Work} {v : Work} (hv : (f (s.work k)).finish = v)
    (hn : v.notices = []) :
    s.onSeg k f = { s with
      segs := s.segs.put k v.seg,
      port := { s.port with busy := s.busAfter v.drop, waited := s.waitedAfter k v.seg },
      draws := if v.drew then s.draws + 1 else s.draws,
      attention := if v.segStop then s.attention ||| BitVec.ofNat 8 (2 ^ (4 + k.toNat)) else s.attention } := by
  unfold State.onSeg State.commit
  rw [hv, hn]
  cases v.segStop <;> rfl

/-! ## Settling in READY -/

/-- The notice writer has nothing to issue: it has an access waiting or on the bus, or nothing due. -/
def State.noticeIdle (s : State) : Prop :=
  s.port.notice = none → s.noticeOnBus = false → s.nw.recWaiting = false ∧ s.nw.queue = []

/-- An access of the notice writer that is issued is a change. -/
theorem State.issued_ne {s : State} (h : s.port.notice = none) (a : Access) (v : NoticeWriter) :
    ({ s with port := { s.port with notice := some a }, nw := v } : State) ≠ s := by
  intro e
  have := (congrArg (fun t : State => t.port.notice) e).trans h
  cases this

/-- In READY outside a drain a block is settled exactly when the notice writer has nothing to issue. -/
theorem State.settled_iff_noticeIdle {s : State} (hr : s.dev.state = .ready) (hd : s.dev.disabling = false) :
    s.settled ↔ s.noticeIdle := by
  have hdr : s.drained = false := by simp [State.drained, hd]
  unfold State.settled State.noticeIdle
  rw [State.settle_ready hr]
  unfold State.noticeDue
  by_cases c : s.port.notice = none ∧ s.noticeOnBus = false
  · have hn := State.issued_ne c.1
    rw [if_pos ⟨hr, c⟩]
    simp only [c, hdr, Bool.false_eq_true, or_false, forall_const]
    split
    · rename_i hw
      simp [hw, hn]
    · rename_i hw
      cases hq : s.nw.queue with
      | nil => simp [hw]
      | cons n ns => simp [hn _ s.nw]
  · rw [if_neg fun h => c h.2]
    simp only [true_iff]
    exact fun h1 h2 => absurd ⟨h1, h2⟩ c

/-- What settling reads of a block in READY outside a drain. -/
theorem State.settle_eq_of_settled {s t : State} (hs : s.settled) (hr : s.dev.state = .ready) (hd : s.dev.disabling = false)
    (hdev : t.dev = s.dev) (hnw : t.nw = s.nw) (hn : t.port.notice = s.port.notice) (hb : t.noticeOnBus = s.noticeOnBus) :
    t.settle = t := by
  have hi := (State.settled_iff_noticeIdle hr hd).mp hs
  refine (State.settled_iff_noticeIdle (s := t) (by rw [hdev]; exact hr) (by rw [hdev]; exact hd)).mpr ?_
  unfold State.noticeIdle
  rw [hn, hb, hnw]
  exact hi

/-- A discard of a segment's access does not concern the notice writer; nor does its own, once discarded. -/
theorem State.noticeOnBus_busAfter {s t : State} {drop : Bool} (h : drop = true → ∃ b k src, s.port.busy = some b
    ∧ b.req = .segment k src) (ht : t.port.busy = s.busAfter drop) : t.noticeOnBus = s.noticeOnBus := by
  unfold State.noticeOnBus
  rw [ht]
  unfold State.busAfter
  cases drop with
  | false => rfl
  | true =>
    obtain ⟨⟨req, acc, disc⟩, k, src, hb, hreq⟩ := h rfl
    cases hreq
    rw [hb]
    rfl

end Sys2Proof.Machine

/-! What an event makes due: nothing in a calm segment unit, the end of STOPPING, and LINE_LOST once no answer is owed. -/

namespace Sys2Proof.Machine

/-- The requests noted after an event were noted before it: the segment may withdraw one, and settling the notice
writer's. -/
theorem State.afterEvent_waited {s : State} {k : Seg} {g : Segment} {ns : List Notice} {r : Requester}
    (h : r ∈ (s.afterEvent k g ns).port.waited) : r ∈ s.port.waited := by
  have hnd : ∀ t : State, t.noticeDue.port.waited = t.port.waited := by
    intro t
    unfold State.noticeDue
    repeat' split
    all_goals rfl
  have hdd : ∀ t : State, r ∈ t.disableDue.port.waited → r ∈ t.port.waited := by
    intro t ht
    unfold State.disableDue at ht
    split at ht
    · exact (List.mem_filter.mp ht).1
    · exact ht
  unfold State.afterEvent State.settle at h
  rw [hnd] at h
  have h := hdd _ h
  rw [State.onSeg_port] at h
  exact (List.mem_filter.mp h).1

/-- Which requests stay noted when a segment unit takes a value (R159). -/
theorem State.mem_takeSeg_waited {s : State} {k : Seg} {g : Segment} {r : Requester} :
    r ∈ (s.takeSeg k g).port.waited ↔ r ∈ s.port.waited
      ∧ ∀ src, r = .segment k src → (s.segs.get k).waits.access src ≠ none → g.waits.access src ≠ none := by
  rw [State.takeSeg_port]
  unfold State.waitedAfter
  rw [List.mem_filter]
  refine and_congr_right fun _ => ?_
  cases r with
  | notice | device => simp [State.withdraws]
  | segment j src =>
    simp only [State.withdraws, Bool.not_eq_true', Bool.and_eq_false_iff, beq_eq_false_iff_ne, ne_eq,
      Requester.segment.injEq, Option.isSome_eq_false_iff, Option.isNone_iff_eq_none, Option.isNone_eq_false_iff,
      Option.isSome_iff_ne_none]
    constructor
    · rintro h src' ⟨rfl, rfl⟩ hw
      rcases h with (h | h) | h
      · exact absurd rfl h
      · exact absurd h hw
      · exact h
    · intro h
      by_cases hj : j = k
      · by_cases hw : (s.segs.get k).waits.access src = none
        · exact .inl (.inr hw)
        · exact .inr (h src ⟨hj, rfl⟩ hw)
      · exact .inl (.inl hj)

/-- An event that leaves a calm segment unit raises its notices on top of it. -/
theorem State.afterEvent_calmRaises (s : State) (k : Seg) {g : Segment} (ns : List Notice) (h : g.calm) :
    s.afterEvent k g ns = ((s.takeSeg k g).raiseAll ns).settle := by
  unfold State.afterEvent State.onSeg
  rw [Work.finish_calm h]
  rfl

/-- LINE_LOST ends a poll entry with its status write once no answer is owed (R75, R77). -/
theorem Segment.lostDue_entry {g : Segment} {e : EntryUnit} (hx : g.xact = .lostAnswer) (hp : g.resp.pend = none)
    (hu : g.unit = .entry e) :
    g.lostDue = { g with
      xact := .idle, unit := .entry { e with step := .status, outcome := some .lineLost },
      cycle := { g.cycle with pause := if e.pauseAfter = 0 ∨ g.state = .stopping then .none else g.cycle.pause },
      waits := { g.waits with unit := some (.write .statusWrite (e.recAddr + 16)
        (Status.bytes { e.st with state := healthOf e.cfg.threshold e.st.miss e.st.heard } 6)) } } := by
  unfold Segment.lostDue
  rw [if_pos ⟨hx, hp⟩, Segment.finishUnit_entry hu]
  exact Segment.decideEntry_status g e g.cycle.pause (by simp)

theorem Segment.lostDue_request {g : Segment} {r : ReqUnit} (hx : g.xact = .lostAnswer) (hp : g.resp.pend = none)
    (hu : g.unit = .request r) : g.lostDue = g.decideReq r .lineLost := by
  unfold Segment.lostDue
  rw [if_pos ⟨hx, hp⟩, Segment.finishUnit_request hu]

/-- A lost unit waits for an owed answer. -/
theorem Segment.lostDue_waits {g : Segment} (h : g.xact ≠ .lostAnswer ∨ g.resp.pend ≠ none) : g.lostDue = g := by
  unfold Segment.lostDue
  refine if_neg fun c => ?_
  rcases h with h | h
  · exact h c.1
  · exact h c.2

/-- Completing a request leaves it in service, and moves no transaction. -/
theorem Segment.tryComplete_unit (g : Segment) (r : ReqUnit) :
    (g.tryComplete r).xact = g.xact ∧ ∃ q, (g.tryComplete r).unit = .request q := by
  unfold Segment.tryComplete
  repeat' split
  all_goals exact ⟨rfl, _, rfl⟩

theorem Segment.decideReq_unit (g : Segment) (r : ReqUnit) (o : Ending) :
    (g.decideReq r o).xact = .idle ∧ ∃ q, (g.decideReq r o).unit = .request q := by
  obtain ⟨hx, hu⟩ := Segment.tryComplete_unit
    { g with xact := .idle, req := if o.breaks then g.req.breakGroup else g.req } { r with outcome := some o }
  exact ⟨hx, hu⟩

/-- Settles O55: the calm segment unit, the requests it withdraws, the end of STOPPING, and the lost unit. -/
theorem nothingDueStaysAsGiven : Obligations.NothingDueStaysAsGiven := by
  refine ⟨fun s k g ns hc => ⟨State.afterEvent_calmRaises s k ns hc, fun hns hs hr => ?_⟩,
    fun s k g => ⟨State.takeSeg_keeps, fun r => State.mem_takeSeg_waited, fun ns r => State.afterEvent_waited⟩,
    fun s k g ns h1 h2 h3 h4 h5 h6 h7 h8 h9 h10 => ?_, fun s k g t ns h1 h2 hf hx hu ht => ?_⟩
  · subst hns
    exact State.afterEvent_calm hs hc (congrArg not hr)
  · have hd : (s.workWith k g ns).seg.stopDone := ⟨h1, h2, h3, h4, h6, h7, h8, h9, h10⟩
    have hfin : (s.workWith k g ns).finish = (s.workWith k g ns).stopCheck := Work.finish_stopping h1 h2 h5 h6
    rw [State.afterEvent_seg, hfin]
    refine ⟨fun htx hb => ?_, fun hw => ?_⟩
    · rw [Work.stopCheck_ends ((Work.stopReady_iff hd).mpr ⟨htx, fun ⟨b, src, hbus, hreq⟩ => hb b src hbus hreq⟩)]
      rfl
    · rw [Work.stopCheck_waits]
      · rfl
      · rw [Work.stopReady_iff hd]
        rintro ⟨htx, hb⟩
        rcases hw with hw | hw
        · exact hw htx
        · exact hb hw
  · have hl : (s.workWith k g ns).seg.live = true := Segment.live_of h1 h2 hf
    rw [State.afterEvent_seg] at ht
    subst ht
    refine ⟨fun p hp => ?_, fun e hp he => ?_, fun r hp hr => ?_⟩
    · have hd : g.lostDue = g := Segment.lostDue_waits (.inr (by simp [hp]))
      obtain ⟨e1, e2, e3, -⟩ := Work.finish_unit (w := s.workWith k g ns) hl
        (by rw [State.workWith_seg, hd]; exact hu) (by rw [State.workWith_seg, hd, hx]; simp)
      rw [State.workWith_seg, hd] at e1 e2 e3
      exact ⟨e1, e2.trans hx, e3⟩
    · have hd := Segment.lostDue_entry hx hp he
      obtain ⟨e1, e2, e3, e4⟩ := Work.finish_unit (w := s.workWith k g ns) hl
        (by rw [State.workWith_seg, hd]; simp) (by rw [State.workWith_seg, hd]; simp)
      rw [State.workWith_seg, hd] at e1 e2 e3 e4
      exact ⟨e1, e2, congrArg Cycle.pause e4, e3⟩
    · have hd := Segment.lostDue_request hx hp hr
      obtain ⟨hdx, q, hdu⟩ := g.decideReq_unit r .lineLost
      obtain ⟨e1, e2, e3, -⟩ := Work.finish_unit (w := s.workWith k g ns) hl
        (by rw [State.workWith_seg, hd, hdu]; simp) (by rw [State.workWith_seg, hd, hdx]; simp)
      rw [State.workWith_seg, hd] at e1 e2 e3
      exact ⟨e1, e2.trans hdx, e3⟩

end Sys2Proof.Machine

/-! The begin of a start, the cancelled start, and a RUN write of 0 to a FAULTED segment (R25, R26, R41, R159). -/

namespace Sys2Proof.Machine

theorem Segment.atRest_of {g : Segment} (hs : g.state = .stopped) (hst : g.starting = false) : g.atRest = true :=
  (Segment.atRest_iff g).mpr ⟨hs, hst⟩

/-- The segment unit once a start with block pointer p has begun: its block is to be read (R25). -/
def Segment.startBegun (g : Segment) : Segment :=
  { g with starting := true, waits := { g.waits with control := some ⟨.segBlock, g.blockPtr, 128, []⟩ } }

theorem Work.beginStart_reads {w : Work} (hp : w.seg.blockPtr ≠ 0) : w.beginStart = w.on Segment.startBegun := if_neg hp

/-- A start with block pointer 0 is a fault at once, with its notice (R26, R177). -/
theorem Work.beginStart_zero {w : Work} (hp : w.seg.blockPtr = 0) (hst : w.seg.starting = false) :
    w.beginStart = Work.raise { w with seg := { w.seg with state := .faulted, fault := .badBlock } }
      .segmentFault 0 0 1 0 := by
  unfold Work.beginStart
  rw [if_pos hp]
  unfold Work.startFault Work.on
  rw [← hst]
  rfl

/-- Settles O13: the start that reads its block leaves nothing else due, the one that faults raises its notice. -/
theorem runSetStartsSegment : Obligations.RunSetStartsSegment := by
  refine ⟨fun s k hset ⟨hr, hd, hf⟩ hs hst hp => ?_, fun s k ⟨hr, hd, hf⟩ hs hst hp => ?_⟩
  · have hv : (Work.beginStart (s.work k)).finish = (s.work k).on Segment.startBegun := by
      rw [Work.beginStart_reads hp, Work.finish_off (.inl hs) hf]
    have hw : s.takeSeg k (s.segs.get k).startBegun = s.putSeg k (s.segs.get k).startBegun :=
      State.takeSeg_keeps fun src h => by cases src <;> first | exact h | exact Option.some_ne_none _
    rw [exec_runSet_taken ((State.takesRun_iff s).mpr ⟨hr, hd⟩) (Segment.atRest_of hs hst), State.onSeg_silent hv rfl]
    exact congrArg Host.Outcome.next ((congrArg State.settle hw).trans (State.settle_eq_of_settled hset hr hd rfl rfl rfl rfl))
  · have hv : (Work.beginStart (s.work k)).finish = (s.work k).beginStart := by
      rw [Work.beginStart_zero hp hst]
      exact Work.finish_off (.inr rfl) hf
    have hw : s.takeSeg k { s.segs.get k with state := .faulted, fault := .badBlock }
        = s.putSeg k { s.segs.get k with state := .faulted, fault := .badBlock } := State.takeSeg_keeps fun _ h => h
    rw [exec_runSet_taken ((State.takesRun_iff s).mpr ⟨hr, hd⟩) (Segment.atRest_of hs hst)]
    unfold State.onSeg
    rw [hv, Work.beginStart_zero hp hst, ← hw]
    rfl

/-! ## A start cancelled -/

/-- The segment unit once its start is cancelled (R25). -/
def Segment.startCancelled (g : Segment) : Segment :=
  { g with starting := false, waits := { g.waits with control := none } }

/-- What cancelling a start discards: a segment block read of its own on the bus, whatever its source (R159). -/
theorem Work.cancelStart_drop (w : Work) : ∃ d, w.cancelStart = { w with drop := d, seg := w.seg.startCancelled }
    ∧ ((∃ b src, w.bus = some b ∧ b.req = .segment w.k src ∧ b.acc.op = .segBlock) → d = true)
    ∧ ((∀ b src, w.bus = some b → b.req = .segment w.k src → b.acc.op ≠ .segBlock) → d = w.drop)
    ∧ (d = true → w.drop = true ∨ ∃ b src, w.bus = some b ∧ b.req = .segment w.k src) := by
  unfold Work.cancelStart
  by_cases h : ∃ b src, w.bus = some b ∧ b.req = .segment w.k src ∧ b.acc.op = .segBlock
  · obtain ⟨b, src, hb, hreq, hop⟩ := h
    have hs : w.busSource.isSome = true := Work.busSource_isSome.mpr ⟨b, src, hb, hreq⟩
    have hd : w.discard (fun op => op == .segBlock) = { w with drop := true } := by
      unfold Work.discard
      rw [hb]
      exact if_pos ⟨hs, by simp [hop]⟩
    rw [hd]
    exact ⟨true, rfl, fun _ => rfl, fun c => absurd hop (c b src hb hreq), fun _ => .inr ⟨b, src, hb, hreq⟩⟩
  · have hd : w.discard (fun op => op == .segBlock) = w := by
      unfold Work.discard
      cases hb : w.bus with
      | none => rfl
      | some b =>
        refine if_neg fun ⟨hs, hop⟩ => ?_
        obtain ⟨b', src, hb', hreq⟩ := Work.busSource_isSome.mp hs
        obtain rfl : b = b' := Option.some.inj (hb.symm.trans hb')
        exact h ⟨b, src, hb, hreq, by simpa using hop⟩
    rw [hd]
    exact ⟨w.drop, rfl, fun c => absurd c h, fun _ => rfl, fun c => .inl c⟩

/-! ## A FAULTED segment -/

/-- The segment unit at its entry to STOPPED, the values of the run kept (R38, R41). -/
def Segment.stoppedNow (g : Segment) : Segment :=
  { g with
    state := .stopped, line := .reset, waits := .empty, stopWrite := false, stopOwed := false, faultOwed := none,
    faultHeld := none, prWait := [], prBus := [], prFault := false, prEnded := none, cycle := g.idled.cycle,
    req := g.req.afterStop, unit := .none, xact := .idle, resp := g.idled.resp, supply := g.idled.supply }

theorem Work.enterStopped_eq (w : Work) : w.enterStopped = { w with seg := w.seg.stoppedNow, segStop := true } := by
  unfold Work.enterStopped Work.on
  simp only [Segment.workOff_eq]
  rfl

/-- What a stopped segment unit keeps of its run, and what is gone (R38, R41). -/
theorem Segment.stoppedNow_keeps (g : Segment) :
    g.stoppedNow.state = .stopped ∧ g.stoppedNow.starting = g.starting ∧ g.stoppedNow.line = Line.reset
      ∧ g.stoppedNow.waits = ⟨none, none, none, none, none⟩ ∧ g.stoppedNow.run = g.run
      ∧ g.stoppedNow.counters = g.counters ∧ g.stoppedNow.fault = g.fault
      ∧ g.stoppedNow.cycle.number = g.cycle.number ∧ g.stoppedNow.cap = g.cap
      ∧ g.stoppedNow.resp.next = g.resp.next ∧ g.stoppedNow.req.anchor = g.req.anchor
      ∧ g.stoppedNow.supply.level = g.supply.level ∧ g.stoppedNow.faultOwed = none ∧ g.stoppedNow.stopOwed = false :=
  ⟨rfl, rfl, rfl, rfl, rfl, rfl, rfl, rfl, rfl, rfl, rfl, rfl, rfl, rfl⟩

theorem Work.enterStopped_finish (w : Work) : w.enterStopped.finish = w.enterStopped := by
  rw [Work.enterStopped_eq]
  exact Work.finish_off (.inl rfl) rfl

/-- A RUN write of 0 to a FAULTED segment whose record write has ended (R41). -/
theorem Work.runClear_faulted {w : Work} (hs : w.seg.state = .faulted) (hc : w.seg.waits.control = none)
    (ho : w.seg.faultOwed = none) : w.runClear = w.enterStopped := by
  unfold Work.runClear
  rw [hs]
  refine if_neg ?_
  unfold Work.progressPending
  simp [hc, ho]

/-- The move to STOPPED waits for the record write (R41). -/
theorem Work.runClear_faultedWaits {w : Work} (hs : w.seg.state = .faulted)
    (h : w.seg.waits.control ≠ none ∨ w.seg.faultOwed ≠ none) :
    w.runClear = { w with seg := { w.seg with stopOwed := true } } := by
  unfold Work.runClear
  rw [hs]
  refine if_pos ?_
  unfold Work.progressPending
  rw [Bool.or_eq_true, Option.isSome_iff_ne_none, Option.isSome_iff_ne_none]
  exact h

/-- A RUN write of 0 that raises nothing, in a settled block in READY outside a drain: nothing else is due after it. -/
theorem exec_runClear_silent {s : State} {k : Seg} {v : Work} (hset : s.settled) (hr : s.dev.state = .ready)
    (hd : s.dev.disabling = false) (ht : (s.segs.get k).takesRunClear = true) (hv : (s.work k).runClear.finish = v)
    (hn : v.notices = []) (hbus : v.drop = true → ∃ b j src, s.port.busy = some b ∧ b.req = .segment j src) :
    exec (.runClear k) s = .next { s with
      segs := s.segs.put k v.seg,
      port := { s.port with busy := s.busAfter v.drop, waited := s.waitedAfter k v.seg },
      draws := if v.drew then s.draws + 1 else s.draws,
      attention := if v.segStop then s.attention ||| BitVec.ofNat 8 (2 ^ (4 + k.toNat)) else s.attention } := by
  rw [exec_runClear_taken ((State.takesRun_iff s).mpr ⟨hr, hd⟩) ht, State.onSeg_silent hv hn]
  refine congrArg Host.Outcome.next (State.settle_eq_of_settled hset hr hd rfl rfl rfl ?_)
  exact State.noticeOnBus_busAfter hbus rfl

/-- Settles O16: the cancelled start, the move to STOPPED at once, and the move that waits. -/
theorem runClearOfStartOrFault : Obligations.RunClearOfStartOrFault := by
  refine ⟨fun s k hset ⟨hr, hd, hf⟩ hs hst => ?_, fun s k hset ⟨hr, hd, hf⟩ hs hc ho => ?_,
    fun s k g ⟨hr, hd, hf⟩ hg hs h => ?_⟩
  · obtain ⟨d, hcan, hyes, hno, hbus⟩ := (s.work k).cancelStart_drop
    have hrun : (s.work k).runClear = (s.work k).cancelStart := by
      unfold Work.runClear
      rw [show (s.work k).seg.state = .stopped from hs]
    have hv : (s.work k).runClear.finish = { s.work k with drop := d, seg := (s.segs.get k).startCancelled } := by
      rw [hrun, hcan]
      exact Work.finish_off (.inl hs) hf
    refine ⟨_, exec_runClear_silent hset hr hd (by simp [Segment.takesRunClear, hs, hst]) hv rfl fun c => ?_,
      Four.get_put_same _ _ _, fun b src hb hreq hop => ?_, fun h => ?_, rfl, rfl⟩
    · obtain ⟨b, src, hb, hreq⟩ := (hbus c).resolve_left (by simp [State.work])
      exact ⟨b, k, src, hb, hreq⟩
    · have hd1 : d = true := hyes ⟨b, src, hb, hreq, hop⟩
      subst hd1
      show s.port.busy.map Busy.discarded = _
      rw [hb]; rfl
    · have hd0 : d = false := hno h
      subst hd0
      rfl
  · have hv : (s.work k).runClear.finish = { s.work k with seg := (s.segs.get k).stoppedNow, segStop := true } := by
      rw [Work.runClear_faulted hs hc ho, Work.enterStopped_finish]
      exact Work.enterStopped_eq _
    obtain ⟨h1, -, -, h2, h3, h4, h5, h6, h7, -, h8, -⟩ := (s.segs.get k).stoppedNow_keeps
    refine ⟨_, exec_runClear_silent hset hr hd (by simp [Segment.takesRunClear, hs]) hv rfl (fun c => by cases c), ?_⟩
    dsimp only
    rw [Four.get_put_same]
    exact ⟨h1, h5, h3, h4, h6, h7, h8, h2, rfl, rfl⟩
  · subst hg
    rw [exec_runClear_taken ((State.takesRun_iff s).mpr ⟨hr, hd⟩) (by simp [Segment.takesRunClear, hs])]
    unfold State.afterEvent State.onSeg
    rw [Work.runClear_faultedWaits hs h]
    rfl

end Sys2Proof.Machine

/-! SUPPORT. The entry to STOPPING, step by step (R36, R37): what it leaves of the segment unit whatever the unit in service,
and what the stop and the epilogue after it leave of that unit. -/

namespace Sys2Proof.Machine

/-! ## Settling -/

/-- Settling moves only the device's state, the notice writer and what they have at the port. -/
theorem State.settle_frame (s : State) :
    s.settle.pending = s.pending ∧ s.settle.block = s.block ∧ s.settle.mask = s.mask ∧ s.settle.attention = s.attention
      ∧ s.settle.port.busy = s.port.busy := by
  unfold State.settle State.disableDue State.noticeDue
  repeat' split
  all_goals exact ⟨rfl, rfl, rfl, rfl, rfl⟩

/-- In READY settling leaves the device as it is. -/
theorem State.settle_dev {s : State} (h : s.dev.state = .ready) : s.settle.dev = s.dev := by
  rw [State.settle_ready h]
  unfold State.noticeDue
  repeat' split
  all_goals rfl

/-! ## An answer given up -/

/-- Giving up an answer that has not begun leaves the frame on the line and what is counted there; no answer is then pending
but one that has begun. -/
theorem Segment.abandonAnswer_frame (g : Segment) : ∃ l r, g.abandonAnswer = { g with line := l, resp := r }
    ∧ l.tx = g.line.tx ∧ l.framing = g.line.framing ∧ r.pend = g.resp.pend.filter (·.begun) := by
  have hrel : ∀ b, (g.line.release b).tx = g.line.tx ∧ (g.line.release b).framing = g.line.framing := by
    intro b; cases b <;> exact ⟨rfl, rfl⟩
  unfold Segment.abandonAnswer
  cases hp : g.resp.pend with
  | none => exact ⟨_, _, rfl, rfl, rfl, hp⟩
  | some p =>
    cases hb : p.begun with
    | true => exact ⟨_, _, if_pos hb, rfl, rfl, by simp [hp, Option.filter, hb]⟩
    | false =>
      have hf : (some p).filter (·.begun) = none := by simp [Option.filter, hb]
      dsimp only
      rw [hb, hf, if_neg Bool.false_ne_true]
      unfold Segment.answerOver
      simp only [hp]
      repeat' split
      all_goals first
        | exact ⟨_, _, rfl, rfl, rfl, rfl⟩
        | exact ⟨_, _, rfl, (hrel _).1, (hrel _).2, rfl⟩

/-! ## The entry to STOPPING, the unit in service apart -/

/-- The segment unit once it enters STOPPING, l and r being the line and the responder once an answer not begun is given up,
and p the supply monitor once the sweep has ended (R36). -/
def Segment.stopEntered (g : Segment) (l : Line) (r : Responder) (p : Supply) : Segment :=
  { g with
    state := .stopping, line := l, resp := r, supply := p,
    waits := { g.waits with
      control := some g.progressWait, unit := withdrawIf Op.stopDrops g.waits.unit, chain := none },
    cycle := { g.cycle with timer := .stopped, held := false, pause := .none },
    req := { g.req with scanTimer := .stopped, chain := .idle, more := false } }

theorem Segment.beginStop_eq (g : Segment) : ∃ l r, g.beginStop = g.stopEntered l r g.supply
    ∧ l.tx = g.line.tx ∧ l.framing = 0 ∧ r.pend = g.resp.pend.filter (·.begun) := by
  obtain ⟨l, r, ha, ht, hf, hp⟩ := Segment.abandonAnswer_frame
    ({ g with state := .stopping, line := { g.line with framing := 0 } }.reqProgress [])
  refine ⟨l, r, ?_, ht, hf, hp⟩
  refine (congrArg (fun s : Segment => ({ s with
    waits := { s.waits with unit := withdrawIf Op.stopDrops s.waits.unit, chain := none },
    cycle := { s.cycle with timer := .stopped, held := false, pause := .none },
    req := { s.req with scanTimer := .stopped, chain := .idle, more := false } } : Segment)) ha).trans ?_
  unfold Segment.reqProgress
  simp only [List.append_nil]
  rfl

/-- A sample moves the level and automatic conserve, and raises at most one notice. -/
theorem Work.sampleAt_frame (w : Work) (mv : Nat) :
    ∃ p ns, w.sampleAt mv = { w with seg := { w.seg with supply := p }, notices := w.notices ++ ns }
      ∧ p.sweep = w.seg.supply.sweep ∧ ns.length ≤ 1 := by
  have ha : ∀ (v : Supply) (l : Level), (v.autoStep l).sweep = v.sweep := by
    intro v l
    unfold Supply.autoStep
    repeat' split
    all_goals rfl
  unfold Work.sampleAt Work.sample
  dsimp only
  split
  · exact ⟨_, _, rfl, ha _ _, le_rfl⟩
  · refine ⟨{ w.seg.supply.autoStep (levelOf (w.seg.supply.read mv)) with level := levelOf (w.seg.supply.read mv) }, [], ?_,
      ha _ _, Nat.zero_le _⟩
    rw [List.append_nil]
    rfl

/-- The end of a sweep at a stop: at most one notice is raised, by a sample that the sweep has deferred (R150). -/
theorem Work.sweepStop_frame (w : Work) : ∃ p ns d,
    w.sweepStop = { w with seg := { w.seg with supply := p }, notices := w.notices ++ ns, drew := d }
      ∧ p.sweep = .idle ∧ ns.length ≤ 1 ∧ (w.seg.supply.deferred = false → ns = []) := by
  unfold Work.sweepStop
  cases hs : w.seg.supply.sweep with
  | idle => exact ⟨_, [], w.drew, by rw [List.append_nil], hs, Nat.zero_le _, fun _ => rfl⟩
  | sweeping n o =>
    dsimp only
    unfold Work.deferredSample
    cases hd : w.seg.supply.deferred with
    | false =>
      rw [if_neg (by simp [hd])]
      exact ⟨_, [], _, by rw [List.append_nil]; rfl, rfl, Nat.zero_le _, fun _ => rfl⟩
    | true =>
      obtain ⟨p, ns, hsample, hsweep, hn⟩ := Work.sampleAt_frame
        ((w.on Segment.sweepOff).on fun s => { s with supply := { s.supply with deferred := false } }) w.free
      rw [if_pos (by simp [hd]), hsample]
      exact ⟨p, ns, _, rfl, hsweep, hn, fun c => by cases c⟩

/-- The working copy at the entry to STOPPING before the unit in service is stopped. -/
theorem Work.enterStopping_eq (w : Work) : ∃ l r p ns dr d,
    w.enterStopping = Work.on { w with
      seg := w.seg.stopEntered l r p, notices := w.notices ++ ns, drop := d, drew := dr } Segment.stopUnit
      ∧ l.tx = w.seg.line.tx ∧ l.framing = 0 ∧ r.pend = w.seg.resp.pend.filter (·.begun) ∧ p.sweep = .idle
      ∧ ns.length ≤ 1 ∧ (w.seg.supply.deferred = false → ns = []) := by
  obtain ⟨d, hd⟩ := w.discard_eq Op.stopDrops
  obtain ⟨l, r, hb, ht, hf, hp⟩ := w.seg.beginStop_eq
  have hw : (w.discard Op.stopDrops).on Segment.beginStop
      = { w with drop := d, seg := w.seg.stopEntered l r w.seg.supply } := by
    rw [hd]
    unfold Work.on
    dsimp only
    rw [hb]
  obtain ⟨p, ns, dr, hs, hsw, hn, hdef⟩ := Work.sweepStop_frame { w with drop := d, seg := w.seg.stopEntered l r w.seg.supply }
  refine ⟨l, r, p, ns, dr, d, ?_, ht, hf, hp, hsw, hn, hdef⟩
  unfold Work.enterStopping
  rw [hw, hs]
  rfl

/-! ## What the unit in service does not move -/

/-- The values of a segment unit, its controller's and those of Segment.side apart, that the end of a unit leaves alone. -/
def Segment.besideUnit (s : Segment) : Timer × Bool × Word × Timer × Chain × Option Access × Option Access :=
  (s.cycle.timer, s.cycle.held, s.cycle.number, s.req.scanTimer, s.req.chain, s.waits.chain, s.waits.control)

theorem Segment.decideEntry_besideUnit (s : Segment) (e : EntryUnit) (o : Ending) (p : Pause) :
    (s.decideEntry e o p).besideUnit = s.besideUnit := by
  unfold Segment.decideEntry; dsimp only; split <;> rfl

theorem Segment.tryComplete_besideUnit (s : Segment) (r : ReqUnit) : (s.tryComplete r).besideUnit = s.besideUnit := by
  unfold Segment.tryComplete
  repeat' split
  all_goals rfl

theorem Segment.decideReq_besideUnit (s : Segment) (r : ReqUnit) (o : Ending) :
    (s.decideReq r o).besideUnit = s.besideUnit := by
  unfold Segment.decideReq
  rw [Segment.tryComplete_besideUnit, ReqEngine.breakGroup_if]
  rfl

theorem Segment.lostDue_besideUnit (s : Segment) : s.lostDue.besideUnit = s.besideUnit := by
  unfold Segment.lostDue Segment.finishUnit
  split
  · split
    · exact Segment.decideEntry_besideUnit _ _ _ _
    · exact Segment.decideReq_besideUnit _ _ _
    · rfl
  · rfl

theorem Segment.stopUnit_besideUnit (s : Segment) : s.stopUnit.besideUnit = s.besideUnit := by
  unfold Segment.stopUnit Segment.stopEntry Segment.stopReq
  dsimp only
  repeat' split
  all_goals first
    | rfl
    | exact Segment.decideEntry_besideUnit _ _ _ _
    | exact Segment.tryComplete_besideUnit _ _

theorem Segment.stopUnit_side (s : Segment) : s.stopUnit.side = s.side := by
  unfold Segment.stopUnit Segment.stopEntry Segment.stopReq
  dsimp only
  repeat' split
  all_goals first
    | rfl
    | exact Segment.decideEntry_side _ _ _ _
    | exact Segment.tryComplete_side _ _

/-! ## The epilogue after a stop -/

/-- What the epilogue leaves of a segment in STOPPING: the unit in service and its access as the end of a lost unit leaves
them, and of the rest all but the responder and the record write that ends the stop. -/
structure Segment.stopsAs (d u : Segment) : Prop where
  ctl : u.ctl = d.ctl
  line : u.line = d.line
  cycle : u.cycle = d.cycle
  req : u.req = d.req
  unit : u.unit = d.unit
  xact : u.xact = d.xact
  waitsUnit : u.waits.unit = d.waits.unit
  chain : u.waits.chain = d.waits.chain
  control : d.waits.control = some d.progressWait → u.waits.control = some d.progressWait
  sweep : u.supply.sweep = d.supply.sweep
  pend : ∃ rd, u.resp.pend = d.resp.pend.map fun p => { p with read := rd }

theorem Work.finish_stopsAs {w : Work} (hs : w.seg.state = .stopping) (hf : w.seg.faultHeld = none) :
    w.seg.lostDue.stopsAs w.finish.seg := by
  have hl : w.seg.live = true := Segment.live_of (by simp [hs]) (by simp [hs]) hf
  obtain ⟨r, n, u, rd, hfin, hp⟩ := Work.finish_unlocked hl (by simp [hs])
  have hside := w.seg.lostDue_side
  simp only [Segment.side, Prod.mk.injEq] at hside
  rw [← hside.1] at hp
  rw [hfin]
  generalize w.seg.lostDue = d at hp
  unfold Work.stopCheck
  split
  · exact ⟨rfl, rfl, rfl, rfl, rfl, rfl, rfl, rfl, fun _ => rfl, rfl, rd, hp⟩
  · exact ⟨rfl, rfl, rfl, rfl, rfl, rfl, rfl, rfl, fun h => h, rfl, rd, hp⟩

/-- What every stop of a running segment leaves, whatever its unit in service (R36, R130). -/
structure Segment.enteredStop (g u : Segment) : Prop where
  state : u.state = .stopping
  timer : u.cycle.timer = .stopped
  held : u.cycle.held = false
  scanTimer : u.req.scanTimer = .stopped
  chain : u.req.chain = .idle
  waitsChain : u.waits.chain = none
  framing : u.line.framing = 0
  tx : u.line.tx = g.line.tx
  control : u.waits.control = some g.progressWait
  sweep : u.supply.sweep = .idle
  pend : ∃ rd, u.resp.pend = (g.resp.pend.filter (·.begun)).map fun p => { p with read := rd }

/-- The segment unit after a stop and its epilogue, given the unit in service as the stop finds it, and what the stop and a
lost unit's end make of it. -/
theorem Work.enterStopping_finish {w : Work} (hf : w.seg.faultHeld = none) : ∃ l r p,
    (w.seg.stopEntered l r p).stopUnit.lostDue.stopsAs w.enterStopping.finish.seg
      ∧ r.pend = w.seg.resp.pend.filter (·.begun) ∧ w.seg.enteredStop w.enterStopping.finish.seg := by
  obtain ⟨l, r, p, ns, dr, d, he, ht, hfr, hp, hsw, -, -⟩ := w.enterStopping_eq
  have hctl := (w.seg.stopEntered l r p).stopUnit_ctl
  have hctl' := (w.seg.stopEntered l r p).stopUnit.lostDue_ctl
  have hside := ((w.seg.stopEntered l r p).stopUnit.lostDue_side).trans (w.seg.stopEntered l r p).stopUnit_side
  have hbes := ((w.seg.stopEntered l r p).stopUnit.lostDue_besideUnit).trans (w.seg.stopEntered l r p).stopUnit_besideUnit
  have hs : w.enterStopping.seg = (w.seg.stopEntered l r p).stopUnit := by rw [he]; rfl
  have hstop : (w.seg.stopEntered l r p).stopUnit.lostDue.stopsAs w.enterStopping.finish.seg := by
    rw [← hs]
    refine Work.finish_stopsAs ?_ ?_
    · rw [hs]; exact congrArg Prod.fst hctl
    · rw [hs]; exact (congrArg (fun x => x.2.2.1) hctl).trans hf
  refine ⟨l, r, p, hstop, hp, ?_⟩
  replace hctl' := hctl'.trans hctl
  generalize (w.seg.stopEntered l r p).stopUnit.lostDue = v at hstop hctl' hside hbes
  obtain ⟨h1, h2, h3, h4, -, -, -, h5, h6, h7, rd, h8⟩ := hstop
  simp only [Segment.ctl, Prod.mk.injEq] at h1 hctl'
  simp only [Segment.side, Prod.mk.injEq] at hside
  simp only [Segment.besideUnit, Prod.mk.injEq] at hbes
  obtain ⟨a1, -, -, -, a5, -⟩ := hctl'
  obtain ⟨b1, b2, -, -, -, b6, -⟩ := hside
  obtain ⟨c1, c2, -, c4, c5, c6, c7⟩ := hbes
  have hw : v.progressWait = w.seg.progressWait := by
    unfold Segment.progressWait Segment.blk
    rw [a5]; rfl
  refine ⟨h1.1.trans a1, by rw [h3, c1]; rfl, by rw [h3, c2]; rfl, by rw [h4, c4]; rfl, by rw [h4, c5]; rfl,
    by rw [h5, c6]; rfl, by rw [h2, b2]; exact hfr, by rw [h2, b2]; exact ht, ?_, by rw [h7, b6]; exact hsw, rd, ?_⟩
  · rw [← hw]
    refine h6 ?_
    rw [c7, hw]; rfl
  · rw [h8, b1, ← hp]; rfl

end Sys2Proof.Machine

/-! The RUN write of 0 to a running segment (R36, R37): what the stop makes of the unit in service, once a lost unit has
ended with it. -/

namespace Sys2Proof.Machine

/-! ## A poll entry at the stop -/

/-- The status write of an entry that counts no attempt (R60). -/
def EntryUnit.uncountedWrite (e : EntryUnit) (code : Byte) : Access :=
  .write .statusWrite (e.recAddr + 16)
    (Status.bytes { e.st with state := healthOf e.cfg.threshold e.st.miss e.st.heard } code)

section entry
variable {g : Segment} {e : EntryUnit} (hu : g.unit = .entry e)

include hu in
/-- A POLL with no frame on the line ends ABORTED. -/
theorem Segment.stopUnit_poll (hs : e.step = .polling)
    (hx : g.xact = .idle ∨ g.xact = .ready ∨ g.xact = .waiting ∨ g.xact = .started) :
    g.stopUnit.lostDue.unit = .entry { e with step := .status, outcome := some .aborted }
      ∧ g.stopUnit.lostDue.xact = .idle ∧ g.stopUnit.lostDue.waits.unit = some (e.uncountedWrite 10) := by
  have h : g.stopUnit = g.decideEntry e .aborted .none := by
    unfold Segment.stopUnit Segment.stopEntry
    rw [hu]
    dsimp only
    rw [hs]
    rcases hx with hx | hx | hx | hx <;> rw [hx]
  rw [h, Segment.decideEntry_noPause g e (by simp), Segment.lostDue_waits (.inl (by simp))]
  exact ⟨rfl, rfl, rfl⟩

include hu in
/-- A POLL on the line ends ABORTED with its frame. -/
theorem Segment.stopUnit_pollDriven (hs : e.step = .polling) (hx : g.xact = .sending ∨ ∃ o, g.xact = .ending o) :
    g.stopUnit.lostDue.unit = .entry e ∧ g.stopUnit.lostDue.xact = .ending .aborted := by
  have h : g.stopUnit = { g with xact := .ending .aborted } := by
    unfold Segment.stopUnit Segment.stopEntry
    rw [hu]
    dsimp only
    rw [hs]
    rcases hx with hx | ⟨o, hx⟩ <;> rw [hx]
  rw [h, Segment.lostDue_waits (.inl (by simp))]
  exact ⟨hu, rfl⟩

include hu in
/-- A lost POLL ends LINE_LOST once no answer is owed. -/
theorem Segment.stopUnit_pollLost (hs : e.step = .polling) (hx : g.xact = .lostReport ∨ g.xact = .lostAnswer)
    (hp : g.resp.pend = none) :
    g.stopUnit.lostDue.unit = .entry { e with step := .status, outcome := some .lineLost }
      ∧ g.stopUnit.lostDue.xact = .idle ∧ g.stopUnit.lostDue.waits.unit = some (e.uncountedWrite 6) := by
  have h : g.stopUnit = { g with xact := .lostAnswer } := by
    unfold Segment.stopUnit Segment.stopEntry
    rw [hu]
    dsimp only
    rw [hs]
    rcases hx with hx | hx <;> rw [hx]
  rw [h, Segment.lostDue_entry (g := { g with xact := .lostAnswer }) rfl hp hu]
  exact ⟨rfl, rfl, rfl⟩

include hu in
/-- Any other entry goes on to its writes. -/
theorem Segment.stopUnit_entryGoesOn (hs : e.step ≠ .polling) (hx : g.xact ≠ .lostAnswer) : g.stopUnit.lostDue = g := by
  have h : g.stopUnit = g := by
    unfold Segment.stopUnit Segment.stopEntry
    rw [hu]
    dsimp only
    cases h : e.step <;> first | rfl | exact absurd h hs
  rw [h, Segment.lostDue_waits (.inl hx)]

end entry

/-! ## A request at the stop -/

/-- No member follows the request of a stopped group (R124). -/
def ReqUnit.asLast (r : ReqUnit) : ReqUnit :=
  { r with last := true, succ := if r.succ.reading then .none else r.succ }

theorem ReqUnit.asLast_reading (r : ReqUnit) : r.asLast.succ.reading = false := by
  unfold ReqUnit.asLast
  dsimp only
  split
  · rfl
  · simpa using ‹¬r.succ.reading = true›

/-- The request is written with the outcome o (R126). -/
def Segment.outcomeDue (u : Segment) (q : ReqUnit) (o : Ending) (cycle : Word) : Prop :=
  u.unit = .request { q with outcome := some o, step := .outcome, doneCycle := cycle } ∧ u.xact = .idle
    ∧ u.waits.unit = some (q.outcomeWrite o q.used cycle)

theorem Segment.decideReq_outcomeDue {g : Segment} {q : ReqUnit} (o : Ending) (hs : q.step = .serve)
    (hr : q.succ.reading = false) (hb : q.buf = none) : (g.decideReq q o).outcomeDue q o g.cycle.number := by
  rw [Segment.decideReq_outcome hs hr hb]
  exact ⟨rfl, rfl, rfl⟩

section request
variable {g : Segment} {r : ReqUnit} (hu : g.unit = .request r)

include hu in
theorem Segment.stopUnit_request : g.stopUnit = g.stopReq r := by unfold Segment.stopUnit; rw [hu]

/-- What a stop makes of a request with no outcome, by its transaction. -/
theorem Segment.stopReq_serve (g : Segment) {r : ReqUnit} (hs : r.step = .serve) (ho : r.outcome = none) :
    g.stopReq r = match g.xact with
      | .sending | .ending _ => { g with unit := .request r.asLast, xact := .ending .aborted }
      | .lostReport | .lostAnswer => { g with unit := .request r.asLast, xact := .lostAnswer }
      | .idle | .ready | .waiting | .started => g.decideReq r.asLast .aborted := by
  cases r
  dsimp only at hs ho
  subst hs ho
  rfl

theorem Segment.stopReq_decided (g : Segment) {r : ReqUnit} {o : Ending} (hs : r.step = .serve) (ho : r.outcome = some o) :
    g.stopReq r = g.tryComplete r.asLast := by
  cases r
  dsimp only at hs ho
  subst hs ho
  rfl

include hu in
/-- A take without its TAKEN write is given up. -/
theorem Segment.stopUnit_take (hs : r.step = .takeRead) : g.stopUnit.lostDue = g.clearUnit := by
  have h : g.stopUnit = g.clearUnit := by
    rw [Segment.stopUnit_request hu]
    unfold Segment.stopReq
    dsimp only
    rw [hs]
  rw [h]
  exact Segment.lostDue_waits (.inl (by simp [Segment.clearUnit]))

include hu in
/-- A request with no outcome and no frame on the line ends ABORTED. -/
theorem Segment.stopUnit_serve (hs : r.step = .serve) (ho : r.outcome = none) (hb : r.buf = none)
    (hx : g.xact = .idle ∨ g.xact = .ready ∨ g.xact = .waiting ∨ g.xact = .started) :
    g.stopUnit.lostDue.outcomeDue r.asLast .aborted g.cycle.number := by
  have h : g.stopUnit = g.decideReq r.asLast .aborted := by
    rw [Segment.stopUnit_request hu, Segment.stopReq_serve g hs ho]
    rcases hx with hx | hx | hx | hx <;> rw [hx]
  have hd := Segment.decideReq_outcomeDue (g := g) (q := r.asLast) .aborted hs r.asLast_reading hb
  rw [h, Segment.lostDue_waits (.inl (by simp [hd.2.1]))]
  exact hd

include hu in
/-- A request whose frame is on the line ends ABORTED with it. -/
theorem Segment.stopUnit_serveDriven (hs : r.step = .serve) (ho : r.outcome = none)
    (hx : g.xact = .sending ∨ ∃ o, g.xact = .ending o) :
    g.stopUnit.lostDue.unit = .request r.asLast ∧ g.stopUnit.lostDue.xact = .ending .aborted := by
  have h : g.stopUnit = { g with unit := .request r.asLast, xact := .ending .aborted } := by
    rw [Segment.stopUnit_request hu, Segment.stopReq_serve g hs ho]
    rcases hx with hx | ⟨o, hx⟩ <;> rw [hx]
  rw [h, Segment.lostDue_waits (.inl (by simp))]
  exact ⟨rfl, rfl⟩

include hu in
/-- A lost request ends LINE_LOST once no answer is owed. -/
theorem Segment.stopUnit_serveLost (hs : r.step = .serve) (ho : r.outcome = none) (hb : r.buf = none)
    (hx : g.xact = .lostReport ∨ g.xact = .lostAnswer) (hp : g.resp.pend = none) :
    g.stopUnit.lostDue.outcomeDue r.asLast .lineLost g.cycle.number := by
  have h : g.stopUnit = { g with unit := .request r.asLast, xact := .lostAnswer } := by
    rw [Segment.stopUnit_request hu, Segment.stopReq_serve g hs ho]
    rcases hx with hx | hx <;> rw [hx]
  rw [h, Segment.lostDue_request (g := { g with unit := .request r.asLast, xact := .lostAnswer }) rfl hp rfl]
  exact Segment.decideReq_outcomeDue (q := r.asLast) .lineLost hs r.asLast_reading hb

include hu in
/-- A request with an outcome is written with it. -/
theorem Segment.stopUnit_decided {o : Ending} (hs : r.step = .serve) (ho : r.outcome = some o) (hb : r.buf = none)
    (hx : g.xact = .idle) : g.stopUnit.lostDue.outcomeDue r.asLast o g.cycle.number := by
  have h : g.stopUnit = g.tryComplete r.asLast := (Segment.stopUnit_request hu).trans (g.stopReq_decided hs ho)
  rw [h, Segment.tryComplete_outcome g (r := r.asLast) hs r.asLast_reading hb ho, Segment.lostDue_waits (.inl (by simp [hx]))]
  refine ⟨?_, hx, rfl⟩
  show WorkUnit.request _ = _
  rw [← ho]; rfl

include hu in
/-- A request past its outcome, or before it is served, goes on as the last of its group. -/
theorem Segment.stopUnit_requestGoesOn (hs : r.step = .taken ∨ r.step = .linkSeen ∨ r.step = .clear ∨ r.step = .outcome
    ∨ r.step = .state) (hx : g.xact ≠ .lostAnswer) : g.stopUnit.lostDue = { g with unit := .request r.asLast } := by
  have h : g.stopUnit = { g with unit := .request r.asLast } := by
    rw [Segment.stopUnit_request hu]
    cases r
    dsimp only at hs
    rcases hs with hs | hs | hs | hs | hs <;> subst hs <;> rfl
  rw [h]
  exact Segment.lostDue_waits (.inl hx)

end request

/-! ## The notices of a stop -/

/-- The epilogue raises nothing. -/
theorem Work.finish_notices (w : Work) : w.finish.notices = w.notices := by
  have hh : w.heldFault.notices = w.notices := by
    unfold Work.heldFault
    repeat' split
    all_goals rfl
  have hr : ∀ u : Work, u.respDue.notices = u.notices := by
    intro u
    obtain ⟨r, n, v, rd, h, -⟩ := u.respDue_frame
    rw [h]
  have hs : ∀ u : Work, u.stopCheck.notices = u.notices := by
    intro u
    unfold Work.stopCheck
    split <;> rfl
  unfold Work.finish
  dsimp only
  generalize w.heldFault = v at hh
  rw [hs]
  split
  · rw [Work.on_notices, hr]
    exact hh
  · exact hh

/-- A stop raises at most one notice, by a sample that a sweep has deferred (R150). -/
theorem Work.enterStopping_notices (w : Work) : ∃ ns, w.enterStopping.notices = w.notices ++ ns ∧ ns.length ≤ 1
    ∧ (w.seg.supply.deferred = false → ns = []) := by
  obtain ⟨l, r, p, ns, dr, d, he, -, -, -, -, hn, hdef⟩ := w.enterStopping_eq
  exact ⟨ns, by rw [he]; rfl, hn, hdef⟩

theorem Work.enterStopping_segStop (w : Work) : w.enterStopping.segStop = w.segStop := by
  obtain ⟨l, r, p, ns, dr, d, he, -⟩ := w.enterStopping_eq
  rw [he]; rfl

/-- A notice that finds room in the queue sets no cause. -/
theorem State.raise_room {s : State} (hl : s.nw.lost = false) (hq : s.nw.queue.length < 8) (n : Notice) :
    s.raise n = { s with nw := { s.nw with queue := s.nw.queue ++ [n] } } := by
  unfold State.raise
  refine if_neg ?_
  rintro (c | c)
  · simp [hl] at c
  · exact absurd c (Nat.not_le.mpr hq)

theorem State.raiseAll_attention {s : State} {ns : List Notice}
    (h : ns = [] ∨ (s.nw.lost = false ∧ s.nw.queue.length < 8 ∧ ns.length ≤ 1)) :
    (s.raiseAll ns).attention = s.attention := by
  rcases h with rfl | ⟨hl, hq, hn⟩
  · rfl
  · cases ns with
    | nil => rfl
    | cons n rest =>
      obtain rfl : rest = [] := List.eq_nil_of_length_eq_zero (by simpa using hn)
      exact (congrArg State.attention (State.raise_room hl hq n) :)

/-! ## The obligation -/

theorem SegState.running.cases {st : SegState} (h : st.running) :
    st ≠ .stopped ∧ st ≠ .stopping ∧ st ≠ .faulted := by
  rcases h with rfl | rfl | rfl | rfl <;> simp

theorem Work.runClear_running {w : Work} (h : w.seg.state.running) : w.runClear = w.enterStopping := by
  unfold Work.runClear
  rcases h with h | h | h | h <;> rw [h]

theorem Segment.takesRunClear_running {g : Segment} (h : g.state.running) (hf : g.faultHeld = none) :
    g.takesRunClear = true := by
  unfold Segment.takesRunClear
  rcases h with h | h | h | h <;> simp [h, hf]

/-- A pending answer that has begun is kept but for a write-back read with it. -/
theorem Segment.enteredStop.answers {g u : Segment} (h : g.enteredStop u) :
    (∀ p, g.resp.pend = some p → p.begun = false → u.resp.pend = none)
      ∧ ∀ p, g.resp.pend = some p → p.begun = true → ∃ q, u.resp.pend = some q ∧ q.begun = true ∧ q.ans = p.ans := by
  obtain ⟨rd, hpend⟩ := h.pend
  refine ⟨fun p hp hb => ?_, fun p hp hb => ⟨{ p with read := rd }, ?_, hb, rfl⟩⟩
  · simpa [hp, Option.filter, hb] using hpend
  · simpa [hp, Option.filter, hb] using hpend

theorem withdrawIf_keeps {p : Op → Bool} {x : Option Access} {a : Access} (h : x = some a) (hp : p a.op = false) :
    withdrawIf p x = some a := by
  subst h
  exact if_neg (by simp [hp])

/-- Settles O15: the entry to STOPPING, its notices, and the unit in service case by case. -/
theorem runClearEntersStopping : Obligations.RunClearEntersStopping := by
  rintro s k g ⟨hr, hd, hf⟩ rfl hrun
  have hex := exec_runClear_taken (k := k) ((State.takesRun_iff s).mpr ⟨hr, hd⟩) (Segment.takesRunClear_running hrun hf)
  have hrc : (s.work k).runClear = (s.work k).enterStopping := Work.runClear_running hrun
  have hmark : (s.work k).enterStopping.finish.segStop = false := by
    rw [(Work.finish_marks _).2.1, Work.enterStopping_segStop]; rfl
  obtain ⟨ns, hns, hlen, hdef⟩ := (s.work k).enterStopping_notices
  have hfin : ∃ l r p, ((s.segs.get k).stopEntered l r p).stopUnit.lostDue.stopsAs (s.work k).enterStopping.finish.seg
      ∧ r.pend = (s.segs.get k).resp.pend.filter (·.begun)
      ∧ (s.segs.get k).enteredStop (s.work k).enterStopping.finish.seg := Work.enterStopping_finish (w := s.work k) hf
  obtain ⟨l, r, p, hstop, hpend, hent⟩ := hfin
  have hseg : (s.onSeg k Work.runClear).settle.segs.get k = (s.work k).enterStopping.finish.seg := by
    rw [State.settle_segs, State.onSeg_segs, Four.get_put_same, hrc]
  have hatt : (s.segs.get k).supply.deferred = false ∨ (s.nw.lost = false ∧ s.nw.queue.length < 8) →
      (s.onSeg k Work.runClear).settle.attention = s.attention := by
    intro h
    rw [(State.settle_frame _).2.2.2.1]
    unfold State.onSeg State.commit
    rw [hrc, hmark, Work.finish_notices, hns]
    refine State.raiseAll_attention ?_
    rcases h with h | ⟨h1, h2⟩
    · exact .inl (hdef h)
    · exact .inr ⟨h1, h2, hlen⟩
  obtain ⟨hnone, hsome⟩ := hent.answers
  refine ⟨_, _, hex, hseg, hent.state, hent.timer, hent.held, hent.scanTimer, hent.chain, hent.waitsChain, hent.framing,
    hent.tx, hent.control, hent.sweep, hatt, hnone, hsome, ?_⟩
  generalize (s.work k).enterStopping.finish.seg = u at hstop
  obtain ⟨-, -, -, hureq, huunit, huxact, huwait, -⟩ := hstop
  have hresp : (∀ p, (s.segs.get k).resp.pend = some p → p.begun = false) → r.pend = none := by
    intro h
    rw [hpend]
    cases hp : (s.segs.get k).resp.pend with
    | none => rfl
    | some p => simp [Option.filter, h p hp]
  have hkept : ∀ a, (s.segs.get k).waits.unit = some a → a.op.stopDrops = false →
      ((s.segs.get k).stopEntered l r p).waits.unit = some a := fun a ha hd => withdrawIf_keeps ha hd
  rw [huunit, huxact, huwait, hureq]
  let v := (s.segs.get k).stopEntered l r p
  refine ⟨fun e he hs => ⟨Segment.stopUnit_poll (g := v) he hs, Segment.stopUnit_pollDriven (g := v) he hs,
    fun hx hp => Segment.stopUnit_pollLost (g := v) he hs hx (hresp hp)⟩, fun e he hs hx => ?_,
    fun q₀ q written hq₀ hq hwritten => ?_⟩
  · rw [Segment.stopUnit_entryGoesOn (g := v) he hs hx]
    refine ⟨he, fun a ha hop => hkept a ha ?_⟩
    rcases hop with h | h | h | h | h | h <;> rw [h] <;> rfl
  · obtain rfl : q = q₀.asLast := hq
    have hw : ∀ o, written o = ((s.segs.get k).stopEntered l r p).stopUnit.lostDue.outcomeDue q₀.asLast o
        (s.segs.get k).cycle.number := hwritten
    simp only [hw]
    refine ⟨fun hs => ?_, Segment.stopUnit_serve (g := v) hq₀, Segment.stopUnit_serveDriven (g := v) hq₀,
      fun hs ho hb hx hp => Segment.stopUnit_serveLost (g := v) hq₀ hs ho hb hx (hresp hp),
      fun o => Segment.stopUnit_decided (g := v) hq₀, fun hs hx => ?_⟩
    · rw [Segment.stopUnit_take (g := v) hq₀ hs]
      refine ⟨rfl, rfl, fun a ha hop => ?_⟩
      show withdrawIf Op.stopDrops (s.segs.get k).waits.unit = none
      rw [ha]
      exact if_pos (by rw [hop]; rfl)
    · rw [Segment.stopUnit_requestGoesOn (g := v) hq₀ hs hx]
      refine ⟨rfl, fun a ha hop => hkept a ha ?_⟩
      rcases hop with h | h | h | h | h <;> rw [h] <;> rfl

end Sys2Proof.Machine

/-! A device-wide stop (R45): what it does at each segment, to ATTENTION and to the granted access is what a RUN write of 0 to
the segment does. -/

namespace Sys2Proof.Machine

/-! ## SEG_STOP -/

/-- A RUN write of 0 takes the segment to STOPPED at once, with SEG_STOP (R41). -/
def Segment.stopsNow (g : Segment) : Bool := g.state == .faulted && g.waits.control.isNone && g.faultOwed.isNone

theorem Work.runClear_segStop (w : Work) : w.runClear.segStop = (w.segStop || w.seg.stopsNow) := by
  unfold Work.runClear Segment.stopsNow
  cases hs : w.seg.state with
  | settling | acquiring | locked | stalled => exact (Work.enterStopping_segStop w).trans (Bool.or_false _).symm
  | stopping => exact (Bool.or_false _).symm
  | stopped =>
    obtain ⟨d, hd⟩ := w.discard_eq (fun op => op == .segBlock)
    dsimp only
    unfold Work.cancelStart
    rw [hd]
    exact (Bool.or_false _).symm
  | faulted =>
    dsimp only
    unfold Work.faultedToStopped Work.progressPending
    rw [Work.enterStopped_eq]
    cases w.seg.waits.control <;> cases w.seg.faultOwed <;> simp [Work.on]

/-- No notice concerns the SEG_STOP causes. -/
theorem State.raiseAll_segStop (s : State) (ns : List Notice) (k : Seg) :
    (s.raiseAll ns).attention.getLsbD (4 + k.toNat) = s.attention.getLsbD (4 + k.toNat) := by
  induction ns generalizing s with
  | nil => rfl
  | cons n ns ih =>
    refine (ih (s.raise n)).trans ?_
    have hr : (s.raise n).attention = s.attention ∨ (s.raise n).attention = s.attention ||| 2#8 := by
      unfold State.raise State.dropNotice State.requestRecord
      repeat' split
      all_goals first | exact .inl rfl | exact .inr rfl
    rcases hr with hr | hr
    · rw [hr]
    · rw [hr, BitVec.getLsbD_or]
      cases k <;> simp [Seg.toNat]

theorem State.setCause_segStop (s : State) (j k : Seg) :
    (s.setCause (.segStop j)).attention.getLsbD (4 + k.toNat)
      = (s.attention.getLsbD (4 + k.toNat) || decide (j = k)) := by
  rw [State.setCause_attention, BitVec.getLsbD_or]
  cases j <;> cases k <;> simp [Cause.bit, Seg.toNat]

theorem State.stopSeg_attention (s : State) (j k : Seg) :
    (s.stopSeg j).attention.getLsbD (4 + k.toNat)
      = (s.attention.getLsbD (4 + k.toNat) || (decide (j = k) && (s.segs.get j).stopsNow)) := by
  have hm : (s.work j).runClear.finish.segStop = (s.segs.get j).stopsNow := by
    rw [(Work.finish_marks _).2.1, Work.runClear_segStop]; rfl
  unfold State.stopSeg
  split
  · unfold State.onSeg State.commit
    rw [hm]
    cases (s.segs.get j).stopsNow with
    | true =>
      rw [if_pos rfl, State.setCause_segStop, State.raiseAll_segStop, Bool.and_true]
    | false =>
      rw [if_neg Bool.false_ne_true, State.raiseAll_segStop, Bool.and_false, Bool.or_false]
  · rename_i ht
    have hn : (s.segs.get j).stopsNow = false := by
      unfold Segment.takesRunClear at ht
      unfold Segment.stopsNow
      cases h : (s.segs.get j).state <;> simp_all
    rw [hn, Bool.and_false, Bool.or_false]

/-! ## The granted access -/

/-- A RUN write of 0 discards the result of the segment's granted access of this operation (R159). -/
def Segment.stopDiscards (g : Segment) (op : Op) : Bool :=
  match g.state with
  | .stopped => op == .segBlock
  | .settling | .acquiring | .locked | .stalled => op.stopDrops
  | .stopping | .faulted => false

theorem Work.discard_drop (w : Work) (p : Op → Bool) :
    (w.discard p).drop = (w.drop || (busAccess w.k w.bus).any fun x => p x.2.op) := by
  rw [Work.discard_access]
  cases busAccess w.k w.bus with
  | none => simp
  | some x => cases h : p x.2.op <;> simp [h]

theorem Work.sweepStop_drop (w : Work) : w.sweepStop.drop = w.drop := by
  obtain ⟨p, ns, d, h, -⟩ := w.sweepStop_frame
  rw [h]

theorem Work.runClear_drop (w : Work) :
    w.runClear.drop = (w.drop || (busAccess w.k w.bus).any fun x => w.seg.stopDiscards x.2.op) := by
  have he : w.enterStopping.drop = (w.drop || (busAccess w.k w.bus).any fun x => x.2.op.stopDrops) :=
    (Work.sweepStop_drop _).trans (Work.discard_drop w Op.stopDrops)
  have hn : w.drop = (w.drop || (busAccess w.k w.bus).any fun _ => false) := by
    cases busAccess w.k w.bus <;> simp
  unfold Work.runClear Segment.stopDiscards
  cases hs : w.seg.state with
  | settling | acquiring | locked | stalled => exact he
  | stopping => exact hn
  | stopped => exact Work.discard_drop w _
  | faulted =>
    refine Eq.trans ?_ hn
    dsimp only
    unfold Work.faultedToStopped
    rw [Work.enterStopped_eq]
    split <;> rfl

theorem State.stopSeg_busy (s : State) (k : Seg) :
    (s.stopSeg k).port.busy = s.busAfter ((s.segs.get k).takesRunClear
      && (busAccess k s.port.busy).any fun x => (s.segs.get k).stopDiscards x.2.op) := by
  unfold State.stopSeg
  split
  · rename_i ht
    rw [State.onSeg_port, (Work.finish_marks _).1, Work.runClear_drop, ht]
    rfl
  · rename_i ht
    rw [Bool.eq_false_iff.mpr ht]
    rfl

theorem State.stopSeg_busy_congr {s t : State} {k : Seg} (hg : s.segs.get k = t.segs.get k)
    (hb : s.port.busy = t.port.busy) : (s.stopSeg k).port.busy = (t.stopSeg k).port.busy := by
  rw [State.stopSeg_busy, State.stopSeg_busy]
  unfold State.busAfter
  rw [hg, hb]

theorem State.stopSeg_busy_other {s : State} {k : Seg} (h : busAccess k s.port.busy = none) :
    (s.stopSeg k).port.busy = s.port.busy := by
  rw [State.stopSeg_busy, h, Option.any_none, Bool.and_false]
  rfl

theorem busAccess_other {j k : Seg} {b : Option Busy} (h : busAccess k b ≠ none) (hj : j ≠ k) : busAccess j b = none := by
  match b with
  | none | some ⟨.notice, _, _⟩ | some ⟨.device, _, _⟩ => rfl
  | some ⟨.segment i src, a, _⟩ =>
    unfold busAccess at h ⊢
    refine if_neg ?_
    rintro rfl
    exact h (if_neg hj)

/-! ## The stop of all segments -/

theorem State.foldl_stopSeg_attention_other {ks : List Seg} {k : Seg} (h : k ∉ ks) (s : State) :
    (ks.foldl State.stopSeg s).attention.getLsbD (4 + k.toNat) = s.attention.getLsbD (4 + k.toNat) := by
  induction ks generalizing s with
  | nil => rfl
  | cons j ks ih =>
    obtain ⟨hj, hk⟩ := List.mem_cons.not.mp h |> not_or.mp
    rw [List.foldl_cons, ih hk, State.stopSeg_attention, decide_eq_false (Ne.symm hj), Bool.false_and, Bool.or_false]

theorem State.foldl_stopSeg_attention {ks : List Seg} (hn : ks.Nodup) {k : Seg} (hk : k ∈ ks) (s : State) :
    (ks.foldl State.stopSeg s).attention.getLsbD (4 + k.toNat) = (s.stopSeg k).attention.getLsbD (4 + k.toNat) := by
  induction ks generalizing s with
  | nil => cases hk
  | cons j ks ih =>
    obtain ⟨hj, hn⟩ := List.nodup_cons.mp hn
    rw [List.foldl_cons]
    by_cases e : j = k
    · subst e
      exact State.foldl_stopSeg_attention_other hj _
    · rw [ih hn ((List.mem_cons.mp hk).resolve_left (Ne.symm e)), State.stopSeg_attention, State.stopSeg_attention,
        State.stopSeg_attention, State.stopSeg_other _ _ (Ne.symm e), decide_eq_false e, Bool.false_and, Bool.or_false]

theorem State.foldl_stopSeg_busy_other {ks : List Seg} {s : State} (h : ∀ j ∈ ks, busAccess j s.port.busy = none) :
    (ks.foldl State.stopSeg s).port.busy = s.port.busy := by
  induction ks generalizing s with
  | nil => rfl
  | cons j ks ih =>
    have hj := State.stopSeg_busy_other (h j List.mem_cons_self)
    rw [List.foldl_cons, ih, hj]
    intro i hi
    rw [hj]
    exact h i (List.mem_cons_of_mem _ hi)

theorem State.foldl_stopSeg_busy {ks : List Seg} (hn : ks.Nodup) {k : Seg} (hk : k ∈ ks) {s : State}
    (hb : busAccess k s.port.busy ≠ none) : (ks.foldl State.stopSeg s).port.busy = (s.stopSeg k).port.busy := by
  induction ks generalizing s with
  | nil => cases hk
  | cons j ks ih =>
    obtain ⟨hj, hn⟩ := List.nodup_cons.mp hn
    rw [List.foldl_cons]
    by_cases e : j = k
    · subst e
      refine State.foldl_stopSeg_busy_other fun i hi => ?_
      have hs : busAccess i (s.stopSeg j).port.busy = busAccess i s.port.busy := State.stopSeg_bus s j i
      rw [hs]
      exact busAccess_other hb (fun c => hj (c ▸ hi))
    · have hs := State.stopSeg_busy_other (busAccess_other hb e)
      rw [ih hn ((List.mem_cons.mp hk).resolve_left (Ne.symm e)) (by rw [hs]; exact hb)]
      exact State.stopSeg_busy_congr (State.stopSeg_other _ _ (Ne.symm e)) hs

theorem Seg.all_nodup : Seg.all.Nodup := by decide

theorem Seg.mem_all (k : Seg) : k ∈ Seg.all := by cases k <;> decide

theorem State.stopAll_attention (s : State) (k : Seg) :
    s.stopAll.attention.getLsbD (4 + k.toNat) = (s.stopSeg k).attention.getLsbD (4 + k.toNat) :=
  State.foldl_stopSeg_attention Seg.all_nodup (Seg.mem_all k) s

/-- A device-wide stop does to the granted access of a segment what a RUN write of 0 to that segment does. -/
theorem State.stopAll_busy {s : State} {k : Seg} (hb : busAccess k s.port.busy ≠ none) :
    s.stopAll.port.busy = (s.stopSeg k).port.busy :=
  State.foldl_stopSeg_busy Seg.all_nodup (Seg.mem_all k) hb

/-- It leaves the accesses of the notice writer and of the host access port. -/
theorem State.stopAll_busy_other {s : State} (h : ∀ k, busAccess k s.port.busy = none) : s.stopAll.port.busy = s.port.busy :=
  State.foldl_stopSeg_busy_other fun j _ => h j

theorem State.stopAll_frame (s : State) :
    s.stopAll.dev = s.dev ∧ s.stopAll.block = s.block ∧ s.stopAll.mask = s.mask ∧ s.stopAll.pending = s.pending := by
  simp [State.stopAll, Seg.all]

/-! ## A segment that takes a RUN write of 0 -/

theorem State.stopSeg_running {s : State} {k : Seg} (hf : (s.segs.get k).faultHeld = none)
    (h : (s.segs.get k).state.running) : (s.segs.get k).enteredStop ((s.stopSeg k).segs.get k) := by
  obtain ⟨-, -, -, -, -, hent⟩ := Work.enterStopping_finish (w := s.work k) hf
  have he : s.stopSeg k = s.onSeg k Work.runClear := if_pos (Segment.takesRunClear_running h hf)
  rw [he, State.onSeg_segs, Four.get_put_same, Work.runClear_running (w := s.work k) h]
  exact hent

theorem State.stopSeg_stopped {s : State} {k : Seg} (hf : (s.segs.get k).faultHeld = none)
    (h : (s.segs.get k).state = .stopped) :
    ((s.stopSeg k).segs.get k).state = .stopped ∧ ((s.stopSeg k).segs.get k).starting = false := by
  by_cases hs : (s.segs.get k).starting = true
  · obtain ⟨d, hd, -⟩ := (s.work k).cancelStart_drop
    have hr : (s.work k).runClear = (s.work k).cancelStart := by
      unfold Work.runClear
      rw [show (s.work k).seg.state = .stopped from h]
    have he : s.stopSeg k = s.onSeg k Work.runClear := if_pos (by simp [Segment.takesRunClear, h, hs])
    rw [he, State.onSeg_segs, Four.get_put_same, hr, hd, Work.finish_off (.inl h) hf]
    exact ⟨h, rfl⟩
  · have he : s.stopSeg k = s := if_neg (by simp [Segment.takesRunClear, h, hs])
    rw [he]
    exact ⟨h, Bool.eq_false_iff.mpr hs⟩

theorem State.stopSeg_faulted {s : State} {k : Seg} (h : (s.segs.get k).state = .faulted)
    (hc : (s.segs.get k).waits.control = none) (ho : (s.segs.get k).faultOwed = none) :
    (s.stopSeg k).segs.get k = (s.segs.get k).stoppedNow := by
  have he : s.stopSeg k = s.onSeg k Work.runClear := if_pos (by simp [Segment.takesRunClear, h])
  rw [he, State.onSeg_segs, Four.get_put_same, Work.runClear_faulted (w := s.work k) h hc ho, Work.enterStopped_finish,
    Work.enterStopped_eq]
  rfl

/-- A RUN write of 0 in READY outside a drain. -/
theorem exec_runClear_stopSeg {s : State} (k : Seg) (hr : s.dev.state = .ready) (hd : s.dev.disabling = false) :
    exec (.runClear k) s = .next (s.stopSeg k).settle :=
  congrArg (fun t : State => Host.Outcome.next t.settle) (if_pos ((State.takesRun_iff s).mpr ⟨hr, hd⟩))

/-- Settles O12: the disable drain, the segments at rest and running, and the stop of each as by a RUN write of 0. -/
theorem enableClearStopsSegments : Obligations.EnableClearStopsSegments := by
  intro s hr hd
  let v : State := { s with dev := { s.dev with enable := false, disabling := true } }
  obtain ⟨fdev, fblock, fmask, fpend⟩ := v.stopAll_frame
  obtain ⟨gpend, gblock, gmask, gatt, gbusy⟩ := v.stopAll.settle_frame
  have hex : exec .enableClear s = .next v.stopAll.settle := by
    show Host.Outcome.next s.enableClear.settle = _
    unfold State.enableClear
    rw [hr]
    dsimp only
    rw [hd]
    rfl
  have hget : ∀ k, ((s.segs.get k).state = .stopped → (s.segs.get k).faultHeld = none) →
      v.stopAll.settle.segs.get k = (({ s with draws := s.drawsBefore k } : State).stopSeg k).segs.get k := by
    intro k hs
    rw [State.settle_segs, State.stopAll_get v k hs]
    exact State.stopSeg_congr rfl rfl rfl rfl rfl hs
  have hatt : ∀ (k : Seg) (n : Nat), v.stopAll.settle.attention.getLsbD (4 + k.toNat)
      = (({ s with draws := n } : State).stopSeg k).attention.getLsbD (4 + k.toNat) := by
    intro k n
    rw [gatt, State.stopAll_attention, State.stopSeg_attention, State.stopSeg_attention]
  refine ⟨_, hex, (State.settle_dev (by rw [fdev]; exact hr)).trans fdev, gblock.trans fblock, gmask.trans fmask,
    gpend.trans fpend, fun k hf => ⟨fun h => ?_, fun h => ?_, fun h hc ho => ?_⟩, fun hs k => ?_, fun h => ?_⟩
  · rw [hget k fun _ => hf]
    have hent := State.stopSeg_running (s := { s with draws := s.drawsBefore k }) (k := k) hf h
    exact ⟨hent.state, hent.timer, hent.scanTimer, hent.waitsChain⟩
  · rw [hget k fun _ => hf]
    exact State.stopSeg_stopped (s := { s with draws := s.drawsBefore k }) (k := k) hf h
  · rw [hget k fun _ => hf, hatt k s.draws, State.stopSeg_attention,
      State.stopSeg_faulted (s := { s with draws := s.drawsBefore k }) (k := k) h hc ho]
    refine ⟨rfl, ?_⟩
    simp [Segment.stopsNow, h, hc, ho]
  · obtain ⟨-, -, -, uatt, ubusy⟩ := (({ s with draws := s.drawsBefore k } : State).stopSeg k).settle_frame
    refine ⟨_, exec_runClear_stopSeg (s := { s with draws := s.drawsBefore k }) k hr hd, ?_, ?_, fun b src hb hreq => ?_⟩
    · exact (hget k (hs k).2).trans (by rw [State.settle_segs])
    · rw [uatt]
      exact hatt k (s.drawsBefore k)
    · rw [ubusy, gbusy, State.stopAll_busy (k := k)]
      · exact State.stopSeg_busy_congr rfl rfl
      · obtain ⟨req, acc, disc⟩ := b
        cases hreq
        show busAccess k s.port.busy ≠ none
        rw [hb]
        simp [busAccess]
  · rw [gbusy, State.stopAll_busy_other]
    intro k
    show busAccess k s.port.busy = none
    cases hb : s.port.busy with
    | none => rfl
    | some b =>
      obtain ⟨req, acc, disc⟩ := b
      rcases h _ hb with hq | hq <;> cases hq <;> rfl

end Sys2Proof.Machine

/-! A SCAN write (R106, R161): each segment with its bit set takes it as an event of its own, and in a segment with nothing due
the event makes nothing due. -/

namespace Sys2Proof.Machine

/-! ## The segments of a SCAN write -/

theorem State.scanSeg_segs_other {s : State} {v : Word} {j k : Seg} (h : j ≠ k ∨ v.getLsbD k.toNat = false) :
    (s.scanSeg v j).segs.get k = s.segs.get k := by
  unfold State.scanSeg
  split
  · rename_i hj
    have hjk : k ≠ j := by
      rintro rfl
      rcases h with h | h
      · exact h rfl
      · simp [h] at hj
    rw [State.onSeg_segs, Four.get_put, if_neg hjk]
  · rfl

/-- A segment takes its SCAN bit as an event that gives the segment unit its new value. -/
theorem State.scanSeg_set {s : State} {v : Word} {k : Seg} (h : v.getLsbD k.toNat = true) :
    (s.scanSeg v k).settle = s.afterEvent k (s.segs.get k).scanned [] := by
  unfold State.scanSeg
  rw [if_pos h]
  rfl

theorem State.scan_segs_clear {s : State} {v : Word} {k : Seg} (h : v.getLsbD k.toNat = false) :
    (s.scan v).segs.get k = s.segs.get k := by
  simp [State.scan, Seg.all, State.scanSeg_segs_other (.inr h)]

theorem State.foldl_scanSeg_other {ks : List Seg} {k : Seg} (h : k ∉ ks) (v : Word) (s : State) :
    (ks.foldl (State.scanSeg v) s).segs.get k = s.segs.get k := by
  induction ks generalizing s with
  | nil => rfl
  | cons j ks ih =>
    obtain ⟨hj, hk⟩ := List.mem_cons.not.mp h |> not_or.mp
    rw [List.foldl_cons, ih hk, State.scanSeg_segs_other (.inl (Ne.symm hj))]

theorem State.foldl_scanSeg_set {ks : List Seg} (hn : ks.Nodup) {k : Seg} (hk : k ∈ ks) {v : Word}
    (h : v.getLsbD k.toNat = true) (s : State) : ∃ s' : State, s'.segs.get k = s.segs.get k
      ∧ (ks.foldl (State.scanSeg v) s).segs.get k = (s'.afterEvent k (s'.segs.get k).scanned []).segs.get k := by
  induction ks generalizing s with
  | nil => cases hk
  | cons j ks ih =>
    obtain ⟨hj, hn⟩ := List.nodup_cons.mp hn
    rw [List.foldl_cons]
    by_cases e : j = k
    · subst e
      refine ⟨s, rfl, ?_⟩
      rw [State.foldl_scanSeg_other hj, ← State.scanSeg_set h, State.settle_segs]
    · obtain ⟨s', hs, h'⟩ := ih hn ((List.mem_cons.mp hk).resolve_left (Ne.symm e)) (s.scanSeg v j)
      exact ⟨s', hs.trans (State.scanSeg_segs_other (.inl e)), h'⟩

/-- What a SCAN write makes of a segment with its bit set, in some state of the rest of the block. -/
theorem State.scan_segs_set (s : State) {v : Word} {k : Seg} (h : v.getLsbD k.toNat = true) : ∃ s' : State,
    (s.scan v).settle.segs.get k = (s'.afterEvent k (s.segs.get k).scanned []).segs.get k := by
  obtain ⟨s', hs, h'⟩ := State.foldl_scanSeg_set Seg.all_nodup (Seg.mem_all k) h s
  refine ⟨s', ?_⟩
  rw [State.settle_segs, ← hs]
  exact h'

/-- With one bit set, a SCAN write is the event of that segment. -/
theorem State.scan_one (s : State) {v : Word} {k : Seg} (h : ∀ j : Seg, v.getLsbD j.toNat = true ↔ j = k) :
    (s.scan v).settle = s.afterEvent k (s.segs.get k).scanned [] := by
  rw [← State.scanSeg_set ((h k).mpr rfl)]
  have hj : ∀ (u : State) (j : Seg), u.scanSeg v j = if j = k then u.scanSeg v k else u := by
    intro u j
    split
    · rename_i e
      rw [e]
    · rename_i e
      exact if_neg fun c => e ((h j).mp c)
  unfold State.scan Seg.all
  simp only [List.foldl_cons, List.foldl_nil, hj _ .s0, hj _ .s1, hj _ .s2, hj _ .s3]
  cases k <;> rfl

theorem State.scan_frame (s : State) (v : Word) :
    (s.scan v).block = s.block ∧ (s.scan v).mask = s.mask ∧ (s.scan v).pending = s.pending := by
  have h : ∀ (u : State) (j : Seg), (u.scanSeg v j).block = u.block ∧ (u.scanSeg v j).mask = u.mask
      ∧ (u.scanSeg v j).pending = u.pending := by
    intro u j
    unfold State.scanSeg
    split <;> simp
  simp [State.scan, Seg.all, h]

/-! ## A segment in which nothing is due -/

/-- A position of the cycle at which only a ready request or the cycle timer begins anything (R78, R80, R81). -/
def Cycle.betweenUnits (c : Cycle) : Prop :=
  (c.state = .waiting ∧ c.expired = false) ∨ c.state = .paused
    ∨ (c.state = .running ∧ c.point = .oppDue ∧ c.pause ≠ .none) ∨ (c.state = .running ∧ c.point = .oppOpen)

/-- The sequencer begins nothing in WAITING before the cycle timer's expiry, in PAUSED, in a pause-after and at an opportunity
held open, while no request is ready. -/
theorem Segment.kick_idles {g : Segment} (hu : g.unit = .none) (hr : g.req.ready = false) (hh : g.cycle.held = false)
    (hp : g.cycle.betweenUnits) : g.kick = g := by
  have ht : g.testOpportunity = g := by
    unfold Segment.testOpportunity
    refine if_neg ?_
    rintro ⟨h1, h2, h3⟩
    rcases hp with ⟨h, -⟩ | h | ⟨-, -, h⟩ | ⟨-, h⟩ <;> simp_all
  have hb : g.beginDue = g := by
    unfold Segment.beginDue
    refine if_neg ?_
    rintro ⟨-, h1 | ⟨h1, h2⟩⟩
    · simp [hh] at h1
    · rcases hp with ⟨-, h⟩ | h | ⟨h, -⟩ | ⟨h, -⟩ <;> simp_all
  have hd : g.dispatch = g := by
    unfold Segment.dispatch
    rw [if_pos hu, hr]
    rcases hp with ⟨h, -⟩ | h | ⟨h, h', -⟩ | ⟨h, h'⟩ <;> simp [*]
  unfold Segment.kick
  split
  · rw [ht, hb, hd]
  · rfl

/-- An event leaves a segment as given where its epilogue finds nothing due. -/
theorem State.afterEvent_stays {s : State} {k : Seg} {g : Segment}
    (h : g.calm ∨ (g.state = .stopping ∧ g.faultHeld = none ∧ g.xact = .idle ∧ g.resp.quiet
      ∧ (g.stopWrite = true ∨ g.waits.chain ≠ none))) : (s.afterEvent k g []).segs.get k = g := by
  rw [State.afterEvent_seg]
  rcases h with h | ⟨h1, h2, h3, h4, h5⟩
  · rw [Work.finish_calm h]; rfl
  · rw [Work.finish_stopping h1 h2 h3 h4, Work.stopCheck_waits]
    · rfl
    · unfold Work.stopReady
      rw [State.workWith_seg]
      rcases h5 with h5 | h5
      · simp [h5]
      · cases hc : g.waits.chain with
        | none => exact absurd hc h5
        | some a => simp [hc]

/-- So too a LOCKED segment between two units. -/
theorem State.afterEvent_between {s : State} {k : Seg} {g : Segment} (hl : g.state = .locked) (hf : g.faultHeld = none)
    (hu : g.unit = .none) (hx : g.xact = .idle) (hq : g.resp.quiet) (hr : g.req.ready = false) (hh : g.cycle.held = false)
    (hp : g.cycle.betweenUnits) : (s.afterEvent k g []).segs.get k = g := by
  rw [State.afterEvent_sequencer hl hf hx hq]
  exact Segment.kick_idles hu hr hh hp

/-- The values a SCAN write moves leave a segment calm. -/
theorem Segment.calm_scan {g : Segment} (h : g.calm) (q : ReqEngine) (a : Option Access) :
    ({ g with req := q, waits := { g.waits with chain := a } } : Segment).calm := h

/-! ## The obligation -/

/-- What a SCAN write makes of a segment that leaves nothing due in it. -/
theorem State.scan_segs_stays (s : State) {v : Word} {k : Seg} {g : Segment} (hb : v.getLsbD k.toNat = true)
    (hg : (s.segs.get k).scanned = g) (h : ∀ s' : State, (s'.afterEvent k g []).segs.get k = g) :
    (s.scan v).settle.segs.get k = g := by
  obtain ⟨s', hs⟩ := s.scan_segs_set hb
  rw [hs, hg]
  exact h s'

/-- Settles O17: the segments whose bit is 0, those with nothing due, and the event of a single segment. -/
theorem scanBeginsChainReads : Obligations.ScanBeginsChainReads := by
  refine ⟨fun s v => ⟨_, rfl, ?_⟩, fun s v k g hone hg => ?_⟩
  · obtain ⟨fb, fm, fp⟩ := s.scan_frame v
    obtain ⟨gp, gb, gm, -, -⟩ := (s.scan v).settle_frame
    refine ⟨gb.trans fb, gm.trans fm, gp.trans fp, fun k hk => ?_, fun k g hk hg hc => ⟨fun hi h => ?_, fun hi hn h => ?_,
      fun a hi hn ha => ?_⟩, fun k g hk hg h1 h2 h3 h4 h5 h6 h7 h8 => ?_⟩
    · exact (congrArg (Four.get · k) (State.settle_segs _)).trans (State.scan_segs_clear hk)
    · subst hg
      refine s.scan_segs_stays hk (Segment.scanned_ignored hi) fun _ => State.afterEvent_stays ?_
      rcases hc with hc | ⟨c1, c2, c3, c4⟩
      · exact .inl hc
      · rcases h with h | h
        · exact .inl h
        · exact .inr ⟨c1, c2, c3, c4, .inl h⟩
    · subst hg
      refine s.scan_segs_stays hk (Segment.scanned_noted hi hn) fun _ => State.afterEvent_stays ?_
      rcases hc with hc | ⟨c1, c2, c3, c4⟩
      · exact .inl (Segment.calm_scan hc _ _)
      · rcases h with h | h
        · exact .inl (Segment.calm_scan h _ _)
        · exact .inr ⟨c1, c2, c3, c4, .inr h⟩
    · subst hg
      refine s.scan_segs_stays hk (Segment.scanned_begins hi hn ha) fun _ => State.afterEvent_stays ?_
      rcases hc with hc | ⟨c1, c2, c3, c4⟩
      · exact .inl (Segment.calm_scan hc _ _)
      · exact .inr ⟨c1, c2, c3, c4, .inr (by simp)⟩
    · subst hg
      refine ⟨fun hi => ?_, fun hi hn => ?_, fun a hi hn ha => ?_⟩
      · refine s.scan_segs_stays hk (Segment.scanned_ignored hi) fun _ =>
          State.afterEvent_between h1 h2 h3 h4 h5 h6 h7 h8
      · refine s.scan_segs_stays hk (Segment.scanned_noted hi hn) fun _ =>
          State.afterEvent_between h1 h2 h3 h4 h5 h6 h7 h8
      · refine s.scan_segs_stays hk (Segment.scanned_begins hi hn ha) fun _ =>
          State.afterEvent_between h1 h2 h3 h4 h5 h6 h7 h8
  · subst hg
    have hex : exec (.scan v) s = .next (s.afterEvent k (s.segs.get k).scanned []) :=
      congrArg Host.Outcome.next (s.scan_one hone)
    rw [hex]
    refine ⟨fun hi => ?_, fun hi hn => ?_, fun a hi hn ha => ?_⟩
    · rw [Segment.scanned_ignored hi]
    · rw [Segment.scanned_noted hi hn]
    · rw [Segment.scanned_begins hi hn ha]

end Sys2Proof.Machine

/-! The notice writer's responses that move the device (R163, R165, R170, R171): the device progress record write, and an error
response. -/

namespace Sys2Proof.Machine

/-! ## Settling outside READY, and the notice writer in READY -/

/-- Outside READY settling has nothing to do but a disable asked for in FAULTED. -/
theorem State.settle_off {s : State} (hr : s.dev.state ≠ .ready) (hd : s.dev.state = .faulted → s.dev.disableAsked = false) :
    s.settle = s := by
  have h : s.disableDue = s := by
    unfold State.disableDue
    refine if_neg ?_
    rintro ⟨h1, h2, -⟩
    rw [hd h1] at h2
    cases h2
  unfold State.settle
  rw [h]
  unfold State.noticeDue
  exact if_neg fun c => hr c.1

/-- In READY settling issues an access of the notice writer at most. -/
theorem State.settle_nw {s : State} (h : s.dev.state = .ready) : ∃ b, s.settle.nw = { s.nw with recWaiting := b } := by
  rw [State.settle_ready h]
  unfold State.noticeDue
  repeat' split
  all_goals exact ⟨_, rfl⟩

/-- With no access of its own in progress and no record write waiting, the notice writer issues what the oldest notice needs
next. -/
theorem State.settle_issues {s : State} {n : Notice} {rest : List Notice} (h : s.dev.state = .ready)
    (hp : s.port.notice = none) (hb : s.noticeOnBus = false) (hw : s.nw.recWaiting = false) (hq : s.nw.queue = n :: rest) :
    s.settle.port.notice = some (s.noticeAccess n) := by
  have hd : s.drained = false := by simp [State.drained, hq]
  rw [State.settle_ready h]
  unfold State.noticeDue
  rw [if_pos ⟨h, hp, hb⟩, if_neg (by simp [hw, hd]), hq]

/-! ## Raising in a FAULTED device -/

/-- Outside READY a notice under the notice-lost condition is dropped and counted. -/
theorem State.raise_lost {s : State} (hl : s.nw.lost = true) (hr : s.dev.state ≠ .ready) (n : Notice) :
    s.raise n = { s with nw := { s.nw with dropped := s.nw.dropped + 1 }, attention := s.attention ||| 2 } := by
  unfold State.raise State.dropNotice State.requestRecord
  rw [if_pos (.inl hl)]
  exact if_pos hr

theorem State.raiseAll_lost {s : State} (hl : s.nw.lost = true) (hr : s.dev.state ≠ .ready) (ns : List Notice) :
    ∃ m, s.raiseAll ns = { s with
      nw := { s.nw with dropped := s.nw.dropped + BitVec.ofNat 32 ns.length }, attention := s.attention ||| m } := by
  induction ns generalizing s with
  | nil => exact ⟨0, by simp [State.raiseAll]⟩
  | cons n ns ih =>
    obtain ⟨m, h⟩ := ih (s := s.raise n) (by rw [State.raise_lost hl hr]; exact hl) (by rw [State.raise_lost hl hr]; exact hr)
    refine ⟨2 ||| m, ?_⟩
    have hn : BitVec.ofNat 32 (n :: ns).length = 1 + BitVec.ofNat 32 ns.length := by
      rw [List.length_cons, Nat.add_comm, BitVec.ofNat_add]
      rfl
    rw [hn, ← BitVec.add_assoc, ← BitVec.or_assoc]
    refine h.trans ?_
    rw [State.raise_lost hl hr]

/-! ## A device-wide stop in a FAULTED device -/

/-- A RUN write of 0 raises no notice but one of a sample that a sweep has deferred. -/
theorem Work.runClear_notices (w : Work) : ∃ ns, w.runClear.notices = w.notices ++ ns
    ∧ (w.seg.supply.deferred = false → ns = []) := by
  unfold Work.runClear
  cases w.seg.state with
  | settling | acquiring | locked | stalled =>
    obtain ⟨ns, h, -, hd⟩ := w.enterStopping_notices
    exact ⟨ns, h, hd⟩
  | stopping => exact ⟨[], (List.append_nil _).symm, fun _ => rfl⟩
  | stopped =>
    obtain ⟨d, h, -⟩ := w.cancelStart_drop
    dsimp only
    rw [h]
    exact ⟨[], (List.append_nil _).symm, fun _ => rfl⟩
  | faulted =>
    dsimp only
    unfold Work.faultedToStopped
    rw [Work.enterStopped_eq]
    split <;> exact ⟨[], (List.append_nil _).symm, fun _ => rfl⟩

/-- What the stop of a segment does to the notice writer and ATTENTION in a FAULTED device under the notice-lost condition. -/
theorem State.stopSeg_lost {s : State} (hl : s.nw.lost = true) (hr : s.dev.state ≠ .ready) (k : Seg) :
    ∃ d m, (s.stopSeg k).nw = { s.nw with dropped := d } ∧ (s.stopSeg k).attention = s.attention ||| m
      ∧ ((s.segs.get k).supply.deferred = false → d = s.nw.dropped) := by
  have hz : s.attention = s.attention ||| 0 := (BitVec.or_zero).symm
  unfold State.stopSeg
  split
  · obtain ⟨ns, hn, hdef⟩ := (s.work k).runClear_notices
    unfold State.onSeg State.commit
    rw [Work.finish_notices, hn]
    generalize (s.work k).runClear.finish = w
    obtain ⟨m, h⟩ := State.raiseAll_lost (s := { s with
      segs := s.segs.put k w.seg,
      port := { s.port with
        busy := if w.drop then s.port.busy.map Busy.discarded else s.port.busy, waited := s.waitedAfter k w.seg },
      draws := if w.drew then s.draws + 1 else s.draws }) hl hr ns
    have hd0 : (s.segs.get k).supply.deferred = false → s.nw.dropped + BitVec.ofNat 32 ns.length = s.nw.dropped := by
      intro hd
      rw [hdef hd]
      exact BitVec.add_zero _
    dsimp only
    rw [show (s.work k).notices ++ ns = ns from rfl, h]
    split
    · exact ⟨_, _, rfl, BitVec.or_assoc _ _ _, hd0⟩
    · exact ⟨_, _, rfl, rfl, hd0⟩
  · exact ⟨s.nw.dropped, 0, rfl, hz, fun _ => rfl⟩

theorem State.foldl_stopSeg_lost {ks : List Seg} (hn : ks.Nodup) {s : State} (hl : s.nw.lost = true)
    (hr : s.dev.state ≠ .ready) : ∃ d m, (ks.foldl State.stopSeg s).nw = { s.nw with dropped := d }
      ∧ (ks.foldl State.stopSeg s).attention = s.attention ||| m
      ∧ ((∀ k ∈ ks, (s.segs.get k).supply.deferred = false) → d = s.nw.dropped) := by
  induction ks generalizing s with
  | nil => exact ⟨s.nw.dropped, 0, rfl, (BitVec.or_zero).symm, fun _ => rfl⟩
  | cons j ks ih =>
    obtain ⟨hj, hn⟩ := List.nodup_cons.mp hn
    obtain ⟨d, m, h1, h2, h3⟩ := State.stopSeg_lost hl hr j
    obtain ⟨d', m', h1', h2', h3'⟩ := ih hn (s := s.stopSeg j) (by rw [h1]; exact hl) (by rw [State.stopSeg_dev]; exact hr)
    refine ⟨d', m ||| m', ?_, ?_, fun hd => ?_⟩
    · rw [List.foldl_cons, h1', h1]
    · rw [List.foldl_cons, h2', h2, BitVec.or_assoc]
    · rw [h3', h1]
      · exact h3 (hd j List.mem_cons_self)
      · intro i hi
        rw [State.stopSeg_other _ _ (by rintro rfl; exact hj hi)]
        exact hd i (List.mem_cons_of_mem _ hi)

theorem State.stopAll_notice (s : State) : s.stopAll.port.notice = s.port.notice := by
  have h : ∀ (u : State) (j : Seg), (u.stopSeg j).port.notice = u.port.notice := by
    intro u j
    unfold State.stopSeg
    split
    · rw [State.onSeg_port]
    · rfl
  simp [State.stopAll, Seg.all, h]

/-! ## The fault of the notice writer (R170) -/

/-- What NOTICE_FAULT leaves. -/
theorem State.noticeFault_parts (s : State) (addr : Word) :
    (s.noticeFault addr).dev = { s.dev with
        state := .faulted, fault := .noticeFault, faultAddr := addr, disabling := false, disableAsked := false }
      ∧ (s.noticeFault addr).port.notice = none
      ∧ (s.port.busy = none → (s.noticeFault addr).port.busy = none)
      ∧ (s.noticeFault addr).nw.queue = [] ∧ (s.noticeFault addr).nw.lost = true
      ∧ (∃ m, (s.noticeFault addr).attention
          = (if s.nw.queue.length = 0 then s.attention ||| 8 else (s.attention ||| 8) ||| 2) ||| m)
      ∧ ((∀ k, (s.segs.get k).supply.deferred = false) →
          (s.noticeFault addr).nw.dropped = s.nw.dropped + BitVec.ofNat 32 s.nw.queue.length) := by
  unfold State.noticeFault
  dsimp only
  generalize hv : (if s.nw.queue.length = 0 then _ else _ : State) = v
  have hdev : v.dev = { s.dev with
      state := .faulted, fault := .noticeFault, faultAddr := addr, disabling := false, disableAsked := false } := by
    rw [← hv]; split <;> rfl
  have hnw : v.nw = { s.nw with
      queue := [], dropped := s.nw.dropped + BitVec.ofNat 32 s.nw.queue.length, lost := true, step := .marker,
      recWaiting := false, loadedOwed := false, finalRec := false } := by
    rw [← hv]; split <;> rfl
  have hport : v.port = s.port.noNotice := by rw [← hv]; split <;> rfl
  have hsegs : v.segs = s.segs := by rw [← hv]; split <;> rfl
  have hatt : v.attention = if s.nw.queue.length = 0 then s.attention ||| 8 else (s.attention ||| 8) ||| 2 := by
    rw [← hv]; split <;> rfl
  obtain ⟨fdev, -⟩ := v.stopAll_frame
  obtain ⟨d, m, h1, h2, h3⟩ := State.foldl_stopSeg_lost (s := v) Seg.all_nodup (by rw [hnw]) (by rw [hdev]; simp)
  replace h1 : v.stopAll.nw = { v.nw with dropped := d } := h1
  refine ⟨fdev.trans hdev, ?_, fun hb => ?_, ?_, ?_, ⟨m, ?_⟩, fun hd => ?_⟩
  · rw [State.stopAll_notice, hport]; rfl
  · have hbv : v.port.busy = none := by rw [hport]; exact hb
    rw [State.stopAll_busy_other fun k => by rw [hbv]; rfl]
    exact hbv
  · rw [h1, hnw]
  · rw [h1, hnw]
  · rw [← hatt]; exact h2
  · rw [h1]
    refine (h3 fun k _ => ?_).trans (by rw [hnw])
    rw [hsegs]
    exact hd k

/-! ## The obligation -/

theorem State.noticeDone_record (s : State) (d : List Byte) (h : s.nw.finalRec = false) :
    s.noticeDone .devProgress d = { s with
      attention := if s.nw.loadedOwed then s.attention ||| 4 else s.attention,
      nw := { s.nw with loadedOwed := false, finalRec := false } } := by
  unfold State.noticeDone
  dsimp only
  rw [h]
  cases s.nw.loadedOwed <;> rfl

/-- The record write that carries DISABLED. -/
theorem State.noticeDone_final (s : State) (d : List Byte) (h : s.nw.finalRec = true) (hl : s.nw.loadedOwed = false) :
    s.noticeDone .devProgress d = { s with nw := { s.nw with loadedOwed := false, finalRec := false } }.enterDisabled := by
  unfold State.noticeDone
  dsimp only
  rw [h, hl]
  rfl

/-- Settles O22: the two completions of the record write, and the error response. -/
theorem noticeWriterResponsesMoveDevice : Obligations.NoticeWriterResponsesMoveDevice := by
  refine ⟨fun s a hb hop hr => ⟨fun hfin => ?_, fun hfin hl => ?_⟩, fun s a hb hr => ?_⟩
  · have hex : exec (.accessComplete []) s = .next (s.freePort.noticeDone .devProgress []).settle := by
      show Host.Outcome.next (s.complete []).settle = _
      unfold State.complete
      rw [hb, ← hop]
      rfl
    rw [State.noticeDone_record s.freePort _ hfin] at hex
    let v : State := { s.freePort with
      attention := if s.nw.loadedOwed then s.attention ||| 4 else s.attention,
      nw := { s.nw with loadedOwed := false, finalRec := false } }
    obtain ⟨-, -, -, gatt, -⟩ := v.settle_frame
    obtain ⟨r, hnw⟩ := State.settle_nw (s := v) hr
    refine ⟨v.settle, hex, gatt, by rw [hnw], State.settle_dev (s := v) hr, v.settle_segs, by rw [hnw], by rw [hnw],
      fun n rest slot hn hw hq hs => ?_⟩
    rw [State.settle_issues (s := v) hr hn rfl hw hq, hs]
    show some (v.noticeAccess n) = _
    unfold State.noticeAccess
    rw [show v.nw.step = s.nw.step from rfl]
    cases s.nw.step <;> rfl
  · have hex : exec (.accessComplete []) s = .next (s.freePort.noticeDone .devProgress []).settle := by
      show Host.Outcome.next (s.complete []).settle = _
      unfold State.complete
      rw [hb, ← hop]
      rfl
    rw [State.noticeDone_final s.freePort _ hfin hl, State.settle_off (by simp [State.enterDisabled])
      (by simp [State.enterDisabled])] at hex
    refine ⟨_, hex, rfl, rfl, rfl, rfl, rfl, rfl, rfl, fun k => ?_⟩
    cases k <;> rfl
  · obtain ⟨hdev, hnot, hbus, hq, hlost, ⟨m, hatt⟩, hdrop⟩ := s.freePort.noticeFault_parts a.addr
    have hex : exec .errorResponse s = .next (s.freePort.noticeFault a.addr).settle := by
      show Host.Outcome.next s.errorResponse.settle = _
      unfold State.errorResponse
      rw [hb]
      rfl
    rw [State.settle_off (by rw [hdev]; simp) (by rw [hdev]; simp)] at hex
    refine ⟨_, hex, by rw [hdev], by rw [hdev], by rw [hdev], by rw [hdev], by rw [hdev]; rfl, hq, hlost, hnot, hbus rfl,
      ?_, fun hne => ?_, hdrop, fun k hf hrun => ?_, fun hs k => ?_⟩
    · rw [hatt]
      split <;> simp
    · rw [hatt, if_neg (by simpa [State.freePort] using hne)]
      simp
    · rw [State.noticeFault_get s.freePort a.addr k fun _ => hf]
      exact (State.stopSeg_running (s := { s.freePort with draws := s.freePort.drawsBefore k }) (k := k) hf hrun).state
    · refine ⟨_, exec_runClear_stopSeg
        (s := { s with draws := s.drawsBefore k, dev := { s.dev with disabling := false } }) k hr rfl, ?_⟩
      rw [State.noticeFault_get s.freePort a.addr k (hs k).2, State.settle_segs]
      refine State.stopSeg_congr rfl rfl rfl rfl ?_ (hs k).2
      show busAccess k none = busAccess k s.port.busy
      rw [hb]
      rfl

end Sys2Proof.Machine

/-! The progress record write (R42, R43, R79, R173): the values its grant carries, and its status word field by field (11). -/

namespace Sys2Proof.Machine

/-! ## Bytes within the write window -/

/-- Consecutive bytes that begin and end inside the window are inside it. -/
theorem placeAt_inWindow {low high : Word} {bs : List Byte} {a : Word} (hl : low.toNat ≤ a.toNat)
    (hh : a.toNat + bs.length ≤ high.toNat) (op : Op) (len : Nat) :
    Access.inWindow low high ⟨op, a, len, placeAt a bs⟩ = true := by
  unfold Access.inWindow
  dsimp only
  induction bs generalizing a with
  | nil => rfl
  | cons b bs ih =>
    rw [List.length_cons] at hh
    have hlt := high.isLt
    cases bs with
    | nil =>
      simp only [placeAt, List.all_cons, List.all_nil, Bool.and_true, Bool.and_eq_true, decide_eq_true_eq]
      exact ⟨hl, by omega⟩
    | cons c cs =>
      have ha : (a.off 1).toNat = a.toNat + 1 := by
        rw [List.length_cons] at hh
        unfold Word.off
        rw [BitVec.toNat_add_of_lt (by simp; omega)]
        rfl
      rw [placeAt, List.all_cons, Bool.and_eq_true]
      refine ⟨?_, ih (by omega) (by omega)⟩
      simp only [Bool.and_eq_true, decide_eq_true_eq]
      exact ⟨hl, by omega⟩

theorem Segment.progressBytes_length (g : Segment) : g.progressBytes.length = 32 := by
  unfold Segment.progressBytes
  simp [wrWord]

/-! ## The status word -/

theorem Segment.getLsbD_statusWord (g : Segment) (j : Nat) : g.statusWord.getLsbD j
    = ((field (if g.stopWrite then SegState.stopped else g.state).code 0).getLsbD j || (field g.fault.code 3).getLsbD j
      || (field g.supply.level.code 6).getLsbD j || (field (g.resp.next % 256) 8).getLsbD j
      || (field (g.cap.next % 1024) 16).getLsbD j || (field g.supply.auto.toNat 30).getLsbD j
      || (field g.supply.forced.toNat 31).getLsbD j) := by
  unfold Segment.statusWord
  rw [← apply_ite SegState.code]
  simp only [BitVec.getLsbD_or]

theorem mod_256_lt_field (n : Nat) : n % 256 < 2 ^ 8 := Nat.mod_lt _ (by decide)

theorem mod_1024_lt_field (n : Nat) : n % 1024 < 2 ^ 10 := Nat.mod_lt _ (by decide)

/-- The status word at the places of its fields. -/
theorem Segment.statusWord_fields (g : Segment) :
    (g.statusWord.extractLsb' 0 3).toNat = (if g.stopWrite then SegState.stopped else g.state).code
      ∧ (g.statusWord.extractLsb' 3 3).toNat = g.fault.code ∧ (g.statusWord.extractLsb' 6 2).toNat = g.supply.level.code
      ∧ (g.statusWord.extractLsb' 8 8).toNat = g.resp.next % 256 ∧ (g.statusWord.extractLsb' 16 10).toNat = g.cap.next % 1024
      ∧ (g.statusWord.extractLsb' 26 4).toNat = 0 := by
  have outside : ∀ j, (j < 30 → (field g.supply.auto.toNat 30).getLsbD j = false
        ∧ (field g.supply.forced.toNat 31).getLsbD j = false)
      ∧ (j < 16 ∨ 26 ≤ j → (field (g.cap.next % 1024) 16).getLsbD j = false)
      ∧ (j < 8 ∨ 16 ≤ j → (field (g.resp.next % 256) 8).getLsbD j = false)
      ∧ (j < 6 ∨ 8 ≤ j → (field g.supply.level.code 6).getLsbD j = false)
      ∧ (j < 3 ∨ 6 ≤ j → (field g.fault.code 3).getLsbD j = false)
      ∧ (3 ≤ j → (field (if g.stopWrite then SegState.stopped else g.state).code 0).getLsbD j = false) := by
    intro j
    refine ⟨fun h => ⟨?_, ?_⟩, fun h => ?_, fun h => ?_, fun h => ?_, fun h => ?_, fun h => ?_⟩
    · exact getLsbD_field_outside (Bool.toNat_lt_field _) (by omega)
    · exact getLsbD_field_outside (Bool.toNat_lt_field _) (by omega)
    · exact getLsbD_field_outside (mod_1024_lt_field _) (by omega)
    · exact getLsbD_field_outside (mod_256_lt_field _) (by omega)
    · exact getLsbD_field_outside (Level.code_lt _) (by omega)
    · exact getLsbD_field_outside (FaultCode.code_lt _) (by omega)
    · exact getLsbD_field_outside (SegState.code_lt _) (by omega)
  refine ⟨toNat_extractLsb'_of_bits (SegState.code_lt _) fun j hj hl => ?_,
    toNat_extractLsb'_of_bits (FaultCode.code_lt _) fun j hj hl => ?_,
    toNat_extractLsb'_of_bits (Level.code_lt _) fun j hj hl => ?_,
    toNat_extractLsb'_of_bits (mod_256_lt_field _) fun j hj hl => ?_,
    toNat_extractLsb'_of_bits (mod_1024_lt_field _) fun j hj hl => ?_,
    toNat_extractLsb'_of_bits (by decide) fun j hj hl => ?_⟩
  all_goals
    obtain ⟨o1, o2, o3, o4, o5, o6⟩ := outside j
    rw [Segment.getLsbD_statusWord]
  · rw [(o1 (by omega)).1, (o1 (by omega)).2, o2 (by omega), o3 (by omega), o4 (by omega), o5 (by omega),
      getLsbD_field hj (by omega)]
    simp
  · rw [(o1 (by omega)).1, (o1 (by omega)).2, o2 (by omega), o3 (by omega), o4 (by omega), o6 (by omega),
      getLsbD_field hj (by omega)]
    simp
  · rw [(o1 (by omega)).1, (o1 (by omega)).2, o2 (by omega), o3 (by omega), o5 (by omega), o6 (by omega),
      getLsbD_field hj (by omega)]
    simp
  · rw [(o1 (by omega)).1, (o1 (by omega)).2, o2 (by omega), o4 (by omega), o5 (by omega), o6 (by omega),
      getLsbD_field hj (by omega)]
    simp
  · rw [(o1 (by omega)).1, (o1 (by omega)).2, o3 (by omega), o4 (by omega), o5 (by omega), o6 (by omega),
      getLsbD_field hj (by omega)]
    simp
  · rw [(o1 (by omega)).1, (o1 (by omega)).2, o2 (by omega), o3 (by omega), o4 (by omega), o5 (by omega), o6 (by omega)]
    simp

theorem Segment.statusWord_conserve (g : Segment) :
    g.statusWord.getLsbD 30 = g.supply.auto ∧ g.statusWord.getLsbD 31 = g.supply.forced := by
  have hlow : ∀ j, 30 ≤ j → g.statusWord.getLsbD j
      = ((field g.supply.auto.toNat 30).getLsbD j || (field g.supply.forced.toNat 31).getLsbD j) := by
    intro j hj
    rw [Segment.getLsbD_statusWord, getLsbD_field_outside (SegState.code_lt _) (by omega),
      getLsbD_field_outside (FaultCode.code_lt _) (by omega), getLsbD_field_outside (Level.code_lt _) (by omega),
      getLsbD_field_outside (mod_256_lt_field _) (by omega), getLsbD_field_outside (mod_1024_lt_field _) (by omega)]
    simp
  constructor
  · rw [hlow 30 (by decide), getLsbD_field (by decide) (by decide), testBit_toNat_zero,
      getLsbD_field_outside (Bool.toNat_lt_field _) (by decide), Bool.or_false]
  · rw [hlow 31 (by decide), getLsbD_field_outside (Bool.toNat_lt_field _) (by decide), Bool.false_or,
      getLsbD_field (by decide) (by decide), testBit_toNat_zero]

/-! ## The grant -/

/-- The grant of a progress record write inside the write window. -/
theorem State.grantSegment_progress {s : State} {k : Seg} {a : Access} (ha : (s.segs.get k).waits.control = some a)
    (hop : a.op = .progress) (hl : s.port.windowLow.toNat ≤ (s.segs.get k).blk.progress.toNat)
    (hh : (s.segs.get k).blk.progress.toNat + 32 ≤ s.port.windowHigh.toNat) :
    s.grantSegment k .control = State.issue
      ({ s with segs := s.segs.put k { s.segs.get k with
          waits := { (s.segs.get k).waits with control := none },
          prBus := (s.segs.get k).prWait, prWait := [],
          prFault := (s.segs.get k).faultOwed.isSome, prEnded := none } }.throttleLoad k)
      (.segment k .control) (.write .progress (s.segs.get k).blk.progress (s.segs.get k).progressBytes) := by
  have hin : Access.inWindow s.port.windowLow s.port.windowHigh
      (.write .progress (s.segs.get k).blk.progress (s.segs.get k).progressBytes) = true :=
    placeAt_inWindow hl (by rw [Segment.progressBytes_length]; exact hh) _ _
  have hw : (s.segs.get k).waits.access .control = some a := ha
  have hg : (s.segs.get k).grant .control a = ({ s.segs.get k with
      waits := { (s.segs.get k).waits with control := none },
      prBus := (s.segs.get k).prWait, prWait := [], prFault := (s.segs.get k).faultOwed.isSome, prEnded := none },
      .write .progress (s.segs.get k).blk.progress (s.segs.get k).progressBytes) := by
    unfold Segment.grant
    dsimp only
    rw [if_pos hop]
    rfl
  unfold State.grantSegment
  rw [hw]
  dsimp only
  rw [hg]
  dsimp only
  refine (if_neg ?_).trans rfl
  rw [Bool.and_eq_true, Bool.not_eq_true']
  rintro ⟨-, c⟩
  exact Bool.false_ne_true (c.symm.trans hin)

/-- Settles O26: the grant's record, and its status word. -/
theorem progressRecordCarriesValues : Obligations.ProgressRecordCarriesValues := by
  refine ⟨fun s late k g a hb hg hgr ha hop hl hh => ?_, fun g => ?_⟩
  · subst hg
    have hex : exec (.memoryGrant late) s = .next (s.grantSegment k .control).settle := by
      show Host.Outcome.next (s.grant late).settle = _
      rw [State.grant_idle late hb, hgr]
    rw [State.grantSegment_progress ha hop hl hh] at hex
    refine ⟨_, _, hex, (State.settle_frame _).2.2.2.2, ?_, ?_⟩
    · unfold Segment.progressBytes Segment.recordCycle
      cases (s.segs.get k).prEnded <;> cases (s.segs.get k).req.anchor <;> rfl
    · rw [State.settle_segs]
      unfold State.issue State.throttleLoad
      dsimp only
      rw [Four.get_put_same]
      exact ⟨rfl, rfl, rfl, rfl, rfl⟩
  · obtain ⟨h1, h2, h3, h4, h5, h6⟩ := g.statusWord_fields
    obtain ⟨h7, h8⟩ := g.statusWord_conserve
    exact ⟨h1, h2, h3, h4, h5, h6, h7, h8⟩

end Sys2Proof.Machine

/-! A response whose result is discarded (R159, R160, R151, R38): the port is IDLE again, and nothing else is moved by it. -/

namespace Sys2Proof.Machine

/-- Ending an access that is not the notice writer's own leaves nothing due beside it. -/
theorem State.settle_freePort {s : State} (hs : s.settled) (h : s.noticeOnBus = false) : s.freePort.settle = s.freePort := by
  obtain ⟨hd, hn⟩ := State.settled_parts hs
  have hdis : s.freePort.disableDue = s.freePort := by
    refine if_neg fun c => ?_
    have he : s.disableDue = s.enterDisabled := if_pos c
    have hf : s.dev.state = .faulted := c.1
    rw [← hd, he] at hf
    cases hf
  unfold State.settle
  rw [hdis]
  by_cases c : s.dev.state = .ready ∧ s.port.notice = none ∧ s.noticeOnBus = false
  · have hne := State.issued_ne c.2.1
    unfold State.noticeDue at hn
    rw [if_pos c] at hn
    have hw : ¬(s.nw.recWaiting = true ∨ s.drained = true) := fun w => by
      rw [if_pos w] at hn
      exact hne _ _ hn
    rw [if_neg hw] at hn
    have hc : s.freePort.dev.state = .ready ∧ s.freePort.port.notice = none ∧ s.freePort.noticeOnBus = false :=
      ⟨c.1, c.2.1, rfl⟩
    refine (if_pos hc).trans ((if_neg hw).trans ?_)
    show (match s.nw.queue with | [] => _ | n :: _ => _ : State) = _
    cases hq : s.nw.queue with
    | nil => rfl
    | cons n ns =>
      rw [hq] at hn
      exact absurd hn (hne _ s.nw)
  · exact if_neg fun e => c ⟨e.1, e.2.1, h⟩

/-- Which requests wait. -/
theorem State.mem_waiting_segment {s : State} {k : Seg} {src : Source} :
    Requester.segment k src ∈ s.waiting ↔ (s.segs.get k).waits.access src ≠ none := by
  have hk : k ∈ Seg.all := Seg.mem_all k
  have hsrc : src ∈ Source.all := by cases src <;> decide
  unfold State.waiting
  rw [List.mem_append, List.mem_append, List.mem_flatMap]
  constructor
  · rintro ((⟨j, -, h⟩ | h) | h)
    · obtain ⟨x, hx, he⟩ := List.mem_map.mp h
      cases he
      exact Option.isSome_iff_ne_none.mp (List.mem_filter.mp hx).2
    · split at h <;> simp at h
    · split at h <;> simp at h
  · intro h
    refine .inl (.inl ⟨k, hk, List.mem_map.mpr ⟨src, List.mem_filter.mpr ⟨hsrc, ?_⟩, rfl⟩⟩)
    exact Option.isSome_iff_ne_none.mpr h

theorem State.mem_waiting_notice {s : State} : Requester.notice ∈ s.waiting ↔ s.port.notice ≠ none := by
  unfold State.waiting
  cases s.port.notice <;> cases s.port.device <;> simp

theorem State.mem_waiting_device {s : State} : Requester.device ∈ s.waiting ↔ s.port.device ≠ none := by
  unfold State.waiting
  cases s.port.notice <;> cases s.port.device <;> simp

/-- The requests noted when a response ends an access. -/
theorem State.mem_freePort_waited {s : State} {r : Requester} :
    r ∈ s.freePort.port.waited ↔ r ∈ s.waiting ∧ ∀ b, s.port.busy = some b → b.req ≠ r := by
  show r ∈ s.arrived ↔ _
  unfold State.arrived
  rw [List.mem_filter]
  cases s.port.busy <;> simp

/-! ## A discarded response -/

/-- A discarded response to an access of a segment gives that segment no new value. -/
theorem exec_discarded_segment {s : State} {b : Busy} {k : Seg} {src : Source} {c : Instr} {d : List Byte}
    (hb : s.port.busy = some b) (hd : b.discard = true) (hr : b.req = .segment k src)
    (hc : c = .accessComplete d ∨ c = .errorResponse) :
    exec c s = .next (s.freePort.afterEvent k (s.segs.get k) []) := by
  have h : s.freePort.afterEvent k (s.segs.get k) [] = (s.freePort.onSeg k id).settle := rfl
  rw [h]
  rcases hc with rfl | rfl
  · show Host.Outcome.next (s.complete d).settle = _
    unfold State.complete
    rw [hb]
    dsimp only
    rw [hr, hd]
    rfl
  · show Host.Outcome.next s.errorResponse.settle = _
    unfold State.errorResponse
    rw [hb]
    dsimp only
    rw [hr, hd]
    rfl

/-- A response that gives a calm segment no new value only makes the port IDLE. -/
theorem State.freePort_afterEvent_same {s : State} {k : Seg} (hs : s.settled) (hn : s.noticeOnBus = false)
    (hc : (s.segs.get k).calm) : s.freePort.afterEvent k (s.segs.get k) [] = s.freePort := by
  have hp : s.freePort.takeSeg k (s.segs.get k) = s.freePort := by
    refine (State.takeSeg_keeps fun _ h => h).trans ?_
    unfold State.putSeg
    exact congrArg (fun v => { s.freePort with segs := v }) (Four.put_get _ _)
  exact (State.afterEvent_calm (s := s.freePort) (State.settle_freePort hs hn) hc rfl).trans hp

/-- The last access of a stop ends it, discarded or not (R38). -/
theorem State.afterEvent_stopEnds {s : State} {k : Seg} {g : Segment} (h : g.stopDone) (hx : g.xact = .idle)
    (ht : g.line.tx = none) (hb : s.port.busy = none) : (s.afterEvent k g []).segs.get k = g.stopAsked := by
  have hfin : (s.workWith k g []).finish = (s.workWith k g []).stopCheck := Work.finish_stopping h.state h.faultHeld hx h.resp
  have hready : (s.workWith k g []).stopReady = true := by
    refine (Work.stopReady_iff (by exact h)).mpr ⟨ht, ?_⟩
    rintro ⟨b, src, hbus, -⟩
    cases hb.symm.trans hbus
  rw [State.afterEvent_seg, hfin, Work.stopCheck_ends hready]
  rfl

/-- Settles O27: discarded responses, the requests noted at a response, the unwanted urgent read, and the IDLE port. -/
theorem discardedResponseHasNoEffect : Obligations.DiscardedResponseHasNoEffect := by
  refine ⟨fun s b d hb hd hr hs => ?_, fun s b d k src hb hd hr hs hc => ?_, fun s b d k src g c hb hd hr hg hc => ?_,
    fun s => ⟨rfl, fun r => State.mem_freePort_waited, fun k src => State.mem_waiting_segment, State.mem_waiting_notice,
      State.mem_waiting_device⟩, fun s k src a ha hs hc hop => ?_, fun s d hs hb => ?_⟩
  · have hn : s.noticeOnBus = false := by
      unfold State.noticeOnBus
      rw [hb]
      simp [hd]
    have hset := State.settle_freePort hs hn
    constructor
    · show Host.Outcome.next (s.complete d).settle = _
      have hcomp : s.complete d = s.freePort := by
        unfold State.complete
        rw [hb]
        dsimp only
        rcases hr with hr | hr <;> rw [hr, hd] <;> rfl
      rw [hcomp, hset]
    · show Host.Outcome.next s.errorResponse.settle = _
      have herr : s.errorResponse = s.freePort := by
        unfold State.errorResponse
        rw [hb]
        dsimp only
        rcases hr with hr | hr <;> rw [hr, hd] <;> rfl
      rw [herr, hset]
  · have hn : s.noticeOnBus = false := by
      unfold State.noticeOnBus
      rw [hb]
      simp [hd]
    rw [exec_discarded_segment (d := d) hb hd hr (.inl rfl), exec_discarded_segment (d := d) hb hd hr (.inr rfl),
      State.freePort_afterEvent_same hs hn hc]
    exact ⟨rfl, rfl⟩
  · subst hg
    have hex := exec_discarded_segment hb hd hr hc
    refine ⟨hex, fun h1 h2 h3 h4 h5 h6 h7 h8 h9 h10 h11 => ⟨_, hex, ?_⟩⟩
    exact State.afterEvent_stopEnds ⟨h1, h2, h3, h4, h6, h7, h8, h9, h10⟩ h5 h11 rfl
  · have hn : s.noticeOnBus = false := by
      unfold State.noticeOnBus
      rw [show s.port.busy = some ⟨.segment k src, a, false⟩ from ha]
      rfl
    have hu : (s.segs.get k).readUnwanted a.op = true := by
      rw [Segment.readUnwanted_urgent _ hop]
      unfold Segment.urgentLive
      rw [hc.2.2.2.2.2.1]
      rfl
    have hv : (s.freePort.work k).accessError a = { s.freePort.work k with seg := s.segs.get k, notices := [] } := if_pos hu
    rw [exec_errorResponse_after ha hv, State.freePort_afterEvent_same hs hn hc]
  · have hcomp : s.complete d = s := by unfold State.complete; rw [hb]
    have herr : s.errorResponse = s := by unfold State.errorResponse; rw [hb]
    exact ⟨congrArg Host.Outcome.next ((congrArg State.settle hcomp).trans hs),
      congrArg Host.Outcome.next ((congrArg State.settle herr).trans hs)⟩

end Sys2Proof.Machine

/-! SUPPORT. The epilogue of a LOCKED segment, and the entry to LOCKED: what they leave of the rest of the segment unit. -/

namespace Sys2Proof.Machine

/-! ## The epilogue -/

/-- The transmitter moves the line, the pending answer, the request engine's marks of a sent request and the transaction. -/
theorem Segment.tryBegin_frame (g : Segment) : ∃ l r q x,
    g.tryBegin = { g with line := l, resp := r, req := q, xact := x } ∧ q.scanTimer = g.req.scanTimer := by
  have hb : ∃ l r, g.beginAnswer = { g with line := l, resp := r } := by
    unfold Segment.beginAnswer
    repeat' split
    all_goals exact ⟨_, _, rfl⟩
  obtain ⟨l, r, hb⟩ := hb
  have hw : ∀ v : Segment, ∃ l q x, v.beginWork = { v with line := l, req := q, xact := x }
      ∧ q.scanTimer = v.req.scanTimer := by
    intro v
    unfold Segment.beginWork
    split
    · dsimp only
      split <;> exact ⟨_, _, _, rfl, rfl⟩
    · exact ⟨_, _, _, rfl, rfl⟩
  unfold Segment.tryBegin
  split
  · dsimp only
    rw [hb]
    split
    · obtain ⟨l', q, x, h, hq⟩ := hw { g with line := l, resp := r }
      exact ⟨l', r, q, x, h, hq⟩
    · exact ⟨l, r, g.req, g.xact, rfl, rfl⟩
  · exact ⟨g.line, g.resp, g.req, g.xact, rfl, rfl⟩

/-- In LOCKED the epilogue leaves the segment unit as the sequencer does, the responder and the transmitter apart. -/
theorem Work.finish_lockedFrame {w : Work} (hf : w.seg.faultHeld = none) (hs : w.seg.state = .locked) :
    ∃ l r q x n u, w.finish.seg = { w.seg.lostDue.kick with
        line := l, resp := r, req := q, xact := x, waits := { w.seg.lostDue.kick.waits with responder := n, urgent := u } }
      ∧ q.scanTimer = w.seg.lostDue.kick.req.scanTimer := by
  obtain ⟨r, n, u, rd, hr, -⟩ := Work.respDue_frame (w.on fun s => s.lostDue.kick)
  obtain ⟨l', r', q, x, ht, hq⟩ := Segment.tryBegin_frame
    { w.seg.lostDue.kick with resp := r, waits := { w.seg.lostDue.kick.waits with responder := n, urgent := u } }
  have hc := (Segment.kick_ctl w.seg.lostDue).trans (Segment.lostDue_ctl w.seg)
  simp only [Segment.ctl, Prod.mk.injEq] at hc
  refine ⟨l', r', q, x, n, u, ?_, hq⟩
  rw [Work.finish_locked hf hs, hr, Work.stopCheck_other]
  · exact ht
  · rw [Work.on_seg]
    refine ne_of_eq_of_ne (congrArg Segment.state ht) ?_
    show w.seg.lostDue.kick.state ≠ .stopping
    rw [hc.1, hs]
    simp

/-- The epilogue of a live segment outside STOPPING leaves the supply monitor and the good-frame count. -/
theorem Work.finish_supply {w : Work} (hl : w.seg.live = true) (hs : w.seg.state ≠ .stopping) :
    w.finish.seg.supply = w.seg.supply ∧ w.finish.seg.good = w.seg.good := by
  have hf : w.seg.faultHeld = none := by
    have h := ((Bool.and_eq_true _ _).mp hl).2
    simpa using h
  have hd := w.seg.lostDue_side
  by_cases hk : w.seg.state = .locked
  · obtain ⟨l, r, q, x, n, u, h, -⟩ := Work.finish_lockedFrame hf hk
    have hside := (Segment.kick_side w.seg.lostDue).trans hd
    simp only [Segment.side, Prod.mk.injEq] at hside
    obtain ⟨-, -, -, -, -, hsup, -, -, -, -, hgood⟩ := hside
    rw [h]
    exact ⟨hsup, hgood⟩
  · obtain ⟨r, n, u, rd, h, -⟩ := Work.finish_unlocked hl hk
    have hc := w.seg.lostDue_ctl
    simp only [Segment.ctl, Prod.mk.injEq] at hc
    simp only [Segment.side, Prod.mk.injEq] at hd
    obtain ⟨-, -, -, -, -, hsup, -, -, -, -, hgood⟩ := hd
    rw [h, Work.stopCheck_other (by show w.seg.lostDue.state ≠ .stopping; rw [hc.1]; exact hs)]
    exact ⟨hsup, hgood⟩

/-! ## The entry to LOCKED -/

theorem Segment.beginSweep_supply (g : Segment) :
    g.beginSweep.supply.level = g.supply.level ∧ g.beginSweep.supply.timer = g.supply.timer := by
  unfold Segment.beginSweep
  split <;> exact ⟨rfl, rfl⟩

/-- The segment unit at the first lock of a run: the chain head is to be examined, and a cycle begin is held (R31, R69). -/
theorem Segment.enterLocked_examines {g : Segment} (he : g.everLocked = false) (detail : Byte) :
    g.enterLocked detail = Segment.examineHead { g.lockedAt detail with
      everLocked := true, cycle := { g.cycle with held := true } } := by
  unfold Segment.enterLocked
  refine (if_neg (by simp [he])).trans ?_
  unfold Segment.examineHead
  by_cases hc : g.blk.chainHead = 0
  · refine Eq.trans ?_ (if_pos hc).symm
    exact congrArg (fun v : Segment => { v with cycle := { v.cycle with held := true } }) (if_pos hc)
  · refine Eq.trans ?_ (if_neg hc).symm
    exact congrArg (fun v : Segment => { v with cycle := { v.cycle with held := true } }) (if_neg hc)

/-- An entry to LOCKED keeps the supply level and the sample timer. -/
theorem Segment.enterLocked_supply (g : Segment) (detail : Byte) :
    (g.enterLocked detail).supply.level = g.supply.level ∧ (g.enterLocked detail).supply.timer = g.supply.timer := by
  have hsweep : ∀ v : Segment, v.beginHeldSweep.supply.level = v.supply.level
      ∧ v.beginHeldSweep.supply.timer = v.supply.timer := by
    intro v
    unfold Segment.beginHeldSweep
    split
    · split
      · exact v.beginSweep_supply
      · exact ⟨rfl, rfl⟩
    all_goals exact ⟨rfl, rfl⟩
  have hheld : (g.lockedAt detail).beginHeld.supply = g.supply := by
    unfold Segment.beginHeld
    split
    · have h := (g.lockedAt detail).beginCycle_side
      simp only [Segment.side, Prod.mk.injEq] at h
      obtain ⟨-, -, -, -, -, h, -⟩ := h
      exact h
    · rfl
  by_cases he : g.everLocked = true
  · have h : g.enterLocked detail = (g.lockedAt detail).beginHeld.beginHeldSweep := by
      unfold Segment.enterLocked
      exact if_pos he
    rw [h, ← hheld]
    exact hsweep _
  · rw [Segment.enterLocked_examines (Bool.eq_false_iff.mpr he)]
    unfold Segment.examineHead
    split <;> exact ⟨rfl, rfl⟩

/-- The cycle once it has begun with the read of its first entry (R69, R71). -/
def Cycle.begunWithEntry (c : Cycle) (period : Nat) : Cycle :=
  { c with
    number := c.number + 1, state := .running, index := 0, expired := false, held := false,
    timer := if period = 0 then .stopped else .running period, point := .inEntry, pause := .none, losses := 0, attempt := 0 }

/-- A held begin in a segment with a poll list reads the first entry. -/
theorem Segment.kick_beginsEntry {g : Segment} (hw : g.working = true) (hu : g.unit = .none)
    (hp : g.cycle.point = .notBegun) (hh : g.cycle.held = true) (hn : g.blk.pollLength ≠ 0) :
    g.kick = { g with
      unit := .entry .begin, waits := { g.waits with unit := some ⟨.entryRead, g.blk.pollList, 2, []⟩ },
      cycle := g.cycle.begunWithEntry g.blk.period.toNat } := by
  have ht : g.testOpportunity = g := by
    unfold Segment.testOpportunity
    rw [if_neg]
    simp [hp]
  have hb : g.beginDue = g.beginCycle := by
    unfold Segment.beginDue
    rw [if_pos ⟨hu, .inl hh⟩]
  have hpos : 0 < g.pollLength := by
    unfold Segment.pollLength
    refine Nat.pos_of_ne_zero fun c => hn ?_
    exact BitVec.eq_of_toNat_eq c
  have hcyc : g.beginCycle = { g with cycle := { g.cycle with
      number := g.cycle.number + 1, state := .running, index := 0, expired := false, held := false,
      timer := if g.blk.period.toNat = 0 then .stopped else .running g.blk.period.toNat, point := .entryDue } } := by
    unfold Segment.beginCycle
    exact if_pos hpos
  have haddr : slotAt g.blk.pollList 2 0 = g.blk.pollList := BitVec.add_zero _
  unfold Segment.kick
  rw [if_pos ⟨hw, hu⟩, ht, hb, hcyc]
  unfold Segment.dispatch
  refine (if_pos hu).trans ?_
  rw [← haddr]
  rfl

end Sys2Proof.Machine

/-! The settle expiry and the quiet interval (R28, R30, R31, R105, R143, R145). -/

namespace Sys2Proof.Machine

/-! ## The segment as it leaves SETTLING -/

/-- What the table of R28 makes of a segment unit that leaves SETTLING. -/
theorem Segment.leaveSettling_parts {g : Segment} (hs : g.state = .settling) :
    g.leaveSettling.state = (if g.line.stalled then .stalled else if g.blk.acq = 0 then .locked else .acquiring)
      ∧ g.leaveSettling.faultHeld = g.faultHeld ∧ g.leaveSettling.run = g.run
      ∧ g.leaveSettling.supply.level = g.supply.level ∧ g.leaveSettling.supply.timer = g.supply.timer
      ∧ g.leaveSettling.waits.control = some g.progressWait
      ∧ g.leaveSettling.prWait = g.prWait ++
          (if g.line.stalled then [⟨.lineStall, 0⟩] else if g.blk.acq = 0 then [⟨.segmentLocked, 0⟩] else [])
      ∧ (g.line.stalled = false → g.blk.acq ≠ 0 → g.leaveSettling.good = 0) := by
  unfold Segment.leaveSettling
  by_cases ht : g.line.stalled = true
  · simp only [if_pos ht]
    rw [Segment.enterStalled_unlocked (by simp [hs])]
    exact ⟨rfl, rfl, rfl, rfl, rfl, rfl, rfl, fun c => by simp [ht] at c⟩
  · simp only [if_neg ht]
    by_cases ha : g.blk.acq = 0
    · simp only [if_pos ha]
      obtain ⟨-, hctl, -, hrun, hpr, hcontrol⟩ := g.enterLocked_locksAs 0
      simp only [Segment.ctl, Prod.mk.injEq] at hctl
      obtain ⟨hstate, -, hheld, -⟩ := hctl
      obtain ⟨hlevel, htimer⟩ := g.enterLocked_supply 0
      refine ⟨hstate, hheld, hrun, hlevel, htimer, ?_, hpr, fun _ c => absurd ha c⟩
      rw [hcontrol rfl]
      unfold Segment.progressWait Segment.blk
      rw [hrun]
      rfl
    · simp only [if_neg ha]
      rw [Segment.enterAcquiring_counts ha]
      exact ⟨rfl, rfl, rfl, rfl, rfl, rfl, rfl, fun _ _ => rfl⟩

/-- The epilogue of an event after which a segment is STALLED, LOCKED or ACQUIRING. -/
theorem State.afterEvent_running {s : State} {k : Seg} {g : Segment} (ns : List Notice) (hf : g.faultHeld = none)
    (h : g.state = .stalled ∨ g.state = .locked ∨ g.state = .acquiring) (hc : g.waits.control = some g.progressWait) :
    ((s.afterEvent k g ns).segs.get k).state = g.state
      ∧ ((s.afterEvent k g ns).segs.get k).supply = g.supply ∧ ((s.afterEvent k g ns).segs.get k).good = g.good
      ∧ ((s.afterEvent k g ns).segs.get k).prWait = g.prWait
      ∧ ((s.afterEvent k g ns).segs.get k).waits.control = some g.progressWait := by
  have hoff : g.state ≠ .stopped ∧ g.state ≠ .faulted ∧ g.state ≠ .stopping := by
    rcases h with h | h | h <;> simp [h]
  obtain ⟨h1, h2, h3⟩ := hoff
  obtain ⟨hsup, hgood⟩ := Work.finish_supply (w := s.workWith k g ns) (Segment.live_of h1 h2 hf) h3
  obtain ⟨hrun, hpr, hctrl⟩ := Work.finish_keepsRecord (w := s.workWith k g ns) hf
  have hctl := Work.finish_ctl (w := s.workWith k g ns) hf
  simp only [Segment.ctl, Prod.mk.injEq] at hctl
  rw [State.afterEvent_seg]
  refine ⟨hctl.1, hsup, hgood, hpr, (hctrl hc).trans ?_⟩
  unfold Segment.progressWait Segment.blk
  rw [hrun]
  rfl

/-! ## The settle expiry -/

/-- The level of a sample, from the thresholds of the steps that the comparators are set to (R143, R146). -/
theorem levelOf_read (p : Supply) (mv : Nat) : levelOf (p.read mv)
    = if mv < 17000 + 1000 * p.weakCmp then .weak else if mv < 17000 + 1000 * p.lowCmp then .low else .ok := by
  unfold levelOf Supply.read Config.threshold
  by_cases hw : 17000 + 1000 * p.weakCmp ≤ mv
  · by_cases hl : 17000 + 1000 * p.lowCmp ≤ mv
    · simp [hw, hl, Nat.not_lt.mpr hw, Nat.not_lt.mpr hl]
    · simp [hw, hl, Nat.not_lt.mpr hw, Nat.lt_of_not_le hl]
  · simp [hw, Nat.lt_of_not_le hw]

theorem Work.sampleAt_level (w : Work) (mv : Nat) : (w.sampleAt mv).seg.supply.level = levelOf (w.seg.supply.read mv) := by
  unfold Work.sampleAt Work.sample
  dsimp only
  split <;> rfl

/-- The segment unit as the settle expiry finds it once the first sample is taken, p being the supply monitor after it. -/
def Segment.sampled (g : Segment) (p : Supply) : Segment := { g with supply := { p with timer := .running 500 } }

/-- A settle expiry takes the first sample, and the segment leaves SETTLING with it. -/
theorem exec_settleExpiry {s : State} {k : Seg} {g : Segment} (mv : Nat) (hg : s.segs.get k = g) (hf : g.faultHeld = none)
    (hs : g.state = .settling) :
    (∃ p, ((s.work k).sampleAt mv).seg = { g with supply := p })
      ∧ exec (.settleExpiry k mv) s = .next (s.afterEvent k
        (g.sampled ((s.work k).sampleAt mv).seg.supply).leaveSettling ((s.work k).sampleAt mv).notices) := by
  subst hg
  obtain ⟨p, ns, hsample, -⟩ := (s.work k).sampleAt_frame mv
  have hl : (s.segs.get k).live = true := Segment.live_of (by simp [hs]) (by simp [hs]) hf
  refine ⟨⟨p, by rw [hsample]; rfl⟩, ?_⟩
  show State.workEvent s k (fun w => w.settleExpiry mv) = _
  refine State.workEvent_after ?_
  unfold Work.settleExpiry
  refine (if_pos ⟨hl, hs⟩).trans ?_
  rw [hsample]
  rfl

/-- Outside SETTLING a settle expiry does not arise. -/
theorem exec_settleExpiry_off {s : State} {k : Seg} (mv : Nat) (hs : (s.segs.get k).state ≠ .settling) :
    exec (.settleExpiry k mv) s = .next (s.afterEvent k (s.segs.get k) []) := by
  show State.workEvent s k (fun w => w.settleExpiry mv) = _
  refine State.workEvent_after ?_
  unfold Work.settleExpiry
  exact if_neg fun c => hs c.2

/-! ## The quiet interval -/

/-- A quiet interval in ACQUIRING on an idle line locks the segment; any other has no effect. -/
theorem exec_quietInterval {s : State} {k : Seg} (hf : (s.segs.get k).faultHeld = none)
    (hs : (s.segs.get k).state = .acquiring) (hi : (s.segs.get k).line.idle = true) :
    exec (.quietInterval k) s = .next (s.afterEvent k ((s.segs.get k).enterLocked 2) []) := by
  refine exec_after (f := Segment.quiet) rfl rfl ?_
  unfold Segment.quiet
  exact if_pos ⟨Segment.live_of (by simp [hs]) (by simp [hs]) hf, hs, hi⟩

theorem exec_quietInterval_off {s : State} {k : Seg}
    (h : (s.segs.get k).state ≠ .acquiring ∨ (s.segs.get k).line.idle = false) :
    exec (.quietInterval k) s = .next (s.afterEvent k (s.segs.get k) []) := by
  refine exec_after (f := Segment.quiet) rfl rfl ?_
  unfold Segment.quiet
  refine if_neg ?_
  rintro ⟨-, hs, hi⟩
  rcases h with h | h
  · exact h hs
  · simp [h] at hi

theorem Segment.examineHead_none {g : Segment} (h : g.blk.chainHead = 0) : g.examineHead = g := if_pos h

/-- The examination of the chain head (R105). -/
theorem Segment.examineHead_reads {g : Segment} (h : g.blk.chainHead ≠ 0) :
    g.examineHead = { g with
      req := { g.req with
        chain := .exam, scanTimer := if g.scanInterval = 0 then .stopped else .running g.scanInterval.toNat },
      waits := { g.waits with chain := some ⟨.headState, g.blk.chainHead + 0x0E, 1, []⟩ } } := if_neg h

/-- The first lock of a run in a segment with a poll list (R31, R69, R105). -/
theorem State.afterEvent_firstLock {s : State} {k : Seg} {g : Segment} (detail : Byte) (hf : g.faultHeld = none)
    (he : g.everLocked = false) (hu : g.unit = .none) (hp : g.cycle.point = .notBegun) (hn : g.blk.pollLength ≠ 0) :
    ((s.afterEvent k (g.enterLocked detail) []).segs.get k).cycle = g.cycle.begunWithEntry g.blk.period.toNat
      ∧ ((s.afterEvent k (g.enterLocked detail) []).segs.get k).waits.unit = some ⟨.entryRead, g.blk.pollList, 2, []⟩
      ∧ (g.blk.chainHead ≠ 0 →
        ((s.afterEvent k (g.enterLocked detail) []).segs.get k).waits.chain
            = some ⟨.headState, g.blk.chainHead + 0x0E, 1, []⟩
          ∧ ((s.afterEvent k (g.enterLocked detail) []).segs.get k).req.scanTimer
            = if g.scanInterval = 0 then .stopped else .running g.scanInterval.toNat) := by
  let v : Segment := { g.lockedAt detail with everLocked := true, cycle := { g.cycle with held := true } }
  have hv : g.enterLocked detail = v.examineHead := Segment.enterLocked_examines he detail
  have hex : v.examineHead.state = .locked ∧ v.examineHead.faultHeld = none ∧ v.examineHead.unit = .none
      ∧ v.examineHead.run = g.run ∧ v.examineHead.cycle = { g.cycle with held := true } := by
    unfold Segment.examineHead
    split <;> exact ⟨rfl, hf, hu, rfl, rfl⟩
  obtain ⟨e1, e2, e3, e4, e5⟩ := hex
  have hblk : v.examineHead.blk = g.blk := congrArg (fun r => r.getD SegBlock.blank) e4
  obtain ⟨x, hx⟩ := Segment.lostDue_noUnit e3
  have hkick : v.examineHead.lostDue.kick = { v.examineHead with
      xact := x, unit := .entry .begin,
      waits := { v.examineHead.waits with unit := some ⟨.entryRead, v.examineHead.blk.pollList, 2, []⟩ },
      cycle := v.examineHead.cycle.begunWithEntry v.examineHead.blk.period.toNat } := by
    rw [hx]
    refine Segment.kick_beginsEntry ?_ e3 ?_ ?_ ?_
    · simp [Segment.working, e1, e2]
    · exact (congrArg Cycle.point e5).trans hp
    · exact congrArg Cycle.held e5
    · rw [← hblk] at hn
      exact hn
  obtain ⟨l, r, q, x', n, u, hfin, hq⟩ := Work.finish_lockedFrame (w := s.workWith k v.examineHead []) e2 e1
  rw [State.workWith_seg, hkick] at hfin hq
  rw [State.afterEvent_seg, hv, hfin]
  refine ⟨?_, ?_, fun hc => ⟨?_, ?_⟩⟩
  · dsimp only
    rw [hblk, e5]
    rfl
  · dsimp only
    rw [hblk]
  · exact congrArg (fun h : Segment => h.waits.chain) (Segment.examineHead_reads (g := v) hc)
  · exact hq.trans (congrArg (fun h : Segment => h.req.scanTimer) (Segment.examineHead_reads (g := v) hc))

/-! ## The obligation -/

/-- Settles O41: the settle expiry by the table of R28, the examination of the chain head, and the quiet interval. -/
theorem settlingAndQuietIntervalLock : Obligations.SettlingAndQuietIntervalLock := by
  refine ⟨fun s k g mv hg hf => ⟨fun hs => ?_, fun w u hs hw hu => ?_, fun hs => ?_⟩,
    fun g => ⟨Segment.examineHead_none, Segment.examineHead_reads⟩, fun s k g hg hf => ⟨fun hs hi => ?_, fun h => ?_⟩⟩
  · obtain ⟨⟨p, hseg⟩, hex⟩ := exec_settleExpiry mv hg hf hs
    have hlevel : p.level = levelOf (g.supply.read mv) := by
      have h := (s.work k).sampleAt_level mv
      rw [hseg] at h
      rw [← hg]
      exact h
    rw [hseg] at hex
    obtain ⟨u1, u2, u3, u4, u5, u6, u7, u8⟩ := Segment.leaveSettling_parts (g := g.sampled p) hs
    have hrun : (g.sampled p).leaveSettling.state = .stalled ∨ (g.sampled p).leaveSettling.state = .locked
        ∨ (g.sampled p).leaveSettling.state = .acquiring := by
      rw [u1]
      split
      · exact .inl rfl
      · split
        · exact .inr (.inl rfl)
        · exact .inr (.inr rfl)
    have hwait : (g.sampled p).leaveSettling.progressWait = g.progressWait := by
      unfold Segment.progressWait Segment.blk
      rw [u3]
      rfl
    obtain ⟨r1, r2, r3, r4, r5⟩ := State.afterEvent_running (s := s) (k := k) ((s.work k).sampleAt mv).notices
      (u2.trans hf) hrun (by rw [hwait]; exact u6)
    refine ⟨_, hex, r1.trans u1, ?_, (congrArg Supply.timer r2).trans u5, r5.trans (congrArg some hwait), r4.trans u7,
      fun h1 h2 => r3.trans (u8 h1 h2)⟩
    rw [r2, u4, ← levelOf_read, ← hlevel]
    rfl
  · obtain ⟨⟨p, hseg⟩, hex⟩ := exec_settleExpiry mv hg hf hs
    obtain rfl : w = (s.work k).sampleAt mv := by subst hg; exact hw
    rw [hex]
    rw [hseg] at hu ⊢
    subst hu
    refine ⟨fun ht => ?_, fun ht ha => ?_, fun ht ha he => ?_⟩
    · have h : (g.sampled p).leaveSettling = (g.sampled p).stalledNow :=
        (if_pos ht).trans (Segment.enterStalled_unlocked (by simp [Segment.sampled, hs]))
      rw [h]
      rfl
    · have h : (g.sampled p).leaveSettling = (g.sampled p).enterAcquiring [] :=
        (if_neg (by simp [Segment.sampled, ht])).trans (if_neg ha)
      rw [h, Segment.enterAcquiring_counts (g := g.sampled p) ha, List.append_nil]
      rfl
    · have h : (g.sampled p).leaveSettling = (g.sampled p).enterLocked 0 :=
        (if_neg (by simp [Segment.sampled, ht])).trans (if_pos ha)
      rw [h, Segment.enterLocked_examines (g := g.sampled p) he]
      rfl
  · subst hg
    exact exec_settleExpiry_off mv hs
  · subst hg
    obtain ⟨h1, h2, h3, h4, -⟩ := State.afterEvent_enterLocked s k (detail := 2) hf
    refine ⟨_, exec_quietInterval hf hs hi, h1, h2, h3, h4, fun he hu hp hn => ?_⟩
    obtain ⟨hcyc, hunit, hchain⟩ := State.afterEvent_firstLock (s := s) (k := k) 2 hf he hu hp hn
    refine ⟨congrArg Cycle.number hcyc, congrArg Cycle.index hcyc, (congrArg Cycle.timer hcyc).trans ?_, hunit, hchain⟩
    unfold Cycle.begunWithEntry
    simp only [← BitVec.toNat_inj]
    rfl
  · subst hg
    exact exec_quietInterval_off h

end Sys2Proof.Machine

/-! The read of the segment block (R26, R27, R172, R175, R176): its checks in order, and how the start ends. -/

namespace Sys2Proof.Machine

/-! ## Numbered checks -/

/-- The checks of the list are numbered from a, and each fails exactly where the condition of its number does not hold. -/
def NumberedChecks (P : Nat → Prop) : Nat → List (Nat × Bool) → Prop
  | _, [] => True
  | a, (i, bad) :: rest => i = a ∧ (bad = false ↔ P a) ∧ NumberedChecks P (a + 1) rest

theorem NumberedChecks.firstFail_none {P : Nat → Prop} {l : List (Nat × Bool)} {a : Nat} (h : NumberedChecks P a l) :
    firstFail l = none ↔ ∀ m, a ≤ m → m < a + l.length → P m := by
  induction l generalizing a with
  | nil => exact ⟨fun _ m h1 h2 => absurd h2 (Nat.not_lt.mpr h1), fun _ => rfl⟩
  | cons c rest ih =>
    obtain ⟨i, bad⟩ := c
    obtain ⟨rfl, hbad, hrest⟩ := h
    unfold firstFail
    rw [List.length_cons]
    cases bad with
    | true =>
      rw [if_pos rfl]
      refine ⟨(fun c => by cases c), fun hall => ?_⟩
      have := hbad.mpr (hall i le_rfl (by omega))
      cases this
    | false =>
      rw [if_neg Bool.false_ne_true, ih hrest]
      refine ⟨fun hall m h1 h2 => ?_, fun hall m h1 h2 => hall m (by omega) (by omega)⟩
      rcases Nat.eq_or_lt_of_le h1 with rfl | h1
      · exact hbad.mp rfl
      · exact hall m h1 (by omega)

theorem NumberedChecks.firstFail_some {P : Nat → Prop} {l : List (Nat × Bool)} {a n : Nat} (h : NumberedChecks P a l) :
    firstFail l = some n ↔ (a ≤ n ∧ n < a + l.length) ∧ ¬P n ∧ ∀ m, a ≤ m → m < n → P m := by
  induction l generalizing a with
  | nil =>
    refine ⟨(fun c => by cases c), fun ⟨⟨h1, h2⟩, _⟩ => absurd h2 (Nat.not_lt.mpr h1)⟩
  | cons c rest ih =>
    obtain ⟨i, bad⟩ := c
    obtain ⟨rfl, hbad, hrest⟩ := h
    unfold firstFail
    rw [List.length_cons]
    cases bad with
    | true =>
      have hp : ¬P i := fun c => by cases hbad.mpr c
      rw [if_pos rfl, Option.some_inj]
      refine ⟨?_, fun ⟨⟨h1, _⟩, _, hall⟩ => ?_⟩
      · rintro rfl
        exact ⟨⟨le_rfl, by omega⟩, hp, fun m h1 h2 => absurd h2 (Nat.not_lt.mpr h1)⟩
      · by_contra hne
        exact hp (hall i le_rfl (by omega))
    | false =>
      have hp : P i := hbad.mp rfl
      rw [if_neg Bool.false_ne_true, ih hrest]
      refine ⟨fun ⟨⟨h1, h2⟩, hn, hall⟩ => ⟨⟨by omega, by omega⟩, hn, fun m h3 h4 => ?_⟩,
        fun ⟨⟨h1, h2⟩, hn, hall⟩ => ⟨⟨?_, by omega⟩, hn, fun m h3 h4 => hall m (by omega) h4⟩⟩
      · rcases Nat.eq_or_lt_of_le h3 with rfl | h3
        · exact hp
        · exact hall m h3 h4
      · rcases Nat.eq_or_lt_of_le h1 with rfl | h1
        · exact absurd hp hn
        · exact h1

/-! ## The checks of the segment block -/

theorem aligned16_iff (a : Word) : aligned16 a = true ↔ a.toNat % 16 = 0 := by
  unfold aligned16
  rw [beq_iff_eq, ← BitVec.toNat_inj, BitVec.extractLsb'_toNat]
  simp

theorem insideWindow_iff (low high a : Word) (n : Nat) : insideWindow low high a n = true ↔ Inside low high a n := by
  unfold insideWindow Inside
  simp

theorem badAddress_iff (a : Byte) : badAddress a = false ↔ DeviceAddress a := by
  unfold badAddress DeviceAddress
  rw [Bool.or_eq_false_iff, beq_eq_false_iff_ne, decide_eq_false_iff_not, ne_eq, ← BitVec.toNat_inj]
  simp
  omega

theorem even_iff_getLsbD (a : Word) : a.getLsbD 0 = false ↔ a.toNat % 2 = 0 := by
  rw [← BitVec.testBit_toNat, Nat.testBit_zero, decide_eq_false_iff_not, Nat.mod_two_not_eq_one]

theorem toNat_eq_zero_iff {n : Nat} (a : BitVec n) : a.toNat = 0 ↔ a = 0 := by
  rw [← BitVec.toNat_inj]
  rfl

/-- The 23 checks are the conditions of R175 and R176, in their order. -/
theorem segChecks_numbered (low high : Word) (b : SegBlock) :
    NumberedChecks (SegmentBlockMeets low high b) 1 (segChecks low high b) := by
  unfold segChecks
  dsimp only
  refine ⟨rfl, ?_, rfl, ?_, rfl, ?_, rfl, ?_, rfl, ?_, rfl, ?_, rfl, ?_, rfl, ?_, rfl, ?_, rfl, ?_, rfl, ?_, rfl, ?_, rfl, ?_,
    rfl, ?_, rfl, ?_, rfl, ?_, rfl, ?_, rfl, ?_, rfl, ?_, rfl, ?_, rfl, ?_, rfl, ?_, rfl, ?_, trivial⟩
  all_goals
    simp only [SegmentBlockMeets, Bool.or_eq_false_iff, Bool.and_eq_false_imp, decide_eq_false_iff_not, decide_eq_true_eq,
      Bool.not_eq_false', badAddress_iff, aligned16_iff, insideWindow_iff, even_iff_getLsbD, beq_eq_false_iff_ne, bne_iff_ne,
      ne_eq, Nat.not_lt, Nat.one_le_iff_ne_zero, Nat.pos_iff_ne_zero, toNat_eq_zero_iff, and_assoc]
/-- No condition has another number. -/
theorem SegmentBlockMeets_other {low high : Word} {b : SegBlock} {n : Nat} (h : n = 0 ∨ 24 ≤ n) :
    SegmentBlockMeets low high b n := by
  unfold SegmentBlockMeets
  split
  case h_24 => trivial
  all_goals omega

theorem segCheck_eq_some (low high : Word) (b : SegBlock) (n : Nat) : segCheck low high b = some n
    ↔ ¬SegmentBlockMeets low high b n ∧ ∀ m, m < n → SegmentBlockMeets low high b m := by
  unfold segCheck
  rw [(segChecks_numbered low high b).firstFail_some]
  show (1 ≤ n ∧ n < 24) ∧ _ ↔ _
  refine ⟨fun ⟨_, hn, hall⟩ => ⟨hn, fun m hm => ?_⟩, fun ⟨hn, hall⟩ => ⟨?_, hn, fun m _ hm => hall m hm⟩⟩
  · rcases Nat.eq_zero_or_pos m with h | h
    · exact SegmentBlockMeets_other (.inl h)
    · exact hall m h hm
  · by_contra hout
    exact hn (SegmentBlockMeets_other (by omega))

theorem segCheck_eq_none (low high : Word) (b : SegBlock) : segCheck low high b = none
    ↔ ∀ n, SegmentBlockMeets low high b n := by
  unfold segCheck
  rw [(segChecks_numbered low high b).firstFail_none]
  refine ⟨fun hall n => ?_, fun hall n _ _ => hall n⟩
  by_cases hn : n = 0 ∨ 24 ≤ n
  · exact SegmentBlockMeets_other hn
  · refine hall n (by omega) ?_
    show n < 24
    omega

/-! ## Bytes of a response -/

theorem rdByte_of_get {d : List Byte} {i : Nat} {b : Byte} (h : d[i]? = some b) : rdByte d i = b := by
  unfold rdByte
  rw [h]

/-! ## The end of a start -/

theorem Work.accessDone_segBlock {w : Work} {a : Access} (h : a.op = .segBlock) (d : List Byte) :
    w.accessDone a d = w.segBlockDone d := by
  unfold Work.accessDone
  rw [h]

/-- A start that faults (R26). -/
theorem Work.startFault_eq (w : Work) (code : FaultCode) (check : Byte) (ref : Word) :
    w.startFault code check ref = { w with
      seg := { w.seg with state := .faulted, starting := false, fault := code },
      notices := w.notices
        ++ [⟨.segmentFault, BitVec.ofNat 8 w.k.toNat, check, 0, BitVec.ofNat 8 code.code, w.seg.cycle.number, ref⟩] } := rfl

/-- The segment unit at its entry to SETTLING (R27): the started unit, with its progress record write asked for. -/
def Segment.settlingNow (g : Segment) (b : SegBlock) : Segment :=
  { g.started b with waits := { Waits.empty with control := some ⟨.progress, b.progress, 0, []⟩ } }

theorem Segment.settlingNow_calm (g : Segment) (b : SegBlock) : (g.settlingNow b).calm :=
  ⟨rfl, by simp [Segment.settlingNow, Segment.started], by simp [Segment.settlingNow, Segment.started, Segment.reset],
    by simp [Segment.settlingNow, Segment.started, Segment.reset], (fun c => by cases c), rfl, rfl, rfl⟩

/-- The segment block read of a start whose block passes. -/
theorem exec_segBlock_passes {s : State} {k : Seg} {a : Access} {d : List Byte} (ha : s.serves k .control a)
    (hop : a.op = .segBlock) (hc : segCheck s.port.windowLow s.port.windowHigh (parseSegBlock d) = none) :
    exec (.accessComplete d) s = .next (s.freePort.afterEvent k ((s.segs.get k).settlingNow (parseSegBlock d)) []) := by
  refine exec_accessComplete_after ha ?_
  rw [Work.accessDone_segBlock hop]
  unfold Work.segBlockDone
  dsimp only
  rw [show segCheck (s.freePort.work k).low (s.freePort.work k).high (parseSegBlock d) = none from hc]
  rfl

/-- Settles O45: the start that faults, the one that enters SETTLING, and the checks and the layout of the block. -/
theorem segmentBlockReadEndsStart : Obligations.SegmentBlockReadEndsStart := by
  refine ⟨fun s k g a ha hop hg hs hst => ⟨fun d n hc => ?_, ?_⟩, fun s k g a d ha hop hg hs hst hc => ?_,
    fun low high b => ⟨segCheck_eq_some low high b, segCheck_eq_none low high b, fun d =>
      ⟨rfl, fun i => ⟨fun b => rdByte_of_get, rfl, rfl⟩⟩⟩⟩
  · subst hg
    refine exec_accessComplete_after ha ?_
    rw [Work.accessDone_segBlock hop]
    unfold Work.segBlockDone
    dsimp only
    rw [show segCheck (s.freePort.work k).low (s.freePort.work k).high (parseSegBlock d) = some n from hc]
    exact Work.startFault_eq _ _ _ _
  · subst hg
    refine exec_errorResponse_after ha ?_
    unfold Work.accessError
    rw [if_neg (by simp [Segment.readUnwanted, hop]), hop]
    exact Work.startFault_eq _ _ _ _
  · subst hg
    have hex := exec_segBlock_passes ha hop hc
    have hv : s.freePort.afterEvent k ((s.segs.get k).settlingNow (parseSegBlock d)) []
        = (s.freePort.takeSeg k ((s.segs.get k).settlingNow (parseSegBlock d))).settle :=
      State.afterEvent_calmRaises _ _ _ (Segment.settlingNow_calm _ _)
    refine ⟨_, hex, ?_, (s.segs.get k).settlingNow (parseSegBlock d), ?_, rfl, rfl, rfl, rfl, rfl, rfl, rfl, rfl, rfl, rfl, rfl,
      rfl, rfl, rfl, rfl, rfl, rfl, rfl, rfl, rfl, rfl, rfl, rfl, rfl, rfl, rfl, rfl, rfl, rfl⟩
    · rw [hv]
      exact (State.settle_frame _).2.2.2.2
    · rw [hv, State.settle_segs, State.takeSeg_segs, Four.get_put_same]

end Sys2Proof.Machine

/-! Faults of a segment (R39, R40, R158): an error response to one of its accesses, and the end of the frame that a fault has
waited for. -/

namespace Sys2Proof.Machine

/-! ## The entry to FAULTED -/

/-- The segment unit at its entry to FAULTED (R40), its work apart: ref is the reference word of its notice, and wide is set
when a device-wide stop is in force (R45). -/
def Segment.faultEntered (g : Segment) (ref : Word) (wide : Bool) : Segment :=
  { g with
    state := .faulted, line := .off, faultHeld := none, faultOwed := some ref, stopWrite := false,
    stopOwed := g.stopOwed || wide, waits := { g.waits with control := some g.progressWait }, prFault := false }

theorem Work.enterFaulted_eq (w : Work) (ref : Word) :
    w.enterFaulted ref = { w with seg := w.seg.faultEntered ref w.wide } := by
  unfold Work.enterFaulted Segment.reqProgress
  simp only [List.append_nil]
  rfl

/-- A fault held back is taken once the segment drives no frame. -/
theorem Work.finish_heldEnds {w : Work} {ref : Word} (hf : w.seg.faultHeld = some ref) (ht : w.seg.line.tx = none) :
    w.finish = { w with seg := w.seg.faultEntered ref w.wide } := by
  have hh : w.heldFault = { w with seg := w.seg.faultEntered ref w.wide } := by
    unfold Work.heldFault
    rw [hf, ← Work.enterFaulted_eq]
    exact if_pos (by simp [ht])
  unfold Work.finish
  dsimp only
  rw [hh, if_neg (by simp [Segment.live, Segment.faultEntered]), Work.stopCheck_other (by simp [Segment.faultEntered])]

/-- Until then nothing else happens in the segment. -/
theorem Work.finish_holds {w : Work} {ref : Word} (hf : w.seg.faultHeld = some ref) (ht : w.seg.line.tx.isSome = true) :
    w.finish = w := by
  have hh : w.heldFault = w := by
    unfold Work.heldFault
    rw [hf]
    exact if_neg (by rw [Option.isNone_iff_eq_none]; exact Option.isSome_iff_ne_none.mp ht)
  have hr : ¬w.stopReady = true := by
    unfold Work.stopReady
    simp [hf]
  unfold Work.finish
  dsimp only
  rw [hh, if_neg (by simp [Segment.live, hf]), Work.stopCheck_waits hr]

/-! ## An error response -/

/-- Reads whose error has no effect: an urgent read whose answer is decided or abandoned (R159, R130, R131). -/
theorem Segment.readUnwanted_iff (g : Segment) (op : Op) : g.readUnwanted op = true ↔ (op = .respRecord ∨ op = .inbMarkerUrgent)
    ∧ ¬∃ p, g.resp.pend = some p ∧ p.read = .live ∧ p.ans = .undecided := by
  have hl : g.urgentLive = true ↔ ∃ p, g.resp.pend = some p ∧ p.read = .live ∧ p.ans = .undecided := by
    unfold Segment.urgentLive
    cases g.resp.pend <;> simp
  rw [← hl, Bool.not_eq_true]
  unfold Segment.readUnwanted
  cases op <;> simp

/-- An error response to an access of a segment's work (R158). -/
theorem Work.accessError_fault {w : Work} {a : Access} (hw : w.seg.readUnwanted a.op = false) (hp : a.op ≠ .progress)
    (hb : a.op ≠ .segBlock) : w.accessError a = w.takeFault .memoryFault a.addr := by
  unfold Work.accessError
  rw [if_neg (by simp [hw])]
  split
  · exact absurd ‹a.op = .segBlock› hb
  · exact absurd ‹a.op = .progress› hp
  · rfl

/-! ## The end of a frame: the frame on the line and the owed move to STOPPED -/

/-- The frame on the line, and the move to STOPPED owed. -/
def Segment.owed (s : Segment) : Option Tx × Bool := (s.line.tx, s.stopOwed)

section
variable (s : Segment) (o : Ending) (p : Pause)

theorem Segment.decideEntry_owed (e : EntryUnit) : (s.decideEntry e o p).owed = s.owed := by
  unfold Segment.decideEntry; dsimp only; split <;> rfl

theorem Segment.tryComplete_owed (r : ReqUnit) : (s.tryComplete r).owed = s.owed := by
  unfold Segment.tryComplete
  repeat' split
  all_goals rfl

theorem Segment.decideReq_owed (r : ReqUnit) : (s.decideReq r o).owed = s.owed := by
  unfold Segment.decideReq
  exact (Segment.tryComplete_owed _ _).trans rfl

theorem Segment.finishUnit_owed : (s.finishUnit o p).owed = s.owed := by
  unfold Segment.finishUnit
  split
  · exact Segment.decideEntry_owed _ _ _ _
  · exact Segment.decideReq_owed _ _ _
  · rfl

theorem Segment.attemptEnds_owed : (s.attemptEnds o p).owed = s.owed := by
  unfold Segment.attemptEnds
  split
  · exact Segment.decideEntry_owed _ _ _ _
  · exact Segment.decideReq_owed _ _ _
  · rfl

theorem Segment.attemptFails_owed : (s.attemptFails o p).owed = s.owed := by
  unfold Segment.attemptFails
  repeat' split
  all_goals first | rfl | exact Segment.attemptEnds_owed _ _ _

theorem Segment.countLoss_owed : s.countLoss.owed = s.owed := by unfold Segment.countLoss; split <;> rfl

theorem Segment.workLost_owed : s.workLost.owed = s.owed := by
  unfold Segment.workLost
  split
  · dsimp only
    split <;> exact s.countLoss_owed
  · exact (Segment.finishUnit_owed _ _ _).trans s.countLoss_owed
  all_goals rfl

theorem Segment.workCollided_owed : s.workCollided.owed = s.owed := by
  unfold Segment.workCollided
  split
  · refine (Segment.attemptFails_owed _ _ _).trans ?_
    split <;> rfl
  · exact Segment.finishUnit_owed _ _ _
  all_goals rfl

theorem Segment.exchangeOver_owed : s.exchangeOver.owed = s.owed := by unfold Segment.exchangeOver; split <;> rfl

theorem Segment.workSent_owed (t : Tx) : (s.workSent t).owed = s.owed := by
  unfold Segment.workSent
  split
  · split
    · exact (Segment.attemptEnds_owed _ _ _).trans s.exchangeOver_owed
    · rfl
  · exact Segment.finishUnit_owed _ _ _
  all_goals rfl

theorem Segment.answerOver_owed (sent : Bool) : (s.answerOver sent).owed = s.owed := by
  have hrel : ∀ (l : Line) (b : Buf), (l.release b).tx = l.tx := by intro l b; cases b <;> rfl
  unfold Segment.answerOver
  repeat' split
  all_goals first | rfl | exact Prod.ext (hrel _ _) rfl

theorem Segment.lostPause_owed : s.lostPause.owed = s.owed := by
  rw [Segment.lostPause_eq]; rfl

end

/-- What the end of the segment's frame leaves of the segment unit: it drives none; the controller's values and an owed move
to STOPPED stay; and with no work and nothing owed by the responder, the accesses and the responder do. -/
structure Segment.frameOver (g v : Segment) : Prop where
  ctl : v.ctl = g.ctl
  owed : v.owed = (none, g.stopOwed)
  quiet : g.unit = .none → g.xact = .idle → g.resp.quiet → v.unit = g.unit ∧ v.resp = g.resp ∧ v.waits = g.waits

theorem Segment.answerOver_quiet {g : Segment} (h : g.resp.quiet) (sent : Bool) : g.answerOver sent = g := by
  unfold Segment.answerOver
  rw [h.1]

theorem Segment.transmitEnd_frameOver {g : Segment} {t : Tx} (ht : g.line.tx = some t) : g.frameOver g.transmitEnd := by
  let v := g.setLine { g.line with tx := none, idle := true, tracker := if t.kind.reserves then .reserved else g.line.tracker }
  have he : g.transmitEnd = if t.answer then (v.answerOver true).lostPause else v.workSent t := by
    unfold Segment.transmitEnd
    rw [ht]
  refine ⟨g.transmitEnd_ctl, ?_, fun hu hx hr => ?_⟩
  · rw [he]
    split
    · rw [Segment.lostPause_owed, Segment.answerOver_owed]; rfl
    · rw [Segment.workSent_owed]; rfl
  · rw [he]
    split
    · rw [Segment.answerOver_quiet (g := v) hr, Segment.lostPause_eq]
      exact ⟨rfl, rfl, rfl⟩
    · have hw : v.workSent t = v := by
        unfold Segment.workSent
        rw [show v.xact = .idle from hx]
      rw [hw]
      exact ⟨rfl, rfl, rfl⟩

theorem Segment.arbitrationLoss_frameOver {g : Segment} {t : Tx} (ht : g.line.tx = some t) (pos : Nat) (start : Bool) :
    g.frameOver (g.arbitrationLoss pos start) := by
  let v : Segment := { g.leaveLine t pos start with counters := { g.counters with arbLosses := g.counters.arbLosses + 1 } }
  have he : g.arbitrationLoss pos start = if t.answer then v.answerOver false else v.workLost := by
    unfold Segment.arbitrationLoss
    rw [ht]
    rfl
  refine ⟨g.arbitrationLoss_ctl pos start, ?_, fun hu hx hr => ?_⟩
  · rw [he]
    split
    · rw [Segment.answerOver_owed]; rfl
    · rw [Segment.workLost_owed]; rfl
  · rw [he]
    split
    · rw [Segment.answerOver_quiet (g := v) hr]
      exact ⟨rfl, rfl, rfl⟩
    · have hw : v.workLost = v := by
        unfold Segment.workLost
        rw [show v.xact = .idle from hx]
      rw [hw]
      exact ⟨rfl, rfl, rfl⟩

theorem Segment.collision_frameOver {g : Segment} {t : Tx} (ht : g.line.tx = some t) (pos : Nat) (start : Bool) :
    g.frameOver (g.collision pos start) := by
  let v := g.leaveLine t pos start
  have he : g.collision pos start = if t.answer then v.answerOver false else v.workCollided := by
    unfold Segment.collision
    rw [ht]
  refine ⟨g.collision_ctl pos start, ?_, fun hu hx hr => ?_⟩
  · rw [he]
    split
    · rw [Segment.answerOver_owed]; rfl
    · rw [Segment.workCollided_owed]; rfl
  · rw [he]
    split
    · rw [Segment.answerOver_quiet (g := v) hr]
      exact ⟨rfl, rfl, rfl⟩
    · have hw : v.workCollided = v := by
        unfold Segment.workCollided
        rw [show v.xact = .idle from hx]
      rw [hw]
      exact ⟨rfl, rfl, rfl⟩

/-- The end of the frame of a segment that holds a fault back. -/
theorem exec_frameOver {s : State} {k : Seg} {t : Tx} {c : Instr} (ht : (s.segs.get k).line.tx = some t)
    (hc : c = .transmitEnd k ∨ (∃ pos start, c = .arbitrationLoss k pos start) ∨ ∃ pos start, c = .collision k pos start) :
    ∃ v, (s.segs.get k).frameOver v ∧ exec c s = .next (s.afterEvent k v []) := by
  rcases hc with rfl | ⟨pos, start, rfl⟩ | ⟨pos, start, rfl⟩
  · exact ⟨_, Segment.transmitEnd_frameOver ht, exec_after (f := Segment.transmitEnd) rfl rfl rfl⟩
  · exact ⟨_, Segment.arbitrationLoss_frameOver ht pos start,
      exec_after (f := fun g => g.arbitrationLoss pos start) rfl rfl rfl⟩
  · exact ⟨_, Segment.collision_frameOver ht pos start, exec_after (f := fun g => g.collision pos start) rfl rfl rfl⟩

/-! ## The obligation -/

/-- A response leaves the port IDLE. -/
theorem State.freePort_onSeg_busy (s : State) (k : Seg) (f : Work → Work) :
    (s.freePort.onSeg k f).settle.port.busy = none := by
  rw [(State.settle_frame _).2.2.2.2, State.onSeg_port]
  unfold State.busAfter
  split <;> rfl

theorem State.work_wide (s : State) (k : Seg) : (s.work k).wide = (s.dev.disabling || s.dev.state == .faulted) :=
  Bool.or_comm _ _

/-- Settles O46: the fault at once, the fault held back, the unwanted reads, and the end of the frame waited for. -/
theorem segmentErrorFaultsSegment : Obligations.SegmentErrorFaultsSegment := by
  refine ⟨fun s k g src a ha hg hp hb hs hs' hf => ⟨fun hw ht => ?_, fun tx hw ht => ?_, fun hw => ?_,
    g.readUnwanted_iff a.op⟩, fun s k g tx ref c hg ht hf hc => ?_⟩
  · subst hg
    obtain ⟨d, hfault⟩ := Work.takeFault_now (w := s.freePort.work k) .memoryFault a.addr (Segment.live_of hs hs' hf) ht
    have hfin : ((s.freePort.work k).accessError a).finish = { s.freePort.work k with
        drop := d,
        seg := ((s.segs.get k).faultTaken .memoryFault).faultEntered a.addr (s.freePort.work k).wide } := by
      rw [Work.accessError_fault (w := s.freePort.work k) hw hp hb, hfault, Work.enterFaulted_eq]
      exact Work.finish_faulted rfl rfl
    have hseg : (s.freePort.onSeg k fun w => w.accessError a).settle.segs.get k
        = ((s.segs.get k).faultTaken .memoryFault).faultEntered a.addr (s.freePort.work k).wide := by
      rw [State.settle_segs, State.onSeg_segs, Four.get_put_same, hfin]
    refine ⟨_, exec_errorResponse ha, s.freePort_onSeg_busy k _, ?_⟩
    rw [hseg]
    refine ⟨rfl, rfl, rfl, rfl, ?_, rfl, rfl, rfl, rfl, rfl, rfl, rfl, rfl, rfl, rfl⟩
    rw [Bool.or_assoc, State.work_wide]
    rfl
  · subst hg
    have htx : (s.segs.get k).line.tx.isSome = true := by rw [ht]; rfl
    obtain ⟨d, hfault⟩ := Work.takeFault_held (w := s.freePort.work k) .memoryFault a.addr (Segment.live_of hs hs' hf) htx
    have hfin : ((s.freePort.work k).accessError a).finish = { s.freePort.work k with
        drop := d, seg := { (s.segs.get k).faultTaken .memoryFault with faultHeld := some a.addr } } := by
      rw [Work.accessError_fault (w := s.freePort.work k) hw hp hb, hfault]
      exact Work.finish_holds rfl htx
    have hseg : (s.freePort.onSeg k fun w => w.accessError a).settle.segs.get k
        = { (s.segs.get k).faultTaken .memoryFault with faultHeld := some a.addr } := by
      rw [State.settle_segs, State.onSeg_segs, Four.get_put_same, hfin]
    refine ⟨_, exec_errorResponse ha, ?_⟩
    rw [hseg]
    exact ⟨rfl, ht, rfl, rfl, rfl⟩
  · subst hg
    exact exec_errorResponse_after ha (if_pos hw)
  · subst hg
    obtain ⟨v, ⟨hctl, howed, hquiet⟩, hex⟩ := exec_frameOver ht hc
    simp only [Segment.ctl, Prod.mk.injEq] at hctl
    obtain ⟨-, -, hheld, hfault, hrun, -⟩ := hctl
    have htx : v.line.tx = none := congrArg Prod.fst howed
    have hstop : v.stopOwed = (s.segs.get k).stopOwed := congrArg Prod.snd howed
    have hwait : v.progressWait = (s.segs.get k).progressWait := by
      unfold Segment.progressWait Segment.blk
      rw [hrun]
    have hseg : (s.afterEvent k v []).segs.get k = v.faultEntered ref (s.work k).wide := by
      rw [State.afterEvent_seg, Work.finish_heldEnds (w := s.workWith k v []) (hheld.trans hf) htx]
      rfl
    refine ⟨_, hex, ?_⟩
    rw [hseg]
    refine ⟨rfl, hfault, rfl, rfl, rfl, ?_, congrArg some hwait, fun hu hx hr hwaits => ?_⟩
    · show (v.stopOwed || (s.work k).wide) = _
      rw [hstop, State.work_wide, Bool.or_assoc]
    · obtain ⟨q1, q2, q3⟩ := hquiet hu hx hr
      refine ⟨q1.trans hu, q2, ?_⟩
      show ({ v.waits with control := some v.progressWait } : Waits) = _
      rw [q3, hwaits, hwait]

end Sys2Proof.Machine

/-! The end of a progress record write (R38, R40, R41, R43, R45): the notices of the changes it covers, and the moves to STOPPED
and to FAULTED that wait for it. -/

namespace Sys2Proof.Machine

/-! ## Notices that find room -/

theorem State.raiseAll_room {s : State} {ns : List Notice} (hl : s.nw.lost = false)
    (hq : s.nw.queue.length + ns.length ≤ 8) :
    s.raiseAll ns = { s with nw := { s.nw with queue := s.nw.queue ++ ns } } := by
  induction ns generalizing s with
  | nil =>
    rw [List.append_nil]
    rfl
  | cons n ns ih =>
    rw [List.length_cons] at hq
    have hn := State.raise_room hl (by omega) n
    refine (ih (s := s.raise n) ?_ ?_).trans ?_
    · rw [hn]
      exact hl
    · rw [hn]
      show (s.nw.queue ++ [n]).length + ns.length ≤ 8
      rw [List.length_append, List.length_singleton]
      omega
    · rw [hn]
      show ({ s with nw := { s.nw with queue := s.nw.queue ++ [n] ++ ns } } : State) = _
      rw [List.append_assoc]
      rfl

/-- An event whose notices find room in the queue. -/
theorem State.onSeg_raises {s : State} {k : Seg} {f : Work → Work} {v : Work} {ns : List Notice}
    (hv : (f (s.work k)).finish = v) (hn : v.notices = ns) (hl : s.nw.lost = false)
    (hq : s.nw.queue.length + ns.length ≤ 8) :
    (s.onSeg k f).nw = { s.nw with queue := s.nw.queue ++ ns }
      ∧ (s.onSeg k f).attention
        = if v.segStop then s.attention ||| BitVec.ofNat 8 (2 ^ (4 + k.toNat)) else s.attention := by
  unfold State.onSeg State.commit
  rw [hv, hn]
  dsimp only
  rw [State.raiseAll_room (by exact hl) (by exact hq)]
  cases v.segStop <;> exact ⟨rfl, rfl⟩

/-! ## The end of the record write -/

/-- The notices of the changes that the record write on the bus covers (R43). -/
def State.changeNotices (s : State) (k : Seg) : List Notice :=
  (s.segs.get k).prBus.map fun c => s.segNotice k c.kind c.detail

theorem State.raiseChanges_eq (s : State) (k : Seg) : (s.work k).raiseChanges
    = { s.work k with notices := s.changeNotices k, seg := { s.segs.get k with prBus := [] } } := rfl

theorem Segment.prBus_nil {g : Segment} (h : g.prBus = []) : { g with prBus := [] } = g := by rw [← h]

theorem State.raiseChanges_none {s : State} {k : Seg} (h : (s.segs.get k).prBus = []) :
    (s.work k).raiseChanges = s.work k := by
  rw [State.raiseChanges_eq, Segment.prBus_nil h]
  unfold State.changeNotices
  rw [h]
  rfl

theorem Work.accessDone_progress {w : Work} {a : Access} (h : a.op = .progress) (d : List Byte) :
    w.accessDone a d = w.progressDone := by
  unfold Work.accessDone
  rw [h]

theorem Work.accessError_progress {w : Work} {a : Access} (h : a.op = .progress) :
    w.accessError a = w.progressFailed .memoryFault a.addr := by
  unfold Work.accessError
  rw [if_neg (by simp [Segment.readUnwanted, h]), h]

/-- The record write that carries STOPPED (R38). -/
theorem Work.progressDone_stops {w : Work} (hr : w.raiseChanges = w) (hf : w.seg.prFault = false)
    (hs : w.seg.stopWrite = true) :
    w.progressDone = (if w.mute then w else w.raiseSeg .segmentStopped 0 0).enterStopped := by
  unfold Work.progressDone
  dsimp only
  rw [hr, hf, hs]
  rfl

/-- The record write that follows the entry to FAULTED, completed or failed (R40). -/
theorem Work.progressDone_fault {w : Work} (hr : w.raiseChanges = w) (hf : w.seg.prFault = true) :
    w.progressDone = w.faultRecordEnded ∧ ∀ code ref, w.progressFailed code ref = w.faultRecordEnded := by
  unfold Work.progressDone Work.progressFailed
  dsimp only
  rw [hr, hf]
  exact ⟨rfl, fun _ _ => rfl⟩

theorem Work.faultRecordEnded_eq {w : Work} {ref : Word} (ho : w.seg.faultOwed = some ref) :
    w.faultRecordEnded = (if w.seg.stopOwed then
        ((w.raiseFault ref).on fun s => { s with faultOwed := none, prFault := false }).enterStopped
      else (w.raiseFault ref).on fun s => { s with faultOwed := none, prFault := false }) := by
  unfold Work.faultRecordEnded
  rw [ho]
  dsimp only
  rw [Work.on_seg, Work.raiseFault_seg]

theorem Work.raiseFault_raises {w : Work} (h : w.mute = false) (ref : Word) :
    w.raiseFault ref = w.raiseSeg .segmentFault (BitVec.ofNat 8 w.seg.fault.code) ref := by
  unfold Work.raiseFault
  rw [h]
  rfl

theorem Work.raiseFault_mute {w : Work} (h : w.mute = true) (ref : Word) : w.raiseFault ref = w := by
  unfold Work.raiseFault
  rw [h]
  rfl

/-- The response to the record write that follows the entry to FAULTED. -/
theorem exec_faultRecord {s : State} {k : Seg} {a : Access} {c : Instr} (ha : s.serves k .control a) (hop : a.op = .progress)
    (hf : (s.segs.get k).prFault = true) (hb : (s.segs.get k).prBus = [])
    (hc : c = .accessComplete [] ∨ c = .errorResponse) :
    ∃ f : Work → Work, exec c s = .next (s.freePort.onSeg k f).settle
      ∧ f (s.freePort.work k) = (s.freePort.work k).faultRecordEnded := by
  obtain ⟨hdone, hfail⟩ := Work.progressDone_fault (w := s.freePort.work k) (State.raiseChanges_none (s := s.freePort) hb) hf
  rcases hc with rfl | rfl
  · exact ⟨_, exec_accessComplete ha [], (Work.accessDone_progress hop []).trans hdone⟩
  · exact ⟨_, exec_errorResponse ha, (Work.accessError_progress hop).trans (hfail _ _)⟩

/-! ## A move to STOPPED -/

section
variable {s : State} {k : Seg} {f : Work → Work} {w : Work}

theorem State.onSeg_stopped_seg (hf : f (s.work k) = w.enterStopped) :
    (s.onSeg k f).settle.segs.get k = w.seg.stoppedNow := by
  rw [State.settle_segs, State.onSeg_segs, Four.get_put_same, hf, Work.enterStopped_finish, Work.enterStopped_eq]

/-- In READY, with room for the notices that it raises. -/
theorem State.onSeg_stopped_ready (hf : f (s.work k) = w.enterStopped) (hr : s.dev.state = .ready) (hl : s.nw.lost = false)
    (hq : s.nw.queue.length + w.notices.length ≤ 8) :
    (s.onSeg k f).settle.attention = s.attention ||| BitVec.ofNat 8 (2 ^ (4 + k.toNat))
      ∧ (s.onSeg k f).settle.nw.queue = s.nw.queue ++ w.notices := by
  have hv : (f (s.work k)).finish = { w with seg := w.seg.stoppedNow, segStop := true } := by
    rw [hf, Work.enterStopped_finish, Work.enterStopped_eq]
  obtain ⟨hnw, hatt⟩ := State.onSeg_raises hv rfl hl hq
  obtain ⟨b, hset⟩ := State.settle_nw (s := s.onSeg k f) (by rw [State.onSeg_dev]; exact hr)
  constructor
  · rw [(State.settle_frame _).2.2.2.1, hatt]
    rfl
  · rw [hset, hnw]

/-- In the stop of a notice writer's fault, which withholds the notices (R45). -/
theorem State.onSeg_stopped_faulted (hf : f (s.work k) = w.enterStopped) (hn : w.notices = [])
    (hr : s.dev.state = .faulted) (hd : s.dev.disableAsked = false) :
    (s.onSeg k f).settle.attention = s.attention ||| BitVec.ofNat 8 (2 ^ (4 + k.toNat))
      ∧ (s.onSeg k f).settle.nw = s.nw := by
  have hv : (f (s.work k)).finish = { w with seg := w.seg.stoppedNow, segStop := true } := by
    rw [hf, Work.enterStopped_finish, Work.enterStopped_eq]
  have hset : (s.onSeg k f).settle = s.onSeg k f :=
    State.settle_off (by rw [State.onSeg_dev, hr]; simp) (by rw [State.onSeg_dev]; exact fun _ => hd)
  rw [hset, State.onSeg_silent hv hn]
  exact ⟨rfl, rfl⟩

end

/-! ## The obligation -/

theorem State.work_mute (s : State) (k : Seg) : (s.work k).mute = (s.dev.state == .faulted) := rfl

/-- Settles O47: the changes, STOPPED, the fault's notice, the moves that wait for it, and the error response. -/
theorem progressRecordWriteCompletes : Obligations.ProgressRecordWriteCompletes := by
  refine ⟨fun s k g a ha hop hg hpf hsw => ?_, fun s k g a ha hop hg hst hsw hpf hb hr hl hq => ?_,
    fun s k g a ref ha hop hg hst hpf hb ho hso hr c hc => ?_,
    fun s k g a ref c ha hop hg hst hpf hb ho hso hc => ?_,
    fun s k g a ha hop hg hst hsw hpf hb hr hd => ?_,
    fun s k g a ha hop hg hpf h1 h2 hf hr hl hq => ?_⟩
  · subst hg
    refine exec_accessComplete_after ha ?_
    rw [Work.accessDone_progress hop]
    unfold Work.progressDone
    dsimp only
    rw [State.raiseChanges_eq]
    refine (if_neg (by simpa [State.freePort] using hpf)).trans ((if_neg (by simpa [State.freePort] using hsw)).trans rfl)
  · subst hg
    have hw : (s.freePort.work k).accessDone a [] = ((s.freePort.work k).raiseSeg .segmentStopped 0 0).enterStopped := by
      rw [Work.accessDone_progress hop, Work.progressDone_stops (State.raiseChanges_none (s := s.freePort) hb) hpf hsw]
      exact congrArg Work.enterStopped (if_neg (by rw [State.work_mute]; simp [State.freePort, hr]))
    have hseg := State.onSeg_stopped_seg (s := s.freePort) (f := fun w => w.accessDone a []) hw
    obtain ⟨hatt, hqueue⟩ := State.onSeg_stopped_ready (s := s.freePort) (f := fun w => w.accessDone a []) hw hr hl
      (by exact hq)
    refine ⟨_, exec_accessComplete ha [], ?_⟩
    rw [hseg]
    exact ⟨rfl, rfl, rfl, rfl, rfl, rfl, rfl, rfl, rfl, rfl, rfl, rfl, hatt, hqueue⟩
  · subst hg
    obtain ⟨f, hex, hfw⟩ := exec_faultRecord ha hop hpf hb hc
    have hmute : (s.freePort.work k).mute = false := by rw [State.work_mute]; simp [State.freePort, hr]
    have hend : f (s.freePort.work k) = { s.freePort.work k with
        seg := { s.segs.get k with faultOwed := none, prFault := false },
        notices := [{ s.segNotice k .segmentFault (BitVec.ofNat 8 (s.segs.get k).fault.code) with ref := ref }] } := by
      rw [hfw, Work.faultRecordEnded_eq (w := s.freePort.work k) ho, Work.raiseFault_raises hmute]
      exact if_neg (by show ¬(s.segs.get k).stopOwed = true; simp [hso])
    rw [hex]
    unfold State.afterEvent State.onSeg
    dsimp only
    rw [hend]
  · subst hg
    obtain ⟨f, hex, hfw⟩ := exec_faultRecord ha hop hpf hb hc
    rw [Work.faultRecordEnded_eq (w := s.freePort.work k) ho, if_pos (by exact hso)] at hfw
    have hseg := State.onSeg_stopped_seg hfw
    refine ⟨_, hex, ?_⟩
    rw [hseg, Work.on_seg, Work.raiseFault_seg]
    refine ⟨rfl, rfl, rfl, rfl, rfl, rfl, rfl, fun hr hl hq => ?_, fun hr hd => ?_⟩
    · have hmute : (s.freePort.work k).mute = false := by rw [State.work_mute]; simp [State.freePort, hr]
      rw [Work.raiseFault_raises hmute] at hfw
      exact State.onSeg_stopped_ready hfw hr hl (by exact hq)
    · have hmute : (s.freePort.work k).mute = true := by rw [State.work_mute]; simp [State.freePort, hr]
      rw [Work.raiseFault_mute hmute] at hfw
      exact State.onSeg_stopped_faulted hfw rfl hr hd
  · subst hg
    have hw : (s.freePort.work k).accessDone a [] = (s.freePort.work k).enterStopped := by
      rw [Work.accessDone_progress hop, Work.progressDone_stops (State.raiseChanges_none (s := s.freePort) hb) hpf hsw]
      exact congrArg Work.enterStopped (if_pos (by rw [State.work_mute]; simp [State.freePort, hr]))
    have hseg := State.onSeg_stopped_seg (s := s.freePort) (f := fun w => w.accessDone a []) hw
    obtain ⟨hatt, hnw⟩ := State.onSeg_stopped_faulted (s := s.freePort) (f := fun w => w.accessDone a []) hw rfl hr hd
    refine ⟨_, exec_accessComplete ha [], ?_⟩
    rw [hseg]
    exact ⟨rfl, rfl, hatt, hnw⟩
  · subst hg
    let w : Work := { s.freePort.work k with notices := s.changeNotices k, seg := { s.segs.get k with prBus := [] } }
    have hlen : s.freePort.nw.queue.length + w.notices.length ≤ 8 := by
      show s.nw.queue.length + (List.map _ _).length ≤ 8
      rw [List.length_map]
      exact hq
    have hlive : w.seg.live = true := Segment.live_of h1 h2 hf
    have herr : (s.freePort.work k).accessError a = w.takeFault .memoryFault a.addr := by
      rw [Work.accessError_progress hop]
      unfold Work.progressFailed
      dsimp only
      rw [State.raiseChanges_eq]
      exact if_neg (by simpa [State.freePort] using hpf)
    have hend : ∀ {v : Work}, ((s.freePort.work k).accessError a).finish = v → v.notices = w.notices →
        (s.freePort.onSeg k fun w => w.accessError a).settle.nw.queue = s.nw.queue ++ s.changeNotices k
          ∧ (s.freePort.onSeg k fun w => w.accessError a).settle.segs.get k = v.seg := by
      intro v hv hn
      obtain ⟨b, hset⟩ := State.settle_nw (s := s.freePort.onSeg k fun w => w.accessError a)
        (by rw [State.onSeg_dev]; exact hr)
      obtain ⟨hnw, -⟩ := State.onSeg_raises (s := s.freePort) (f := fun w => w.accessError a) hv hn hl hlen
      refine ⟨by rw [hset, hnw]; rfl, ?_⟩
      rw [State.settle_segs, State.onSeg_segs, Four.get_put_same, hv]
    cases ht : (s.segs.get k).line.tx with
    | none =>
      obtain ⟨d, hfault⟩ := Work.takeFault_now (w := w) .memoryFault a.addr hlive ht
      have hv : ((s.freePort.work k).accessError a).finish = { w with
          drop := d, seg := (w.seg.faultTaken .memoryFault).faultEntered a.addr w.wide } := by
        rw [herr, hfault, Work.enterFaulted_eq]
        exact Work.finish_faulted rfl rfl
      obtain ⟨hqueue, hseg⟩ := hend hv rfl
      refine ⟨_, exec_errorResponse ha, hqueue, s.freePort_onSeg_busy k _, ?_⟩
      rw [hseg]
      exact ⟨rfl, rfl, rfl, rfl, rfl, fun _ => ⟨rfl, rfl, rfl⟩, fun tx c => by cases c⟩
    | some x =>
      obtain ⟨d, hfault⟩ := Work.takeFault_held (w := w) .memoryFault a.addr hlive (by simp [w, ht])
      have hv : ((s.freePort.work k).accessError a).finish = { w with
          drop := d, seg := { w.seg.faultTaken .memoryFault with faultHeld := some a.addr } } := by
        rw [herr, hfault]
        exact Work.finish_holds rfl (Option.isSome_iff_exists.mpr ⟨x, ht⟩)
      obtain ⟨hqueue, hseg⟩ := hend hv rfl
      refine ⟨_, exec_errorResponse ha, hqueue, s.freePort_onSeg_busy k _, ?_⟩
      rw [hseg]
      exact ⟨rfl, rfl, rfl, rfl, rfl, (fun c => by cases c), fun tx h => ⟨rfl, ht.trans h, rfl⟩⟩

end Sys2Proof.Machine

/-! Health of a station (R48, R52, R60, R62, R63, R76): the status half that an entry writes, and the end of the entry with
that write. -/

namespace Sys2Proof.Machine

/-! ## The state that a status half carries (R52) -/

theorem healthOf_lost {threshold miss : Byte} {heard : Bool} (h : threshold.toNat ≤ miss.toNat) :
    healthOf threshold miss heard = .lost := if_pos h

/-- Below the threshold the first miss already makes the station SUSPECT. -/
theorem healthOf_suspect {threshold miss : Byte} {heard : Bool} (h0 : 1 ≤ miss.toNat) (h : miss.toNat < threshold.toNat) :
    healthOf threshold miss heard = .suspect := by
  unfold healthOf
  rw [if_neg (Nat.not_le.mpr h), if_pos (Nat.pos_of_ne_zero (Nat.one_le_iff_ne_zero.mp h0))]

/-- Without a miss the heard flag decides. -/
theorem healthOf_noMiss {threshold : Byte} {heard : Bool} (h : (0 : Byte).toNat < threshold.toNat) :
    healthOf threshold 0 heard = if heard then .active else .unknown := by
  unfold healthOf
  rw [if_neg (Nat.not_le.mpr h), if_neg (by decide)]

/-- The counts that an outcome changes and the state are one status half: the state is that of the counts written. -/
theorem EntryUnit.newStatus_state (e : EntryUnit) (o : Ending) (cycle : Word) :
    (e.newStatus o cycle).state
      = healthOf e.cfg.threshold (e.newStatus o cycle).miss (e.newStatus o cycle).heard := rfl

/-- Settles O58: the state written is healthOf of the counts written, and healthOf follows the table of R52. -/
theorem healthFollowsMissCount : Obligations.HealthFollowsMissCount := by
  refine ⟨?_, rfl⟩
  rintro e o cycle w rfl
  rw [EntryUnit.newStatus_state]
  refine ⟨healthOf_lost, healthOf_suspect, fun hm ht hh => ?_, fun hm ht hh => ?_⟩
  · rw [hm] at ht ⊢
    rw [healthOf_noMiss ht, hh]
    rfl
  · rw [hm] at ht ⊢
    rw [healthOf_noMiss ht, hh]
    rfl

/-! ## The end of the entry with its status write (R62, R63, R76) -/

/-- The reads of a poll entry and its status write are accesses of the entry in service. -/
theorem Work.accessDone_entry {w : Work} {e : EntryUnit} {a : Access} (hu : w.seg.unit = .entry e)
    (ho : a.op = .entryRead ∨ a.op = .stationRead ∨ a.op = .statusWrite) (d : List Byte) :
    w.accessDone a d = w.entryDone e a.op d := by
  unfold Work.accessDone
  rcases ho with ho | ho | ho <;> rw [ho] <;> dsimp only <;> rw [hu]

/-- The completion of such an access, where the entry only gives the segment unit a new value and raises notices. -/
theorem exec_entryDone {s : State} {k : Seg} {src : Source} {a : Access} {e : EntryUnit} {d : List Byte} {g : Segment}
    {ns : List Notice} {op : Op} (ha : s.serves k src a) (hu : (s.segs.get k).unit = .entry e) (hop : a.op = op)
    (ho : op = .entryRead ∨ op = .stationRead ∨ op = .statusWrite)
    (hd : (s.freePort.work k).entryDone e op d = { s.freePort.work k with seg := g, notices := ns }) :
    exec (.accessComplete d) s = .next (s.freePort.afterEvent k g ns) := by
  subst hop
  exact exec_accessComplete_after ha ((Work.accessDone_entry (w := s.freePort.work k) hu ho d).trans hd)

/-- The health notice that an entry with outcome o owes once its status half is written: STATION_LOST on the change into
LOST, STATION_BACK on the change from LOST to ACTIVE, and none without NOTIFY_HEALTH. -/
def EntryUnit.healthNotice (e : EntryUnit) (o : Ending) (k : Seg) (cycle : Word) : List Notice :=
  if e.cfg.notifyHealth = true ∧ (e.newStatus o cycle).state = .lost ∧ e.st.state ≠ .lost then
    [⟨.stationLost, BitVec.ofNat 8 k.toNat, e.station, e.cfg.addr, (e.newStatus o cycle).miss, cycle, e.recAddr⟩]
  else if e.cfg.notifyHealth = true ∧ (e.newStatus o cycle).state = .active ∧ e.st.state = .lost then
    [⟨.stationBack, BitVec.ofNat 8 k.toNat, e.station, e.cfg.addr, e.st.miss, cycle, e.recAddr⟩]
  else []

/-- A completed status write raises the health notice and ends the entry. -/
theorem Work.statusDone_eq {w : Work} {e : EntryUnit} {o : Ending} (ho : e.outcome = some o) :
    w.statusDone e = { w with
      seg := w.seg.endEntry, notices := w.notices ++ e.healthNotice o w.k w.seg.cycle.number } := by
  unfold Work.statusDone EntryUnit.healthNotice
  rw [ho]
  dsimp only [Option.getD_some]
  split
  · rfl
  · split
    · rfl
    · rw [List.append_nil]
      rfl

/-- Settles O54: the completion is an event that ends the entry and raises its health notice. -/
theorem statusWriteEndsEntry : Obligations.StatusWriteEndsEntry := by
  intro s k g src a e o new ha hop hg hu ho hnew
  subst hg hnew
  exact exec_entryDone ha hu hop (.inr (.inr rfl)) (Work.statusDone_eq ho)

end Sys2Proof.Machine

/-! A duplicate REPLY (R55): when an answer is one, and the end of the entry that it makes. -/

namespace Sys2Proof.Machine

/-- A REPLY taken as an answer: from the station polled, and GOOD, or DAMAGED where that is accepted. -/
theorem EntryUnit.judge_reply {e : EntryUnit} {f : RxFrame} (hs : srcOf f.chars = e.cfg.addr)
    (hk : kindOf f.chars = some .reply) (hg : f.good = true ∨ e.cfg.acceptDamaged = true) :
    e.judge (some f)
      = if e.cfg.expectSeq = true ∧ e.st.lastSeq = some (seqOf f.chars) then .duplicate else .replied := by
  have hgood : ¬(f.good = false ∧ e.cfg.acceptDamaged = false) := by
    rintro ⟨h1, h2⟩
    simp [h1, h2] at hg
  have hnak : kindOf f.chars ≠ some .nak := by rw [hk]; simp
  rw [EntryUnit.judge_some, if_neg (not_not_intro hs), if_neg fun h => h.1 hk, if_neg hnak, if_neg hgood]

/-- An answer that ends the entry with no capture draws its status write. -/
theorem Segment.answerReported_entryStatus {g : Segment} {e : EntryUnit} {f : RxFrame} {o : Ending}
    (hu : g.unit = .entry e) (hb : g.line.freeBuf ≠ none) (hj : e.judge (some f) = o) (ho : o = .duplicate ∨ o = .refused) :
    g.answerReported (some f) = g.decideEntry { e with used := e.used + 1 } o .running := by
  obtain ⟨b, hb⟩ := Option.ne_none_iff_exists'.mp hb
  rw [Segment.answerReported_entryEnds hu hb hj ho, Segment.attemptEnds_entry hu]

/-- Settles O59: the judgement of a REPLY taken as an answer, and the status write that a duplicate draws at once. -/
theorem duplicateRepeatsLastSeq : Obligations.DuplicateRepeatsLastSeq := by
  intro e f hs hk hg
  rw [EntryUnit.judge_reply hs hk hg]
  refine ⟨?_, fun h => if_neg ?_, fun g hu hb hj => ?_⟩
  · rintro hx ⟨q, hq, rfl⟩
    exact if_pos ⟨hx, hq⟩
  · rintro ⟨hx, hq⟩
    exact h ⟨hx, _, hq, rfl⟩
  · rw [← EntryUnit.judge_reply hs hk hg] at hj
    rw [Segment.answerReported_entryStatus hu hb hj (.inl rfl), Segment.decideEntry_status _ _ _ (by simp)]
    exact ⟨rfl, rfl, _, rfl, rfl⟩

end Sys2Proof.Machine

/-! The layout of the station record (R47, R49, R172, 11): its status half from the bytes of the read, and the checks of its
configuration half (R51). -/

namespace Sys2Proof.Machine

/-! ## The status half (R49) -/

/-- The codes of the station states are 0 to 3. -/
theorem Health.exists_code {b : Byte} (h : b.toNat ≤ 3) : ∃ st : Health, st.code = b := by
  have hcode : b.toNat = 0 ∨ b.toNat = 1 ∨ b.toNat = 2 ∨ b.toNat = 3 := by omega
  rcases hcode with h | h | h | h
  · exact ⟨.unknown, BitVec.eq_of_toNat_eq h.symm⟩
  · exact ⟨.active, BitVec.eq_of_toNat_eq h.symm⟩
  · exact ⟨.suspect, BitVec.eq_of_toNat_eq h.symm⟩
  · exact ⟨.lost, BitVec.eq_of_toNat_eq h.symm⟩

theorem Health.ofCode_code (st : Health) : Health.ofCode st.code = some st := by cases st <;> rfl

theorem Health.code_toNat_le (st : Health) : st.code.toNat ≤ 3 := by cases st <;> decide

theorem Health.code_of_ofCode {b : Byte} {st : Health} (h : Health.ofCode b = some st) : st.code = b := by
  unfold Health.ofCode at h
  repeat' split at h
  all_goals cases h
  all_goals exact Eq.symm ‹_›

theorem Health.ofCode_none {b : Byte} (h : 3 < b.toNat) : Health.ofCode b = none := by
  rw [Option.eq_none_iff_forall_ne_some]
  intro st hst
  have := st.code_toNat_le
  rw [Health.code_of_ofCode hst] at this
  omega

/-- A last seq field of 0, 1 or NONE. -/
theorem seqOfCode_some {b : Byte} (h : b.toNat ≤ 1 ∨ b = 0xFF) :
    seqOfCode b = some (if b = 0xFF then none else some (b == 1)) := by
  have hb : b = 0 ∨ b = 1 ∨ b = 0xFF := by bv_omega
  rcases hb with rfl | rfl | rfl <;> rfl

theorem seqOfCode_none {b : Byte} (h : 1 < b.toNat) (hn : b ≠ 0xFF) : seqOfCode b = none := by
  unfold seqOfCode
  rw [if_neg (by rintro rfl; simp at h), if_neg (by rintro rfl; simp at h), if_neg hn]

theorem parseStatus_cleared {d : List Byte}
    (h : 3 < (rdByte d 0x10).toNat ∨ (1 < (rdByte d 0x12).toNat ∧ rdByte d 0x12 ≠ 0xFF)) :
    parseStatus d = Status.cleared := by
  unfold parseStatus
  rcases h with h | ⟨h, hn⟩
  · rw [Health.ofCode_none h]
  · rw [seqOfCode_none h hn]
    cases Health.ofCode (rdByte d 0x10) <;> rfl

/-- A status half in range is used as it stands. -/
theorem parseStatus_read {d : List Byte} {st : Health} (hst : st.code = rdByte d 0x10)
    (hq : (rdByte d 0x12).toNat ≤ 1 ∨ rdByte d 0x12 = 0xFF) :
    parseStatus d = {
      state := st, heard := rdByte d 0x11 != 0,
      lastSeq := if rdByte d 0x12 = 0xFF then none else some (rdByte d 0x12 == 1), miss := rdByte d 0x13,
      accepted := rdHalf d 0x14, duplicates := rdHalf d 0x16, drops := rdHalf d 0x18, lastCycle := rdWord d 0x1C } := by
  unfold parseStatus
  rw [← hst, Health.ofCode_code, seqOfCode_some hq]

/-! ## The checks of the configuration half (R51) -/

section
variable {P : Nat → Prop} {l : List (Nat × Bool)} {n : Nat}

/-- Where no number beside those of the checks has a condition, the first failing check has the first number whose condition
does not hold. -/
theorem NumberedChecks.firstFail_some_of_other (h : NumberedChecks P 1 l) (hother : ∀ m, m = 0 ∨ l.length + 1 ≤ m → P m) :
    firstFail l = some n ↔ ¬P n ∧ ∀ m, m < n → P m := by
  rw [h.firstFail_some]
  refine ⟨fun ⟨_, hn, hall⟩ => ⟨hn, fun m hm => ?_⟩, fun ⟨hn, hall⟩ => ⟨?_, hn, fun m _ hm => hall m hm⟩⟩
  · rcases Nat.eq_zero_or_pos m with h0 | h0
    · exact hother m (.inl h0)
    · exact hall m h0 hm
  · by_contra hout
    exact hn (hother n (by omega))

theorem NumberedChecks.firstFail_none_of_other (h : NumberedChecks P 1 l) (hother : ∀ m, m = 0 ∨ l.length + 1 ≤ m → P m) :
    firstFail l = none ↔ ∀ m, P m := by
  rw [h.firstFail_none]
  refine ⟨fun hall m => ?_, fun hall m _ _ => hall m⟩
  by_cases hm : m = 0 ∨ l.length + 1 ≤ m
  · exact hother m hm
  · exact hall m (by omega) (by omega)

end

/-- An address is none of the enabled own addresses. -/
theorem SegBlock.ownIndex_isSome (b : SegBlock) (a : Byte) :
    (b.ownIndex a).isSome = false ↔ a ≠ b.own0 ∧ (b.multi = true → a ≠ b.own1 ∧ a ≠ b.own2) := by
  unfold SegBlock.ownIndex
  split
  next h0 => simp [h0]
  next h0 =>
    split
    next h1 => simp [h1]
    next h1 =>
      split
      next h2 => simp [h2]
      next h2 => exact ⟨fun _ => ⟨h0, fun hm => ⟨fun h => h1 ⟨hm, h⟩, fun h => h2 ⟨hm, h⟩⟩⟩, fun _ => rfl⟩

/-- The 6 checks are the conditions of R51, in their order. -/
theorem cfgChecks_numbered (b : SegBlock) (c : StationCfg) : NumberedChecks (StationCfgMeets b c) 1 (cfgChecks b c) := by
  have hthreshold : (c.threshold == 0 || decide (15 < c.threshold.toNat)) = false
      ↔ 1 ≤ c.threshold.toNat ∧ c.threshold.toNat ≤ 15 := by
    rw [Bool.or_eq_false_iff, beq_eq_false_iff_ne, decide_eq_false_iff_not, Nat.not_lt, Nat.one_le_iff_ne_zero, ne_eq, ne_eq,
      toNat_eq_zero_iff]
  exact ⟨rfl, badAddress_iff c.addr, rfl, b.ownIndex_isSome c.addr, rfl, by simp [StationCfgMeets], rfl,
    by simp [StationCfgMeets], rfl, hthreshold, rfl, by simp [StationCfgMeets], trivial⟩

/-- No condition has another number. -/
theorem StationCfgMeets_other {b : SegBlock} {c : StationCfg} {n : Nat} (h : n = 0 ∨ 7 ≤ n) : StationCfgMeets b c n := by
  unfold StationCfgMeets
  split
  case h_7 => trivial
  all_goals omega

theorem cfgCheck_eq_some (b : SegBlock) (c : StationCfg) (n : Nat) :
    cfgCheck b c = some n ↔ ¬StationCfgMeets b c n ∧ ∀ m, m < n → StationCfgMeets b c m :=
  (cfgChecks_numbered b c).firstFail_some_of_other fun _ h => StationCfgMeets_other h

theorem cfgCheck_eq_none (b : SegBlock) (c : StationCfg) : cfgCheck b c = none ↔ ∀ n, StationCfgMeets b c n :=
  (cfgChecks_numbered b c).firstFail_none_of_other fun _ h => StationCfgMeets_other h

end Sys2Proof.Machine

/-! The reads of a poll entry (R50, R70, R71, R72, R86, R87, R144): the entry itself, then the judgement of its station
record. -/

namespace Sys2Proof.Machine

/-! ## The entry (R70, R86) -/

section
variable {w : Work} {e : EntryUnit} {idx pause : Byte}

theorem Work.entryReadDone_stopping (hs : w.seg.state = .stopping) :
    w.entryReadDone e [idx, pause] = w.on Segment.endEntry := if_pos hs

/-- Index FFH is skipped. -/
theorem Work.entryReadDone_skip (hs : w.seg.state ≠ .stopping) :
    w.entryReadDone e [0xFF, pause] = { w with seg := { w.seg.endEntry with
      cycle := { w.seg.endEntry.cycle with pause := if pause = 0 then .none else .running } } } := by
  unfold Work.entryReadDone
  exact (if_neg hs).trans (if_pos rfl)

theorem Work.entryReadDone_badEntry (hs : w.seg.state ≠ .stopping) (hi : idx ≠ 0xFF)
    (hc : w.seg.blk.stationCount.toNat ≤ idx.toNat) :
    w.entryReadDone e [idx, pause]
      = (w.raise .badEntry idx 0 (BitVec.ofNat 8 w.seg.cycle.index) w.seg.entryAddr).on Segment.endEntry := by
  unfold Work.entryReadDone
  exact (if_neg hs).trans ((if_neg hi).trans (if_pos hc))

/-- A station of the table has its record read. -/
theorem Work.entryReadDone_reads (hs : w.seg.state ≠ .stopping) (hi : idx ≠ 0xFF)
    (hc : idx.toNat < w.seg.blk.stationCount.toNat) :
    w.entryReadDone e [idx, pause] = { w with seg := { w.seg with
      unit := .entry { e with step := .stationRead, station := idx, pauseAfter := pause,
                              recAddr := slotAt w.seg.blk.stationTable 32 idx.toNat },
      waits := { w.seg.waits with
        unit := some ⟨.stationRead, slotAt w.seg.blk.stationTable 32 idx.toNat, 32, []⟩ } } } := by
  unfold Work.entryReadDone
  exact (if_neg hs).trans ((if_neg hi).trans (if_neg (Nat.not_le.mpr hc)))

end

/-! ## The station record (R50, R71, R72, R87) -/

/-- The entry with its station record read. -/
def EntryUnit.withRecord (e : EntryUnit) (d : List Byte) : EntryUnit :=
  { e with cfg := parseStationCfg d, st := parseStatus d }

/-- A station that passes the checks is skipped: LOST in a cycle that is not a revisit cycle (R61), or HEAVY in conserve
(R144). -/
def Segment.skipsStation (g : Segment) (c : StationCfg) (st : Status) : Prop :=
  (st.state = .lost ∧ g.cycle.number.toNat % g.blk.revisit.toNat ≠ 0)
    ∨ (c.heavy = true ∧ (g.supply.auto = true ∨ g.supply.forced = true))

/-- How an entry that has passed the checks outside LOCKED ends: by the stop, or by the cause of the departure. -/
def Segment.unlockedEnding (g : Segment) : Ending :=
  if g.state = .stopping then .aborted else if g.departed = .lockLoss then .framingLost else .lineStall

theorem Segment.revisitCycle_eq_false (g : Segment) :
    g.revisitCycle = false ↔ g.cycle.number.toNat % g.blk.revisit.toNat ≠ 0 := by
  unfold Segment.revisitCycle
  rw [beq_eq_false_iff_ne]

theorem Segment.conserve_iff (g : Segment) : g.conserve = true ↔ g.supply.auto = true ∨ g.supply.forced = true := by
  unfold Segment.conserve
  rw [Bool.or_eq_true]

theorem Segment.unlockedEnding_departed {g : Segment} (hs : g.state ≠ .stopping) : g.unlockedEnding = g.departEnding := by
  unfold Segment.unlockedEnding Segment.departEnding
  rw [if_neg hs]
  cases g.departed <;> rfl

/-- No attempt was made: the outcome is none that counts one. -/
theorem EntryUnit.newStatus_unlocked (e : EntryUnit) (g : Segment) (cycle : Word) :
    e.newStatus g.unlockedEnding cycle = { e.st with state := healthOf e.cfg.threshold e.st.miss e.st.heard } := by
  unfold Segment.unlockedEnding
  repeat' split
  all_goals rfl

theorem Segment.unlockedEnding_ne_replied (g : Segment) : g.unlockedEnding ≠ .replied := by
  unfold Segment.unlockedEnding
  repeat' split
  all_goals simp

section
variable {w : Work} {e : EntryUnit} {d : List Byte}

theorem Work.stationReadDone_disabled (hp : (parseStationCfg d).pollEnable = false) :
    w.stationReadDone e d = w.on Segment.endEntry := by
  unfold Work.stationReadDone
  exact if_pos (by simp [hp])

theorem Work.stationReadDone_badRecord {n : Nat} (hp : (parseStationCfg d).pollEnable = true)
    (hc : cfgCheck w.seg.blk (parseStationCfg d) = some n) :
    w.stationReadDone e d
      = (w.raise .badRecord e.station (parseStationCfg d).addr (BitVec.ofNat 8 n) e.recAddr).on Segment.endEntry := by
  unfold Work.stationReadDone
  simp only [hp, hc, Bool.not_true, Bool.false_eq_true, if_false]

/-- A record that passes the checks: the entry is skipped, polls its station, or ends with its status write. -/
theorem Work.stationReadDone_passes (hp : (parseStationCfg d).pollEnable = true)
    (hc : cfgCheck w.seg.blk (parseStationCfg d) = none) :
    (w.seg.skipsStation (parseStationCfg d) (parseStatus d) → w.stationReadDone e d = w.on Segment.endEntry)
    ∧ (¬w.seg.skipsStation (parseStationCfg d) (parseStatus d) →
      (w.seg.state = .locked → w.stationReadDone e d = { w with seg := { w.seg with
        unit := .entry { e.withRecord d with step := .polling }, xact := .ready,
        cycle := { w.seg.cycle with attempt := 1, losses := 0 } } })
      ∧ (w.seg.state ≠ .locked →
        w.stationReadDone e d = { w with seg := w.seg.decideEntry (e.withRecord d) w.seg.unlockedEnding .none })) := by
  unfold Work.stationReadDone Segment.skipsStation
  simp only [hp, hc, Bool.not_true, Bool.false_eq_true, if_false, Segment.revisitCycle_eq_false, Segment.conserve_iff]
  by_cases hl : (parseStatus d).state = .lost ∧ w.seg.cycle.number.toNat % w.seg.blk.revisit.toNat ≠ 0
  · rw [if_pos hl]
    exact ⟨fun _ => rfl, fun h => absurd (.inl hl) h⟩
  rw [if_neg hl]
  by_cases hh : (parseStationCfg d).heavy = true ∧ (w.seg.supply.auto = true ∨ w.seg.supply.forced = true)
  · rw [if_pos hh]
    exact ⟨fun _ => rfl, fun h => absurd (.inr hh) h⟩
  rw [if_neg hh]
  refine ⟨fun h => absurd h (not_or.mpr ⟨hl, hh⟩), fun _ => ⟨fun hs => if_pos hs, fun hs => (if_neg hs).trans ?_⟩⟩
  by_cases hst : w.seg.state = .stopping
  · rw [if_pos hst, show w.seg.unlockedEnding = .aborted from if_pos hst]
    rfl
  · rw [if_neg hst, Segment.unlockedEnding_departed hst]
    rfl

end

/-- Settles O50: the entry's read, its record's judgement in the order of R50, and the layout of the record. -/
theorem pollEntryIsJudged : Obligations.PollEntryIsJudged := by
  refine ⟨fun s k g ended src a e ha hg hu hended => ⟨fun idx pause hop => ?_, fun d c st skip u hop hc hst hskip hu' => ?_⟩,
    fun d => ⟨parseStatus_cleared, fun hh hq => ?_, rfl⟩⟩
  · subst hg hended
    have after : ∀ {v ns}, (s.freePort.work k).entryReadDone e [idx, pause]
        = { s.freePort.work k with seg := v, notices := ns } →
        exec (.accessComplete [idx, pause]) s = .next (s.freePort.afterEvent k v ns) :=
      exec_entryDone ha hu hop (.inl rfl)
    refine ⟨fun hs => after (Work.entryReadDone_stopping hs), ?_,
      fun hs hi hc => after (Work.entryReadDone_badEntry hs hi hc),
      fun hs hi hc => after (Work.entryReadDone_reads hs hi hc)⟩
    rintro hs rfl
    exact after (Work.entryReadDone_skip hs)
  · subst hg hended hc hst hskip hu'
    have after : ∀ {v ns}, (s.freePort.work k).stationReadDone e d
        = { s.freePort.work k with seg := v, notices := ns } →
        exec (.accessComplete d) s = .next (s.freePort.afterEvent k v ns) :=
      exec_entryDone ha hu hop (.inr (.inl rfl))
    refine ⟨fun hp => after (Work.stationReadDone_disabled hp), fun n hp hn hall => after
      (Work.stationReadDone_badRecord hp ((cfgCheck_eq_some _ _ _).mpr ⟨hn, hall⟩)), fun hp hall => ?_⟩
    obtain ⟨hskips, hpasses⟩ := Work.stationReadDone_passes (w := s.freePort.work k) (e := e) hp
      ((cfgCheck_eq_none _ _).mpr hall)
    refine ⟨fun h => after (hskips h), fun h hl => ?_, ?_⟩
    · obtain ⟨hpolls, -⟩ := hpasses h
      exact after (hpolls hl)
    · rintro o h hl rfl
      obtain ⟨-, hends⟩ := hpasses h
      refine after ((hends hl).trans ?_)
      rw [Segment.decideEntry_noPause _ _ (Segment.unlockedEnding_ne_replied _), EntryUnit.newStatus_unlocked]
      rfl
  · obtain ⟨st, hst⟩ := Health.exists_code hh
    exact ⟨st, hst, parseStatus_read hst hq⟩

end Sys2Proof.Machine

/-! SUPPORT. The operations of the cycle engine and of the request engine (R69, R70, R78, R79, R105, R106, R108): the
value each gives the segment unit, by the case it finds. -/

namespace Sys2Proof.Machine

/-! ## Chain reads (R106) -/

section
variable {g : Segment}

theorem Segment.chainRequest_begins {a : Word} (hs : g.stopWrite = false) (hc : g.req.chain = .idle)
    (hr : g.req.ready = false) (hn : g.req.current = none) (ha : g.req.anchor = some a) :
    g.chainRequest = { g with
      req := { g.req with chain := .link }, waits := { g.waits with chain := some ⟨.chainLink, a, 4, []⟩ } } := by
  unfold Segment.chainRequest
  simp [hs, hc, hr, hn, ha, Access.read]

theorem Segment.chainRequest_noted (hs : g.stopWrite = false) (hc : g.req.chain = .link ∨ ∃ a, g.req.chain = .state a) :
    g.chainRequest = { g with req := { g.req with more := true } } := by
  unfold Segment.chainRequest
  rcases hc with hc | ⟨a, hc⟩ <;> simp [hs, hc]

/-- With no chain read under way, a request is discarded where a record is ready or current, or there is no anchor. -/
theorem Segment.chainRequest_idle (hc : g.req.chain = .idle)
    (h : g.req.ready = true ∨ g.req.current ≠ none ∨ g.req.anchor = none) : g.chainRequest = g := by
  unfold Segment.chainRequest
  rcases h with h | h | h
  · simp [hc, h]
  · simp [hc, Option.isSome_iff_ne_none.mpr h]
  · simp [hc, h]

theorem Segment.chainRequest_discarded (h : g.stopWrite = true ∨ g.req.chain = .exam
      ∨ (g.req.chain = .idle ∧ (g.req.ready = true ∨ g.req.current ≠ none ∨ g.req.anchor = none))) :
    g.chainRequest = g := by
  rcases h with h | h | ⟨hc, h⟩
  · unfold Segment.chainRequest
    exact if_pos h
  · unfold Segment.chainRequest
    simp [h]
  · exact Segment.chainRequest_idle hc h

/-! ## The record write of a cycle end (R79) -/

theorem Segment.cycleRecord_eq (g : Segment) : g.cycleRecord = { g with
    waits := { g.waits with control := some g.progressWait }, prEnded := some g.cycle.number } := by
  unfold Segment.cycleRecord Segment.reqProgress
  rw [List.append_nil]
  rfl

/-! ## The begin of a cycle (R69, R79, R83) -/

/-- The values of the cycle engine when a cycle begins, its point apart. -/
def Cycle.begun (c : Cycle) (period : Half) : Cycle :=
  { c with
    number := c.number + 1, state := .running, index := 0, expired := false, held := false,
    timer := if period = 0 then .stopped else .running period.toNat }

theorem Segment.pollLength_pos : 0 < g.pollLength ↔ g.blk.pollLength ≠ 0 := by
  unfold Segment.pollLength
  rw [Nat.pos_iff_ne_zero, ne_eq, toNat_eq_zero_iff]

theorem Segment.beginCycle_entries (h : g.blk.pollLength ≠ 0) :
    g.beginCycle = { g with cycle := { g.cycle.begun g.blk.period with point := .entryDue } } := by
  unfold Segment.beginCycle Cycle.begun
  simp only [if_pos (Segment.pollLength_pos.mpr h), toNat_eq_zero_iff]

/-- With no poll entries the cycle holds its opportunity open, or, with a period, ends at its begin. -/
theorem Segment.beginCycle_noEntries (h : g.blk.pollLength = 0) :
    g.beginCycle =
      if g.blk.period = 0 then
        { g with cycle := { g.cycle.begun g.blk.period with timer := .stopped, point := .oppOpen } }
      else { g with
        waits := { g.waits with control := some g.progressWait }, prEnded := some (g.cycle.number + 1),
        cycle := { g.cycle.begun g.blk.period with
          state := .waiting, timer := .running g.blk.period.toNat, point := .notBegun } } := by
  have hn : ¬0 < g.pollLength := fun c => Segment.pollLength_pos.mp c h
  unfold Segment.beginCycle Cycle.begun
  simp only [if_neg hn, toNat_eq_zero_iff, Segment.cycleRecord_eq]
  by_cases hp : g.blk.period = 0
  · simp only [if_pos hp]
  · simp only [if_neg hp]
    rfl

/-! ## The opportunity passes (R70, R78, R79) -/

/-- The values of the cycle engine when a cycle ends: the next cycle is held at once, or the engine waits. -/
def Segment.endedCycle (g : Segment) : Cycle :=
  if g.cycle.expired = true ∨ g.blk.period = 0 then { g.cycle with held := true, point := .notBegun }
  else { g.cycle with state := .waiting, point := .notBegun }

theorem Segment.passOpportunity_next (h : g.cycle.index + 1 < g.blk.pollLength.toNat) :
    g.passOpportunity = { g with cycle := { g.cycle with index := g.cycle.index + 1, point := .entryDue } } := if_pos h

theorem Segment.passOpportunity_last (h : g.blk.pollLength.toNat ≤ g.cycle.index + 1) :
    g.passOpportunity = { g with
      waits := { g.waits with control := some g.progressWait }, prEnded := some g.cycle.number, cycle := g.endedCycle } := by
  refine (if_neg (Nat.not_lt.mpr h)).trans ?_
  unfold Segment.cycleEnd Segment.endedCycle
  rw [Segment.cycleRecord_eq]
  by_cases c : g.cycle.expired = true ∨ g.blk.period = 0
  · rw [if_pos c]
    exact if_pos c
  · rw [if_neg c]
    exact if_neg c

/-- An opportunity that passes moves nothing of the request engine. -/
theorem Segment.passOpportunity_req : g.passOpportunity.req = g.req := by
  unfold Segment.passOpportunity Segment.cycleEnd
  dsimp only
  repeat' split
  all_goals rfl

/-! ## The take of a request (R78, R108) -/

theorem Segment.startTake_reads {a : Word} (h : g.req.cand = some a) :
    g.startTake = { g with
      unit := .request (ReqUnit.begin a (g.req.cond == .breaking)), req := { g.req with losses := 0 },
      waits := { g.waits with unit := some ⟨.takeRead, a, 160, []⟩ } } := by
  unfold Segment.startTake
  rw [h]
  rfl

/-- The first take of a unit: the group begins afresh, and the cycle stands in the opportunity that serves it. -/
theorem Segment.startUnit_reads {a : Word} (h : g.req.cand = some a) :
    g.startUnit = { g with
      unit := .request (ReqUnit.begin a false), waits := { g.waits with unit := some ⟨.takeRead, a, 160, []⟩ },
      req := { g.req with count := 0, cond := .none, losses := 0, lineHeld := true, sent := false, gap := .none },
      cycle := { g.cycle with
        point := if g.cycle.point = .oppDue ∨ g.cycle.point = .oppOpen then .inOpp else g.cycle.point } } :=
  Segment.startTake_reads h

end

end Sys2Proof.Machine

/-! The expiries of the cycle timer and of the scan timer (R81, R82, R105, R106). -/

namespace Sys2Proof.Machine

/-! ## The cycle timer (R81, R82) -/

section
variable {w : Work}

theorem Work.cycleExpiry_overrun {n : Nat} (ht : w.seg.cycle.timer = .running n) (hs : w.seg.cycle.state = .running) :
    w.cycleExpiry = { w with
      seg := { w.seg with
        cycle := { w.seg.cycle with timer := .stopped, expired := true },
        counters := { w.seg.counters with overruns := w.seg.counters.overruns + 1 } },
      notices := w.notices ++ [⟨.cycleOverrun, BitVec.ofNat 8 w.k.toNat, 0xFF, 0, BitVec.ofNat 8 w.seg.cycle.index,
        w.seg.cycle.number, 0⟩] } := by
  unfold Work.cycleExpiry
  rw [ht, hs]
  rfl

/-- In WAITING and in PAUSED the expiry flag alone is set. -/
theorem Work.cycleExpiry_flags {n : Nat} (ht : w.seg.cycle.timer = .running n) (hs : w.seg.cycle.state ≠ .running) :
    w.cycleExpiry = { w with seg := { w.seg with cycle := { w.seg.cycle with timer := .stopped, expired := true } } } := by
  unfold Work.cycleExpiry
  rw [ht]
  cases hc : w.seg.cycle.state with
  | running => exact absurd hc hs
  | waiting | paused => rfl

theorem Work.cycleExpiry_stopped (ht : w.seg.cycle.timer = .stopped) : w.cycleExpiry = w := by
  unfold Work.cycleExpiry
  rw [ht]

end

/-! ## The scan timer (R105) -/

theorem Segment.scanExpiry_running {g : Segment} {n : Nat} (ht : g.req.scanTimer = .running n) :
    g.scanExpiry = g.chainRequest := by
  unfold Segment.scanExpiry
  rw [ht]

theorem Segment.scanExpiry_stopped {g : Segment} (ht : g.req.scanTimer = .stopped) : g.scanExpiry = g := by
  unfold Segment.scanExpiry
  rw [ht]

/-- Settles O42: each expiry by the state of its timer, the cycle state and the state of the chain read. -/
theorem cycleAndScanTimersExpire : Obligations.CycleAndScanTimersExpire := by
  refine ⟨fun s k g hg => ⟨fun n ht hs => ?_, fun n ht hs => ?_, fun ht => ?_⟩,
    fun s k g hg => ⟨fun n a ht hs hc hr hn ha => ?_, fun n ht hs hc => ?_, fun hc h => ?_, fun ht => ?_⟩⟩
  · subst hg
    exact State.workEvent_after (Work.cycleExpiry_overrun (w := s.work k) ht hs)
  · subst hg
    exact State.workEvent_after (Work.cycleExpiry_flags (w := s.work k) ht hs)
  · subst hg
    exact State.workEvent_after (Work.cycleExpiry_stopped (w := s.work k) ht)
  · exact exec_after rfl hg ((Segment.scanExpiry_running ht).trans (Segment.chainRequest_begins hs hc hr hn ha))
  · exact exec_after rfl hg ((Segment.scanExpiry_running ht).trans (Segment.chainRequest_noted hs hc))
  · refine exec_after rfl hg ?_
    cases ht : g.req.scanTimer with
    | stopped => exact Segment.scanExpiry_stopped ht
    | running n =>
      rw [Option.isSome_iff_ne_none] at h
      exact (Segment.scanExpiry_running ht).trans (Segment.chainRequest_idle hc h)
  · exact exec_after rfl hg (Segment.scanExpiry_stopped ht)

end Sys2Proof.Machine

/-! The next unit of work of a LOCKED segment that serves none (R67, R69, R70, R78, R79, R80, R83, R104, R108, R124). -/

namespace Sys2Proof.Machine

/-! ## The three steps of the sequencer: the opportunity, the begin that is due, the dispatch -/

section
variable {g : Segment}

theorem Segment.kick_steps (hl : g.state = .locked) (hf : g.faultHeld = none) (hu : g.unit = .none) :
    g.kick = g.testOpportunity.beginDue.dispatch := if_pos ⟨by simp [Segment.working, hl, hf], hu⟩

/-- An opportunity is tested in RUNNING, once it is due and the pause-after has run out (R78). -/
def Cycle.oppTested (c : Cycle) : Prop := c.state = .running ∧ c.point = .oppDue ∧ c.pause = .none

/-- A cycle begin is due: a held one, or an expiry taken in WAITING (R69, R81). -/
def Cycle.beginIsDue (c : Cycle) : Prop := c.held = true ∨ (c.state = .waiting ∧ c.expired = true)

theorem Segment.testOpportunity_other (h : ¬g.cycle.oppTested) : g.testOpportunity = g := if_neg h

theorem Segment.testOpportunity_passes (h : g.cycle.oppTested) (hr : g.req.ready = false) :
    g.testOpportunity = g.passOpportunity := (if_pos h).trans (if_neg (by simp [hr]))

theorem Segment.testOpportunity_serves (h : g.cycle.oppTested) (hr : g.req.ready = true) :
    g.testOpportunity = g.startUnit := (if_pos h).trans (if_pos hr)

theorem Segment.beginDue_other (h : g.unit ≠ .none ∨ ¬g.cycle.beginIsDue) : g.beginDue = g := by
  refine if_neg ?_
  rintro ⟨hu, hb⟩
  rcases h with h | h
  · exact h hu
  · exact h hb

theorem Segment.beginDue_begins (hu : g.unit = .none) (h : g.cycle.beginIsDue) : g.beginDue = g.beginCycle :=
  if_pos ⟨hu, h⟩

theorem Segment.dispatch_inService (hu : g.unit ≠ .none) : g.dispatch = g := if_neg hu

theorem Segment.dispatch_entry (hu : g.unit = .none) (hs : g.cycle.state = .running) (hp : g.cycle.point = .entryDue) :
    g.dispatch = g.startEntry := by
  unfold Segment.dispatch
  rw [if_pos hu, hs, hp]

/-- Where a ready request is served beside an opportunity that is due: in WAITING, in PAUSED, and at an opportunity held open
(R80, R83, R84). -/
def Cycle.openToRequests (c : Cycle) : Prop :=
  c.state = .waiting ∨ c.state = .paused ∨ (c.state = .running ∧ c.point = .oppOpen)

theorem Segment.dispatch_open (hu : g.unit = .none) (h : g.cycle.openToRequests) :
    g.dispatch = if g.req.ready then g.startUnit else g := by
  unfold Segment.dispatch
  rw [if_pos hu]
  rcases h with h | h | ⟨h, hp⟩
  · rw [h]
  · rw [h]
  · rw [h, hp]

theorem Segment.dispatch_idles (hu : g.unit = .none) (h : g.cycle.openToRequests) (hr : g.req.ready = false) :
    g.dispatch = g := (Segment.dispatch_open hu h).trans (if_neg (by simp [hr]))

theorem Segment.dispatch_oppDue (hs : g.cycle.state = .running) (hp : g.cycle.point = .oppDue) : g.dispatch = g := by
  unfold Segment.dispatch
  rw [hs, hp, ite_self]

/-! ## The begin of a cycle (R69, R79, R83) -/

theorem Cycle.not_oppTested_of_begin {c : Cycle}
    (h : (c.held = true ∧ c.point = .notBegun) ∨ (c.state = .waiting ∧ c.expired = true)) : ¬c.oppTested := by
  rintro ⟨hs, hp, -⟩
  rcases h with ⟨-, h⟩ | ⟨h, -⟩
  · simp [hp] at h
  · simp [hs] at h

/-- A begin in a segment with poll entries reads the first one. -/
theorem Segment.beginDue_dispatch_entries (hu : g.unit = .none) (h : g.cycle.beginIsDue) (hn : g.blk.pollLength ≠ 0) :
    g.beginDue.dispatch = { g with
      unit := .entry EntryUnit.begin, waits := { g.waits with unit := some ⟨.entryRead, g.blk.pollList, 2, []⟩ },
      cycle := { g.cycle.begun g.blk.period with point := .inEntry, pause := .none, losses := 0, attempt := 0 } } := by
  have haddr : slotAt g.blk.pollList 2 0 = g.blk.pollList := BitVec.add_zero _
  rw [Segment.beginDue_begins hu h, Segment.beginCycle_entries hn, Segment.dispatch_entry]
  · rw [← haddr]
    rfl
  · exact hu
  · rfl
  · rfl

/-- A begin in a segment with none, where no request is ready, leaves nothing to dispatch. -/
theorem Segment.beginDue_dispatch_noEntries (hu : g.unit = .none) (h : g.cycle.beginIsDue) (hn : g.blk.pollLength = 0)
    (hr : g.req.ready = false) : g.beginDue.dispatch = g.beginCycle := by
  rw [Segment.beginDue_begins hu h, Segment.beginCycle_noEntries hn]
  split
  · exact Segment.dispatch_idles hu (.inr (.inr ⟨rfl, rfl⟩)) hr
  · exact Segment.dispatch_idles hu (.inl rfl) hr

/-! ## An opportunity (R70, R78, R79) -/

/-- An opportunity passes before the last entry: the next one is read. -/
theorem Segment.steps_nextEntry (hu : g.unit = .none) (ho : g.cycle.oppTested) (hh : g.cycle.held = false)
    (hr : g.req.ready = false) (hi : g.cycle.index + 1 < g.blk.pollLength.toNat) :
    g.testOpportunity.beginDue.dispatch = Segment.startEntry { g with
      cycle := { g.cycle with index := g.cycle.index + 1, point := .entryDue } } := by
  obtain ⟨hs, -, -⟩ := id ho
  rw [Segment.testOpportunity_passes ho hr, Segment.passOpportunity_next hi, Segment.beginDue_other]
  · exact Segment.dispatch_entry hu hs rfl
  · exact .inr (by simp [Cycle.beginIsDue, hh, hs])

/-- The last opportunity passes, with neither an overrun nor period 0: the engine waits. -/
theorem Segment.steps_wait (hu : g.unit = .none) (ho : g.cycle.oppTested) (hh : g.cycle.held = false)
    (hr : g.req.ready = false) (hi : g.blk.pollLength.toNat ≤ g.cycle.index + 1)
    (he : g.cycle.expired = false) (hp : g.blk.period ≠ 0) :
    g.testOpportunity.beginDue.dispatch = { g with
      waits := { g.waits with control := some g.progressWait }, prEnded := some g.cycle.number,
      cycle := { g.cycle with state := .waiting, point := .notBegun } } := by
  have hc : g.endedCycle = { g.cycle with state := .waiting, point := .notBegun } :=
    if_neg fun c => c.elim (by simp [he]) hp
  rw [Segment.testOpportunity_passes ho hr, Segment.passOpportunity_last hi, hc, Segment.beginDue_other]
  · exact Segment.dispatch_idles hu (.inl rfl) hr
  · exact .inr (by simp [Cycle.beginIsDue, hh, he])

/-- The last opportunity passes after an overrun, or with period 0: the next cycle begins at once. -/
theorem Segment.steps_beginNext (hu : g.unit = .none) (ho : g.cycle.oppTested) (hr : g.req.ready = false)
    (hi : g.blk.pollLength.toNat ≤ g.cycle.index + 1)
    (he : g.cycle.expired = true ∨ g.blk.period = 0) (hn : g.blk.pollLength ≠ 0) :
    g.testOpportunity.beginDue.dispatch = { g with
      unit := .entry EntryUnit.begin,
      waits := { g.waits with control := some g.progressWait, unit := some ⟨.entryRead, g.blk.pollList, 2, []⟩ },
      prEnded := some g.cycle.number,
      cycle := { g.cycle.begun g.blk.period with point := .inEntry, pause := .none, losses := 0, attempt := 0 } } := by
  have hc : g.endedCycle = { g.cycle with held := true, point := .notBegun } := if_pos he
  rw [Segment.testOpportunity_passes ho hr, Segment.passOpportunity_last hi, hc]
  exact Segment.beginDue_dispatch_entries hu (.inl rfl) hn

/-! ## A ready request (R78, R80, R83, R84) -/

theorem Segment.startUnit_unit {a : Word} (h : g.req.cand = some a) : g.startUnit.unit ≠ .none := by
  rw [Segment.startUnit_reads h]
  simp

/-- A ready request is taken at an opportunity, in WAITING before an expiry, in PAUSED, and at an opportunity held open. -/
theorem Segment.steps_take {a : Word} (hu : g.unit = .none) (hr : g.req.ready = true) (ha : g.req.cand = some a)
    (h : g.cycle.oppTested ∨ (g.cycle.openToRequests ∧ ¬g.cycle.beginIsDue)) :
    g.testOpportunity.beginDue.dispatch = g.startUnit := by
  by_cases ho : g.cycle.oppTested
  · rw [Segment.testOpportunity_serves ho hr, Segment.beginDue_other (.inl (Segment.startUnit_unit ha)),
      Segment.dispatch_inService (Segment.startUnit_unit ha)]
  · obtain ⟨hopen, hb⟩ := h.resolve_left ho
    rw [Segment.testOpportunity_other ho, Segment.beginDue_other (.inr hb), Segment.dispatch_open hu hopen]
    exact if_pos hr

end

/-! ## The obligation -/

/-- Settles O57: the sequencer's three steps at each position of the cycle, with a request ready and without. -/
theorem sequencerBeginsNextUnit : Obligations.SequencerBeginsNextUnit := by
  intro s k g ns hl hf hu hx hq _
  have hk := Segment.kick_steps hl hf hu
  rw [State.afterEvent_sequencer hl hf hx hq, hk]
  refine ⟨fun hs hp hh => ?_, fun hs hp hps hh hr hi => ?_, fun hs hp hps hh hr hi he hper => ?_,
    fun hs hp hps hh hr hi he hn => ?_, fun a hr ha hh h => ?_, fun hs hp hps hh => ?_, fun h hn hr => ?_,
    fun hs hp hh hr => ?_, fun h hn => ?_, ⟨_, _, rfl⟩⟩
  · rw [Segment.testOpportunity_other (by simp [Cycle.oppTested, hp]), Segment.beginDue_other,
      Segment.dispatch_entry hu hs hp]
    · rfl
    · exact .inr (by simp [Cycle.beginIsDue, hh, hs])
  · exact Segment.steps_nextEntry hu ⟨hs, hp, hps⟩ hh hr hi
  · exact Segment.steps_wait hu ⟨hs, hp, hps⟩ hh hr hi he hper
  · rw [Segment.steps_beginNext hu ⟨hs, hp, hps⟩ hr hi he hn]
    simp only [Cycle.begun, hs, hps, hh]
  · rw [← Segment.startUnit_reads ha]
    refine Segment.steps_take hu hr ha ?_
    rcases h with ⟨hs, ⟨hp, hps⟩ | hp⟩ | ⟨hs, he⟩ | hs
    · exact .inl ⟨hs, hp, hps⟩
    · exact .inr ⟨.inr (.inr ⟨hs, hp⟩), by simp [Cycle.beginIsDue, hh, hs]⟩
    · exact .inr ⟨.inl hs, by simp [Cycle.beginIsDue, hh, he]⟩
    · exact .inr ⟨.inr (.inl hs), by simp [Cycle.beginIsDue, hh, hs]⟩
  · rw [Segment.testOpportunity_other fun ⟨_, _, c⟩ => hps c, Segment.beginDue_other, Segment.dispatch_oppDue hs hp]
    exact .inr (by simp [Cycle.beginIsDue, hh, hs])
  · rw [Segment.testOpportunity_other (Cycle.not_oppTested_of_begin h),
      Segment.beginDue_dispatch_noEntries hu (h.imp_left And.left) hn hr, Segment.beginCycle_noEntries hn]
    rfl
  · rw [← hk]
    exact Segment.kick_idles hu hr hh (.inr (.inr (.inr ⟨hs, hp⟩)))
  · rw [Segment.testOpportunity_other (Cycle.not_oppTested_of_begin h),
      Segment.beginDue_dispatch_entries hu (h.imp_left And.left) hn]
    rfl

end Sys2Proof.Machine

/-! The accesses of a request and the end of its unit (R78, R80, R83 to R85, R103, R106, R108, R112, R118, R124, R172). -/

namespace Sys2Proof.Machine

/-! ## The accesses (R108, R112, R118) -/

/-- These accesses are those of the request in service, and none of them reads a link. -/
theorem Work.accessDone_request {w : Work} {r : ReqUnit} {a : Access} (hu : w.seg.unit = .request r)
    (ho : a.op = .takeRead ∨ a.op = .takenWrite ∨ a.op = .clearWrite ∨ a.op = .outcomeWrite ∨ a.op = .stateWrite)
    (d : List Byte) : w.accessDone a d = w.reqDone r a.op d := by
  unfold Work.accessDone
  rcases ho with ho | ho | ho | ho | ho <;> rw [ho] <;> dsimp only <;> rw [hu] <;> rfl

/-- The completion of such an access, where the request only gives the segment unit a new value and raises notices. -/
theorem exec_reqDone {s : State} {k : Seg} {src : Source} {a : Access} {r : ReqUnit} {d : List Byte} {g : Segment}
    {ns : List Notice} {op : Op} (ha : s.serves k src a) (hu : (s.segs.get k).unit = .request r) (hop : a.op = op)
    (ho : op = .takeRead ∨ op = .takenWrite ∨ op = .clearWrite ∨ op = .outcomeWrite ∨ op = .stateWrite)
    (hd : (s.freePort.work k).reqDone r op d = { s.freePort.work k with seg := g, notices := ns }) :
    exec (.accessComplete d) s = .next (s.freePort.afterEvent k g ns) := by
  subst hop
  exact exec_accessComplete_after ha ((Work.accessDone_request (w := s.freePort.work k) hu ho d).trans hd)

/-- The completion of such an access, where the request only moves the segment unit. -/
theorem exec_reqMoves {s : State} {k : Seg} {src : Source} {a : Access} {r : ReqUnit} {d : List Byte} {g : Segment}
    {op : Op} {f : Segment → Segment} (ha : s.serves k src a) (hu : (s.segs.get k).unit = .request r) (hop : a.op = op)
    (ho : op = .takeRead ∨ op = .takenWrite ∨ op = .clearWrite ∨ op = .outcomeWrite ∨ op = .stateWrite)
    (hw : ∀ w : Work, w.reqDone r op d = w.on f) (hf : f (s.segs.get k) = g) :
    exec (.accessComplete d) s = .next (s.freePort.afterEvent k g []) := by
  subst hf
  exact exec_reqDone ha hu hop ho (hw _)

theorem Work.reqDone_outcome {r : ReqUnit} {o : Ending} (ho : r.outcome = some o) (d : List Byte) (w : Work) :
    w.reqDone r .outcomeWrite d = w.on fun g => g.outcomeDone r o := by
  unfold Work.reqDone
  rw [ho]
  rfl

section
variable {g : Segment} {r : ReqUnit} {d : List Byte}

theorem Segment.takeDone_fresh (h : rdByte d 0x0E = 1) :
    g.takeDone r d = { g with
      unit := .request { r with step := .taken, body := parseReqRecord d },
      waits := { g.waits with unit := some ⟨.takenWrite, r.addr + 0x0E, 0, [(r.addr + 0x0E, 2)]⟩ } } := if_pos h

/-- A first member that is no longer FRESH: its opportunity passes, and a chain head becomes the anchor. -/
theorem Segment.takeDone_dropsFirst {u v : Segment} (h : rdByte d 0x0E ≠ 1) (hc : g.req.count = 0)
    (hu : u = Segment.clearUnit { g with req := { g.req with cand := none, ready := false } })
    (hv : v = if g.cycle.point = .inOpp then u.passOpportunity else u) :
    g.takeDone r d =
      if g.req.anchor.isSome then v else { v with req := { v.req with anchor := some r.addr } }.chainRequest := by
  have hdrop : g.takeDone r d =
      if v.req.anchor.isNone then { v with req := { v.req with anchor := some r.addr } }.chainRequest else v := by
    subst hv hu
    exact (if_neg h).trans (if_pos (decide_eq_true hc))
  have hanchor : v.req.anchor = g.req.anchor := by
    subst hv hu
    split
    · rw [Segment.passOpportunity_req]
      rfl
    · rfl
  rw [hdrop, hanchor]
  cases g.req.anchor with
  | none => rfl
  | some x => rfl

/-- A later member that is no longer FRESH ends its group. -/
theorem Segment.takeDone_endsGroup (h : rdByte d 0x0E ≠ 1) (hc : g.req.count ≠ 0) :
    g.takeDone r d = Segment.endUnit { g with req := { g.req with cand := none, ready := false } } :=
  (if_neg h).trans (if_neg (by simp [hc]))

theorem Segment.takenDone_marks {x : Word} (h : g.req.anchor = some x) :
    g.takenDone r = { g with
      unit := .request { r with step := .linkSeen },
      waits := { g.waits with unit := some ⟨.linkSeen, x + 0x94, 0, [(x + 0x94, 1)]⟩ } } := by
  unfold Segment.takenDone
  rw [h]
  rfl

theorem Segment.outcomeDone_noReply {o : Ending} (hb : r.buf = none) :
    g.outcomeDone r o = { g with
      unit := .request { r with step := .state },
      waits := { g.waits with unit := some (Access.mk
        .stateWrite (r.addr + 0x0E) 0 [(r.addr + 0x0E, if o = .ok then 3 else 4)]) } } := by
  unfold Segment.outcomeDone
  rw [hb]
  rfl

theorem Segment.outcomeDone_reply {o : Ending} {b : Buf} (hb : r.buf = some b) :
    g.outcomeDone r o = { g with
      unit := .request { r with step := .state, buf := none }, line := g.line.release b,
      waits := { g.waits with unit := some (Access.mk
        .stateWrite (r.addr + 0x0E) 0 [(r.addr + 0x0E, if o = .ok then 3 else 4)]) } } := by
  unfold Segment.outcomeDone
  rw [hb]
  rfl

end

/-- What the final state of a request makes of the cycle: a CYCLE_PAUSE or a CYCLE_RESUME that ended OK acts (R84, R85). -/
def Segment.requestActs (g : Segment) (r : ReqUnit) (o : Ending) : Segment :=
  if o = .ok ∧ r.body.kind = some .cyclePause then g.pauseCycle
  else if o = .ok ∧ r.body.kind = some .cycleResume then g.resumeCycle else g

/-- The notice of a request that has ended (R112). -/
def ReqUnit.doneNotice (r : ReqUnit) (k : Seg) (o : Ending) : List Notice :=
  if r.body.notify then
    [⟨.requestDone, BitVec.ofNat 8 k.toNat, 0xFF,
      if r.body.kind = some .pollOnce ∨ r.body.kind = some .set then r.body.target else 0, o.code, r.doneCycle, r.addr⟩]
  else []

theorem Segment.requestActs_eq (g : Segment) (r : ReqUnit) (o : Ending) :
    (if o = .ok then
      match r.body.kind with
      | some .cyclePause => g.pauseCycle
      | some .cycleResume => g.resumeCycle
      | _ => g
    else g) = g.requestActs r o := by
  unfold Segment.requestActs
  by_cases ho : o = .ok
  · simp only [ho, true_and, if_true]
    cases r.body.kind with
    | none => rfl
    | some kind => cases kind <;> rfl
  · simp only [ho, false_and, if_false]

/-- The final state is written: the record is the anchor, its notice is raised, a pause or a resume acts, and the successor
that the group found FRESH is taken or the unit ends. -/
theorem Work.stateDone_eq {w : Work} {r : ReqUnit} {o : Ending} {v : Segment} (ho : r.outcome = some o)
    (hv : v = Segment.requestActs { w.seg with req := { w.seg.req with anchor := some r.addr, current := none } } r o) :
    w.stateDone r = { w with
      seg := if r.last = false ∧ r.succ = .fresh then v.startTake else v.endUnit,
      notices := w.notices ++ r.doneNotice w.k o } := by
  subst hv
  rw [← Segment.requestActs_eq]
  unfold Work.stateDone ReqUnit.doneNotice
  rw [ho]
  by_cases hn : r.body.notify = true
  · simp only [hn, if_true]
    rfl
  · simp only [hn, Bool.false_eq_true, if_false, List.append_nil]
    rfl

/-! ## The end of a unit (R78, R79, R106, R112) -/

section
variable {g : Segment} {x : Word} {c : Cycle}

theorem Segment.endUnit_eq (g : Segment) : g.endUnit = Segment.chainRequest (
    if g.cycle.point = .inOpp ∧ g.state ≠ .stopping then g.clearUnit.passOpportunity else g.clearUnit) := rfl

/-- A unit that ends no cycle: before the last entry its opportunity passes, and elsewhere it has none. -/
theorem Segment.endUnit_reads (hs : g.stopWrite = false) (hc : g.req.chain = .idle) (hr : g.req.ready = false)
    (hn : g.req.current = none) (ha : g.req.anchor = some x)
    (h : g.cycle.point = .inOpp ∧ g.state ≠ .stopping ∧ g.cycle.index + 1 < g.blk.pollLength.toNat
          ∧ c = { g.cycle with index := g.cycle.index + 1, point := .entryDue }
        ∨ (g.cycle.point ≠ .inOpp ∨ g.state = .stopping) ∧ c = g.cycle) :
    g.endUnit = { g with
      unit := .none, xact := .idle, cycle := c,
      req := { g.req with
        chain := .link, count := 0, cond := .none, losses := 0, lineHeld := true, sent := false, gap := .none },
      waits := { g.waits with chain := some ⟨.chainLink, x, 4, []⟩ } } := by
  rw [Segment.endUnit_eq]
  rcases h with ⟨hp, hst, hi, rfl⟩ | ⟨h, rfl⟩
  · rw [if_pos ⟨hp, hst⟩, Segment.passOpportunity_next (g := g.clearUnit) hi]
    exact Segment.chainRequest_begins hs hc hr hn ha
  · rw [if_neg fun ⟨hp, hst⟩ => h.elim (fun e => e hp) hst]
    exact Segment.chainRequest_begins hs hc hr hn ha

/-- A unit served at the last opportunity of its cycle ends the cycle. -/
theorem Segment.endUnit_endsCycle (hp : g.cycle.point = .inOpp) (hst : g.state ≠ .stopping) (hs : g.stopWrite = false)
    (hi : g.blk.pollLength.toNat ≤ g.cycle.index + 1) (hc : g.req.chain = .idle) (hr : g.req.ready = false)
    (hn : g.req.current = none) (ha : g.req.anchor = some x) :
    g.endUnit = { g with
      unit := .none, xact := .idle, cycle := g.endedCycle,
      req := { g.req with
        chain := .link, count := 0, cond := .none, losses := 0, lineHeld := true, sent := false, gap := .none },
      waits := { g.waits with control := some g.progressWait, chain := some ⟨.chainLink, x, 4, []⟩ },
      prEnded := some g.cycle.number } := by
  rw [Segment.endUnit_eq, if_pos ⟨hp, hst⟩, Segment.passOpportunity_last (g := g.clearUnit) hi]
  exact Segment.chainRequest_begins hs hc hr hn ha

end

/-! ## Pause and resume (R84, R85) -/

section
variable {g : Segment}

theorem Segment.resumeCycle_locked (hc : g.cycle.state = .paused) (hl : g.state = .locked) (hf : g.faultHeld = none) :
    g.resumeCycle = g.beginCycle := by
  unfold Segment.resumeCycle
  rw [if_pos hc]
  exact if_pos (by simp [Segment.working, hl, hf])

theorem Segment.resumeCycle_held (hc : g.cycle.state = .paused) (h : g.state ≠ .locked ∨ g.faultHeld ≠ none) :
    g.resumeCycle = { g with cycle := { g.cycle with held := true } } := by
  have hw : ¬g.working = true := by
    unfold Segment.working
    rcases h with h | h
    · simp [h]
    · simp [h]
  unfold Segment.resumeCycle
  rw [if_pos hc]
  exact if_neg hw

end

/-! ## The layout of a request record (R103, R172, 11) -/

/-- The nine kinds by their codes. -/
theorem ReqKind.ofCode_eq (b : Byte) : ReqKind.ofCode b = match b.toNat with
    | 1 => some .pollOnce | 2 => some .set | 3 => some .announce | 4 => some .stationClear | 5 => some .cyclePause
    | 6 => some .cycleResume | 7 => some .conserve | 8 => some .supplySweep | 9 => some .mark | _ => none := by
  unfold ReqKind.ofCode
  simp only [← BitVec.toNat_inj]
  generalize b.toNat = n
  match n with
  | 0 | 1 | 2 | 3 | 4 | 5 | 6 | 7 | 8 | 9 => rfl
  | n + 10 => simp

/-! ## The obligation -/

/-- Settles O49: each access of a request, the end of its unit, the opportunity, the chain request, the take of a successor,
the layout of the record, and the effects of a pause and of a resume. -/
theorem requestAccessesFollow : Obligations.RequestAccessesFollow := by
  refine ⟨fun s k g src a r ha hg hu => ?_, fun g u hu => ?_,
    fun g => ⟨Segment.passOpportunity_next, Segment.passOpportunity_last⟩,
    fun g => ⟨fun x => Segment.chainRequest_begins, Segment.chainRequest_noted, Segment.chainRequest_discarded⟩,
    fun g x c hs hc hr hn hx h => Segment.endUnit_reads hs hc hr hn hx h, fun g x c hp hst hs hi hc hr hn hx hcyc => ?_,
    fun g x => Segment.startTake_reads, fun x broken => ⟨_, rfl⟩, fun d => ?_,
    fun g => ⟨fun h => if_pos h, fun h => if_neg h, fun h => if_neg h, fun hc hl hf hn => ?_, fun hc hl hf hn => ?_,
      Segment.resumeCycle_held⟩⟩
  · subst hg
    refine ⟨fun d hop hd => ?_, fun d q u hop hd hc hq hu' => ?_, fun d hop hd hc => ?_, fun x hop hx => ?_,
      fun hop _ => ?_, fun o hop ho hb => ?_, fun o b hop ho hb => ?_, fun o u v hop ho hu' hv => ?_⟩
    · exact exec_reqMoves ha hu hop (.inl rfl) (f := fun g => g.takeDone r d) (fun _ => rfl)
        (Segment.takeDone_fresh hd)
    · subst hq
      exact exec_reqMoves ha hu hop (.inl rfl) (f := fun g => g.takeDone r d) (fun _ => rfl)
        (Segment.takeDone_dropsFirst hd hc hu' rfl)
    · exact exec_reqMoves ha hu hop (.inl rfl) (f := fun g => g.takeDone r d) (fun _ => rfl)
        (Segment.takeDone_endsGroup hd hc)
    · exact exec_reqMoves ha hu hop (.inr (.inl rfl)) (f := fun g => g.takenDone r) (fun _ => rfl)
        (Segment.takenDone_marks hx)
    · exact exec_reqMoves ha hu hop (.inr (.inr (.inl rfl)))
        (f := fun g => g.tryComplete { r with step := .serve, outcome := some .ok }) (fun _ => rfl) rfl
    · exact exec_reqMoves ha hu hop (.inr (.inr (.inr (.inl rfl)))) (Work.reqDone_outcome ho [])
        (Segment.outcomeDone_noReply hb)
    · exact exec_reqMoves ha hu hop (.inr (.inr (.inr (.inl rfl)))) (Work.reqDone_outcome ho [])
        (Segment.outcomeDone_reply hb)
    · subst hu'
      exact exec_reqDone ha hu hop (.inr (.inr (.inr (.inr rfl)))) (Work.stateDone_eq (w := s.freePort.work k) ho hv)
  · subst hu
    exact Segment.endUnit_eq g
  · subst hcyc
    exact Segment.endUnit_endsCycle hp hst hs hi hc hr hn hx
  · unfold parseReqRecord
    rw [ReqKind.ofCode_eq]
    rfl
  · exact (Segment.resumeCycle_locked hc hl hf).trans (Segment.beginCycle_entries hn)
  · exact (Segment.resumeCycle_locked hc hl hf).trans (Segment.beginCycle_noEntries hn)

end Sys2Proof.Machine

/-! What the reads of a chain and of a held group's successor decide, and the outcome write of a request (R105, R106, R112,
R113, R115, R118, R124, R156). -/

namespace Sys2Proof.Machine

/-! ## The link of a read (R106, R124) -/

theorem rdWord_of_bytes (b0 b1 b2 b3 : Byte) :
    rdWord [b0, b1, b2, b3] 0 = ((b3 ++ b2 : Half) ++ (b1 ++ b0 : Half) : Word) := rfl

/-- A link read is bad where the link is no multiple of 16. -/
theorem badLink_iff {op : Op} {d : List Byte} (ho : op = .chainLink ∨ op = .groupLink) :
    badLink op d = true ↔ (rdWord d 0).toNat % 16 ≠ 0 := by
  have hop : (op == .chainLink || op == .groupLink) = true := by
    rcases ho with rfl | rfl <;> rfl
  unfold badLink
  rw [hop, Bool.true_and, Bool.not_eq_true', ne_eq, ← aligned16_iff, Bool.not_eq_true]

/-- Of the other pieces no link is read, and a multiple of 16 is a good one. -/
theorem badLink_good {op : Op} {d : List Byte} (h : (op ≠ .chainLink ∧ op ≠ .groupLink) ∨ (rdWord d 0).toNat % 16 = 0) :
    badLink op d = false := by
  rcases h with ⟨h1, h2⟩ | h
  · simp [badLink, h1, h2]
  · simp [badLink, (aligned16_iff _).mpr h]

/-! ## The responses of a chain read and of a held group's successor read -/

section
variable {w : Work} {a : Access} {r : ReqUnit} {d : List Byte}

/-- The accesses of the chain source, their link not bad, move the segment unit alone. -/
theorem Work.accessDone_chain (ho : a.op = .headState ∨ a.op = .chainLink ∨ a.op = .chainState)
    (hb : badLink a.op d = false) : w.accessDone a d = w.on fun g => g.chainDone a.op d := by
  have hn : ¬badLink a.op d = true := by simp [hb]
  unfold Work.accessDone
  rcases ho with ho | ho | ho <;> rw [ho] at hn ⊢ <;> exact if_neg hn

/-- So do the reads of a held group's successor, for the request in service. -/
theorem Work.accessDone_group (hu : w.seg.unit = .request r) (ho : a.op = .groupLink ∨ a.op = .groupState)
    (hb : badLink a.op d = false) : w.accessDone a d = w.reqDone r a.op d := by
  have hn : ¬badLink a.op d = true := by simp [hb]
  unfold Work.accessDone
  rcases ho with ho | ho <;> rw [ho] at hn ⊢ <;> dsimp only <;> rw [hu] <;> exact if_neg hn

/-- A bad link is a fault of the segment, in a chain read and in a group's. -/
theorem Work.accessDone_badLink (ho : a.op = .chainLink ∨ (a.op = .groupLink ∧ w.seg.unit = .request r))
    (hb : (rdWord d 0).toNat % 16 ≠ 0) : w.accessDone a d = w.takeFault .badLink (rdWord d 0) := by
  have hbad : badLink a.op d = true := (badLink_iff (ho.imp_right And.left)).mpr hb
  unfold Work.accessDone
  rcases ho with ho | ⟨ho, hu⟩
  · rw [ho] at hbad ⊢
    exact if_pos hbad
  · rw [ho] at hbad ⊢
    dsimp only
    rw [hu]
    exact if_pos hbad

end

section
variable {s : State} {k : Seg} {src : Source} {a : Access} {d : List Byte} {g : Segment}

/-- The completion of an access of the chain source gives the segment unit the value its operation answers. -/
theorem exec_chainDone {op : Op} (ha : s.serves k src a) (hop : a.op = op)
    (ho : op = .headState ∨ op = .chainLink ∨ op = .chainState)
    (hb : op ≠ .chainLink ∨ (rdWord d 0).toNat % 16 = 0) (hd : (s.segs.get k).chainDone op d = g) :
    exec (.accessComplete d) s = .next (s.freePort.afterEvent k g []) := by
  subst hop hd
  refine exec_accessComplete_after ha (Work.accessDone_chain (w := s.freePort.work k) ho (badLink_good ?_))
  refine hb.imp_left fun h => ⟨h, ?_⟩
  rcases ho with ho | ho | ho <;> rw [ho] <;> simp

/-- The completion of the read of a member's link. -/
theorem exec_groupLinkDone {r : ReqUnit} (ha : s.serves k src a) (hu : (s.segs.get k).unit = .request r)
    (hop : a.op = .groupLink) (hb : (rdWord d 0).toNat % 16 = 0)
    (hd : (s.segs.get k).groupLinkDone r (rdWord d 0) = g) :
    exec (.accessComplete d) s = .next (s.freePort.afterEvent k g []) := by
  subst hd
  refine exec_accessComplete_after ha ((Work.accessDone_group (w := s.freePort.work k) hu (.inl hop)
    (badLink_good (.inr hb))).trans ?_)
  rw [hop]
  rfl

/-- The completion of the read of a successor's state. -/
theorem exec_groupStateDone {r : ReqUnit} (ha : s.serves k src a) (hu : (s.segs.get k).unit = .request r)
    (hop : a.op = .groupState) (hd : (s.segs.get k).groupStateDone r (rdByte d 0) = g) :
    exec (.accessComplete d) s = .next (s.freePort.afterEvent k g []) := by
  subst hd
  refine exec_accessComplete_after ha ((Work.accessDone_group (w := s.freePort.work k) hu (.inr hop)
    (badLink_good (.inl (by simp [hop])))).trans ?_)
  rw [hop]
  rfl

/-- A bad link takes a live segment that drives no frame to FAULTED, with the link as the reference word owed (R106, R40). -/
theorem exec_badLink {r : ReqUnit} (ha : s.serves k src a)
    (ho : a.op = .chainLink ∨ (a.op = .groupLink ∧ (s.segs.get k).unit = .request r))
    (hb : (rdWord d 0).toNat % 16 ≠ 0) (hl : (s.segs.get k).live = true) (ht : (s.segs.get k).line.tx = none) :
    ∃ t, exec (.accessComplete d) s = .next t ∧ (t.segs.get k).state = .faulted ∧ (t.segs.get k).fault = .badLink
      ∧ (t.segs.get k).faultOwed = some (rdWord d 0) := by
  obtain ⟨x, hfault⟩ := Work.takeFault_now (w := s.freePort.work k) .badLink (rdWord d 0) hl ht
  have hfin : ((s.freePort.work k).accessDone a d).finish = { s.freePort.work k with
      drop := x, seg := ((s.segs.get k).faultTaken .badLink).faultEntered (rdWord d 0) (s.freePort.work k).wide } := by
    rw [Work.accessDone_badLink (w := s.freePort.work k) ho hb, hfault, Work.enterFaulted_eq]
    exact Work.finish_faulted rfl rfl
  refine ⟨_, exec_accessComplete ha d, ?_⟩
  rw [State.settle_segs, State.onSeg_segs, Four.get_put_same, hfin]
  exact ⟨rfl, rfl, rfl⟩

end

/-! ## What a chain read decides (R105, R106) -/

section
variable {g : Segment}

/-- The request engine once a chain read has ended. -/
def ReqEngine.chainEnded (q : ReqEngine) : ReqEngine := { q with chain := .idle, more := false }

theorem Segment.chainEnd_eq (g : Segment) : g.chainEnd =
    if g.req.more then Segment.chainRequest { g with req := g.req.chainEnded } else { g with req := g.req.chainEnded } := rfl

/-- A chain read ends for good where none was noted, or where the one noted is discarded (log 19). -/
theorem Segment.chainEnd_ends (h : g.req.more = false ∨ g.stopWrite = true ∨ g.req.ready = true ∨ g.req.current ≠ none
      ∨ g.req.anchor = none) : g.chainEnd = { g with req := g.req.chainEnded } := by
  rw [Segment.chainEnd_eq]
  rcases h with h | h
  · exact if_neg (by simp [h])
  · have hdiscard : Segment.chainRequest { g with req := g.req.chainEnded } = { g with req := g.req.chainEnded } :=
      Segment.chainRequest_discarded (h.imp_right fun h => .inr ⟨rfl, h⟩)
    rw [hdiscard, ite_self]

/-- A chain read noted meanwhile begins (log 19). -/
theorem Segment.chainEnd_begins {x : Word} (hm : g.req.more = true) (hs : g.stopWrite = false) (hr : g.req.ready = false)
    (hn : g.req.current = none) (ha : g.req.anchor = some x) :
    g.chainEnd = { g with
      req := { g.req with chain := .link, more := false },
      waits := { g.waits with chain := some ⟨.chainLink, x, 4, []⟩ } } := by
  rw [Segment.chainEnd_eq, if_pos hm]
  exact Segment.chainRequest_begins (g := { g with req := g.req.chainEnded }) hs rfl hr hn ha

theorem Segment.chainLinkDone_zero : g.chainLinkDone 0 = g.chainEnd := if_pos rfl

theorem Segment.chainLinkDone_reads {link : Word} (h : link ≠ 0) :
    g.chainLinkDone link = { g with
      req := { g.req with chain := .state link },
      waits := { g.waits with chain := some ⟨.chainState, link + 0x0E, 1, []⟩ } } := if_neg h

/-- The request engine once the state st of the successor at x is read: a FRESH one is the candidate. -/
def ReqEngine.successorRead (q : ReqEngine) (x : Word) (st : Byte) : ReqEngine :=
  if st = 1 then { q with cand := some x, ready := true, chain := .idle, more := false }
  else { q with chain := .idle, more := false }

/-- The read of the successor's state ends the chain read, and one that was noted is judged again. -/
theorem Segment.chainStateDone_ends {x : Word} (h : g.req.chain = .state x) (st : Byte) :
    g.chainStateDone st =
      if g.req.more then Segment.chainRequest { g with req := g.req.successorRead x st }
      else { g with req := g.req.successorRead x st } := by
  unfold Segment.chainStateDone ReqEngine.successorRead
  rw [h]
  by_cases hs : st = 1
  · rw [if_pos hs]
    exact if_pos hs
  · rw [if_neg hs]
    exact if_neg hs

theorem Segment.headDone_fresh : g.headDone 1 = { g with
    req := { g.req with chain := .idle, examined := true, cand := some g.blk.chainHead, ready := true } } := by
  unfold Segment.headDone
  exact if_pos rfl

/-- A chain head that is not FRESH is the anchor, and its link is read. -/
theorem Segment.headDone_anchors {st : Byte} (h : st ≠ 1) (hs : g.stopWrite = false) (hr : g.req.ready = false)
    (hn : g.req.current = none) :
    g.headDone st = { g with
      req := { g.req with chain := .link, examined := true, anchor := some g.blk.chainHead },
      waits := { g.waits with chain := some ⟨.chainLink, g.blk.chainHead, 4, []⟩ } } := by
  refine (if_neg h).trans ?_
  exact Segment.chainRequest_begins (g := { g with
    req := { g.req with chain := .idle, examined := true, anchor := some g.blk.chainHead } }) hs rfl hr hn rfl

end

/-! ## What the read of a held group's successor decides (R124) -/

section
variable {g : Segment} {r : ReqUnit}

theorem ReqEngine.groupOfOne_eq (q : ReqEngine) :
    q.groupOfOne = { q with cond := if q.cond = .holding ∧ q.count = 1 then .none else q.cond } := by
  unfold ReqEngine.groupOfOne
  split <;> rfl

/-- A link of 0 ends the group with this member. -/
theorem Segment.groupLinkDone_zero : g.groupLinkDone r 0 = Segment.tryComplete
    { g with req := { g.req with cond := if g.req.cond = .holding ∧ g.req.count = 1 then .none else g.req.cond } }
    { r with succ := .unmet, holdUnmet := true } := by
  rw [← ReqEngine.groupOfOne_eq]
  exact if_pos rfl

theorem Segment.groupLinkDone_reads {link : Word} (h : link ≠ 0) :
    g.groupLinkDone r link = { g with
      unit := .request { r with succ := .state link },
      waits := { g.waits with unit := some ⟨.groupState, link + 0x0E, 1, []⟩ } } := if_neg h

/-- A FRESH successor is the candidate. -/
theorem Segment.groupStateDone_fresh {x : Word} (h : r.succ = .state x) :
    g.groupStateDone r 1 = Segment.tryComplete { g with req := { g.req with cand := some x, ready := true } }
      { r with succ := .fresh } := by
  unfold Segment.groupStateDone
  rw [h]
  exact if_pos rfl

/-- Any other ends the group with this member. -/
theorem Segment.groupStateDone_unmet {x : Word} {st : Byte} (h : r.succ = .state x) (hs : st ≠ 1) :
    g.groupStateDone r st = Segment.tryComplete
      { g with req := { g.req with cond := if g.req.cond = .holding ∧ g.req.count = 1 then .none else g.req.cond } }
      { r with succ := .unmet, holdUnmet := true } := by
  rw [← ReqEngine.groupOfOne_eq]
  unfold Segment.groupStateDone
  rw [h]
  exact if_neg hs

end

/-! ## Completion (R112, R113, R115, R118) -/

section
variable {g : Segment} {r : ReqUnit}

theorem Segment.tryComplete_waits (h : r.step ≠ .serve ∨ r.succ.reading = true) :
    g.tryComplete r = { g with unit := .request r } := by
  refine if_neg ?_
  rintro ⟨hs, hr⟩
  rcases h with h | h
  · exact h hs
  · simp [hr] at h

/-- The outcome write of a request that keeps the reply f: its bytes begin with the payload, if it has one. -/
def ReqUnit.replyWrite (r : ReqUnit) (o : Ending) (f : RxFrame) (cycle : Word) : Access :=
  ⟨.outcomeWrite, if payloadOf f.chars = [] then r.addr + 0x90 else r.addr + 0x50, 0,
    placeAt (r.addr + 0x50) (payloadOf f.chars)
      ++ placeAt (r.addr + 0x90) [o.code, BitVec.ofNat 8 r.used, lenOf f.chars,
          (if f.good then 0 else 1) ||| (if seqOf f.chars then 2 else 0) ||| (if r.holdUnmet then 4 else 0)]
      ++ placeAt (r.addr + 0x98) (wrWord cycle ++ wrWord r.result)⟩

theorem outcomeBytes_reply (r : ReqUnit) (o : Ending) (f : RxFrame) (cycle : Word) :
    outcomeBytes r o (some f) cycle = (r.replyWrite o f cycle).bytes := rfl

/-- The first byte of the write is the payload's, or that of the outcome (log 24). -/
theorem firstByte_replyWrite (r : ReqUnit) (o : Ending) (f : RxFrame) (cycle : Word) :
    firstByte (r.replyWrite o f cycle).bytes r.addr = (r.replyWrite o f cycle).addr := by
  unfold ReqUnit.replyWrite
  cases payloadOf f.chars <;> rfl

/-- A decided request that keeps a reply writes it with the outcome. -/
theorem Segment.tryComplete_reply {o : Ending} {b : Buf} {f : RxFrame} (hs : r.step = .serve)
    (hr : r.succ.reading = false) (ho : r.outcome = some o) (hb : r.buf = some b) (hf : g.line.held b = some f) :
    g.tryComplete r = { g with
      unit := .request { r with step := .outcome, doneCycle := g.cycle.number },
      waits := { g.waits with unit := some (r.replyWrite o f g.cycle.number) } } := by
  have hreply : g.replyOf r = some f := by
    unfold Segment.replyOf Segment.frameIn
    rw [hb, Option.map_some, hf]
    rfl
  unfold Segment.tryComplete
  rw [if_pos ⟨hs, hr⟩]
  simp only [ho, hreply, outcomeBytes_reply, firstByte_replyWrite]
  rfl

/-- A STATION_CLEAR that is not decided clears its station's status half first. -/
theorem Segment.tryComplete_clears (hs : r.step = .serve) (hr : r.succ.reading = false) (ho : r.outcome = none)
    (hk : r.body.kind = some .stationClear) :
    g.tryComplete r = { g with
      unit := .request { r with step := .clear },
      waits := { g.waits with unit := some (.write .clearWrite
        (g.blk.stationTable + BitVec.ofNat 32 (32 * r.body.target.toNat) + 16)
        [0, 0, 0xFF, 0, 0, 0, 0, 0, 0, 0, 0xFF, 0, 0, 0, 0, 0]) } } := by
  unfold Segment.tryComplete
  rw [if_pos ⟨hs, hr⟩, ho]
  exact if_pos hk

end

/-! ## The obligation -/

/-- Settles O52: each read by what it returns, and the completion of a request by what it still waits for. -/
theorem chainAndGroupReadsDecide : Obligations.ChainAndGroupReadsDecide := by
  refine ⟨fun s k g src a b0 b1 b2 b3 ha hg link hlink => ?_, fun s k g src a st ha hg => ?_, fun g r =>
    ⟨Segment.tryComplete_waits, fun o hs hr ho hb => Segment.tryComplete_outcome g hs hr hb ho,
      fun o b f => Segment.tryComplete_reply, Segment.tryComplete_clears⟩⟩
  · rw [← rdWord_of_bytes] at hlink
    subst hg hlink
    refine ⟨fun hop h0 h => ?_, fun x hop h0 hm hs hr hn hx => ?_, fun hop h0 h16 => ?_,
      fun r ho h16 hs hf hh ht => exec_badLink ha ho h16 (Segment.live_of hs hf hh) ht, fun r hop hu h0 h16 => ?_,
      fun r hop hu h0 => ?_⟩
    · refine exec_chainDone ha hop (.inr (.inl rfl)) (.inr (by simp [h0])) ?_
      show Segment.chainLinkDone _ _ = _
      rw [h0, Segment.chainLinkDone_zero]
      exact Segment.chainEnd_ends h
    · refine exec_chainDone ha hop (.inr (.inl rfl)) (.inr (by simp [h0])) ?_
      show Segment.chainLinkDone _ _ = _
      rw [h0, Segment.chainLinkDone_zero]
      exact Segment.chainEnd_begins hm hs hr hn hx
    · exact exec_chainDone ha hop (.inr (.inl rfl)) (.inr h16) (Segment.chainLinkDone_reads h0)
    · exact exec_groupLinkDone ha hu hop h16 (Segment.groupLinkDone_reads h0)
    · refine exec_groupLinkDone ha hu hop (by simp [h0]) ?_
      rw [h0]
      exact Segment.groupLinkDone_zero
  · subst hg
    refine ⟨fun x q hop hc hq => ?_, ?_, fun hop hs hw hr hn => ?_, ?_, fun r x hop hu hx hs => ?_⟩
    · subst hq
      exact exec_chainDone ha hop (.inr (.inr rfl)) (.inl (by simp)) (Segment.chainStateDone_ends hc st)
    · rintro hop rfl
      exact exec_chainDone ha hop (.inl rfl) (.inl (by simp)) Segment.headDone_fresh
    · exact exec_chainDone ha hop (.inl rfl) (.inl (by simp)) (Segment.headDone_anchors hs hw hr hn)
    · rintro r x hop hu hx rfl
      exact exec_groupStateDone ha hu hop (Segment.groupStateDone_fresh hx)
    · exact exec_groupStateDone ha hu hop (Segment.groupStateDone_unmet hx hs)

end Sys2Proof.Machine

/-! The sample timer and the sweep (R113, R122, R124, R143, R145, R149, R150). -/

namespace Sys2Proof.Machine

/-! ## Samples -/

/-- A sample moves the segment unit and raises notices, and nothing else. -/
theorem Work.sample_seg (w : Work) (r : Readings) :
    w.sample r = { w with seg := (w.sample r).seg, notices := (w.sample r).notices } := by
  unfold Work.sample
  dsimp only
  split <;> rfl

/-- A deferred sample is taken with the comparators at their steps (R150). -/
theorem Work.deferredSample_taken {w : Work} (h : w.seg.supply.deferred = true) (mv : Nat) :
    w.deferredSample mv = Work.sample { w with seg := { w.seg with supply := { w.seg.supply with deferred := false } } }
      ⟨decide (17000 + 1000 * w.seg.supply.lowCmp ≤ mv), decide (17000 + 1000 * w.seg.supply.weakCmp ≤ mv)⟩ := if_pos h

theorem Work.deferredSample_none {w : Work} (h : w.seg.supply.deferred = false) (mv : Nat) : w.deferredSample mv = w :=
  if_neg (by simp [h])

/-! ## The sample timer (R145, R150) -/

section
variable {w : Work} {mv : Nat}

theorem Work.sampleExpiry_samples {n : Nat} (ht : w.seg.supply.timer = .running n) (hs : w.seg.supply.sweep = .idle) :
    w.sampleExpiry mv
      = Work.sampleAt { w with seg := { w.seg with supply := { w.seg.supply with timer := .running 500 } } } mv := by
  unfold Work.sampleExpiry
  rw [ht]
  dsimp only [Work.on, Supply.loadTimer]
  rw [hs]
  rfl

/-- During a sweep the sample is deferred. -/
theorem Work.sampleExpiry_defers {n step : Nat} {best : Option Nat} (ht : w.seg.supply.timer = .running n)
    (hs : w.seg.supply.sweep = .sweeping step best) :
    w.sampleExpiry mv
      = { w with seg := { w.seg with supply := { w.seg.supply with timer := .running 500, deferred := true } } } := by
  unfold Work.sampleExpiry
  rw [ht]
  dsimp only [Work.on, Supply.loadTimer]
  rw [hs]
  rfl

theorem Work.sampleExpiry_stopped (ht : w.seg.supply.timer = .stopped) : w.sampleExpiry mv = w := by
  unfold Work.sampleExpiry
  rw [ht]

end

/-! ## The end of a sweep (R113, R122, R149) -/

section
variable {g : Segment} {best : Option Nat}

theorem Segment.sweepOver_request {q : ReqUnit} (hu : g.unit = .request q) :
    g.sweepOver best = g.sweepOff.decideReq { q with result := sweepResult best } .ok := by
  unfold Segment.sweepOver
  dsimp only
  rw [show g.sweepOff.unit = .request q from hu]

theorem Segment.sweepOver_other (hu : ∀ q, g.unit ≠ .request q) : g.sweepOver best = g.sweepOff := by
  unfold Segment.sweepOver
  dsimp only
  split
  next q hq => exact absurd hq (hu q)
  all_goals rfl

/-- An outcome OK breaks no group. -/
theorem Segment.decideReq_ok (g : Segment) (r : ReqUnit) :
    g.decideReq r .ok = Segment.tryComplete { g with xact := .idle } { r with outcome := some .ok } := rfl

/-- The request is decided OK, and its outcome write is drawn. -/
theorem Segment.sweepOver_outcome {q : ReqUnit} (hu : g.unit = .request q) (hs : q.step = .serve) (hb : q.buf = none)
    (hr : q.succ.reading = false) :
    g.sweepOver best = { g.sweepOff with
      xact := .idle,
      unit := .request { q with
        result := sweepResult best, outcome := some .ok, step := .outcome, doneCycle := g.cycle.number },
      waits := { g.waits with
        unit := some (ReqUnit.outcomeWrite { q with result := sweepResult best } .ok q.used g.cycle.number) } } := by
  rw [Segment.sweepOver_request hu, Segment.decideReq_ok]
  exact Segment.tryComplete_outcome (r := { q with result := sweepResult best, outcome := some .ok }) _ hs hr hb rfl

/-- While the successor is being read the decided request waits (R124). -/
theorem Segment.sweepOver_reading {q : ReqUnit} (hu : g.unit = .request q) (hr : q.succ.reading = true) :
    g.sweepOver best = { g.sweepOff with
      xact := .idle, unit := .request { q with result := sweepResult best, outcome := some .ok } } := by
  rw [Segment.sweepOver_request hu, Segment.decideReq_ok]
  exact Segment.tryComplete_reading (r := { q with result := sweepResult best, outcome := some .ok }) _ hr

/-- The end of a sweep moves of the supply monitor what ends the sweep, whatever the unit in service. -/
theorem Segment.sweepOver_supply : (g.sweepOver best).supply = g.sweepOff.supply := by
  have hside : (g.sweepOver best).side = g.sweepOff.side := by
    unfold Segment.sweepOver
    dsimp only
    split
    · exact Segment.decideReq_side _ _ _
    all_goals rfl
  simp only [Segment.side, Prod.mk.injEq] at hside
  obtain ⟨-, -, -, -, -, hsupply, -⟩ := hside
  exact hsupply

end

/-! ## The steps of a sweep (R143, R149, R150) -/

section
variable {w : Work} {mv next : Nat} {best : Option Nat}

/-- The highest step met once step n has been read of a supply of mv mV. -/
def Supply.stepMet (p : Supply) (n : Nat) (best : Option Nat) (mv : Nat) : Option Nat :=
  if (p.read mv).weak then some n else best

theorem Work.sweepStep_next {n : Nat} (hs : w.seg.supply.sweep = .sweeping n best) (hn : n < 7) :
    w.sweepStep mv next = { w with seg := { w.seg with supply := { w.seg.supply with
      sweep := .sweeping (n + 1) (w.seg.supply.stepMet n best mv), weakCmp := n + 1 } } } := by
  unfold Work.sweepStep
  rw [hs]
  exact if_pos hn

/-- The last step ends the sweep, and a deferred sample is taken. -/
theorem Work.sweepStep_last (hs : w.seg.supply.sweep = .sweeping 7 best) :
    w.sweepStep mv next = Work.deferredSample
      { w with seg := w.seg.sweepOver (w.seg.supply.stepMet 7 best mv) } next := by
  unfold Work.sweepStep
  rw [hs]
  exact if_neg (Nat.lt_irrefl 7)

/-- With no sample deferred the end of the sweep moves the segment unit alone. -/
theorem Work.sweepStep_ends (hs : w.seg.supply.sweep = .sweeping 7 best) (hd : w.seg.supply.deferred = false) :
    w.sweepStep mv next = { w with seg := w.seg.sweepOver (w.seg.supply.stepMet 7 best mv) } := by
  rw [Work.sweepStep_last hs]
  exact Work.deferredSample_none ((congrArg Supply.deferred Segment.sweepOver_supply).trans hd) next

/-- A deferred sample is taken with the comparators at the steps that the end of the sweep leaves. -/
theorem Work.sweepStep_samples {v : Segment} (hs : w.seg.supply.sweep = .sweeping 7 best)
    (hd : w.seg.supply.deferred = true) (hv : v = w.seg.sweepOver (w.seg.supply.stepMet 7 best mv)) :
    w.sweepStep mv next = Work.sample { w with seg := { v with supply := { v.supply with deferred := false } } }
      ⟨decide (17000 + 1000 * w.seg.supply.lowCmp ≤ next), decide (17000 + 1000 * w.seg.blk.weakStep.toNat ≤ next)⟩ := by
  have hsupply : v.supply = w.seg.sweepOff.supply := by
    rw [hv]
    exact Segment.sweepOver_supply
  have hlow : v.supply.lowCmp = w.seg.supply.lowCmp := (congrArg Supply.lowCmp hsupply).trans rfl
  have hweak : v.supply.weakCmp = w.seg.blk.weakStep.toNat := congrArg Supply.weakCmp hsupply
  rw [Work.sweepStep_last hs, ← hv, ← hlow, ← hweak]
  exact Work.deferredSample_taken (w := { w with seg := v }) ((congrArg Supply.deferred hsupply).trans hd) next

theorem Work.sweepStep_idle (hs : w.seg.supply.sweep = .idle) : w.sweepStep mv next = w := by
  unfold Work.sweepStep
  rw [hs]

end

/-! ## The obligation -/

/-- Settles O44: the sample timer by the state of the sweep, and a sweep step by its number and by what the end of the sweep
finds. -/
theorem sampleTimerAndSweepSteps : Obligations.SampleTimerAndSweepSteps := by
  refine ⟨fun s k g mv r w hg hw hr => ?_, fun s k g mv next met hg hmet => ?_⟩
  · subst hg
    refine ⟨fun n ht hs => ?_, fun n step best ht hs => ?_, fun ht => ?_⟩
    · refine State.workEvent_after ((Work.sampleExpiry_samples (w := s.work k) ht hs).trans ?_)
      subst hw hr
      exact Work.sample_seg _ _
    · exact State.workEvent_after (Work.sampleExpiry_defers (w := s.work k) ht hs)
    · exact State.workEvent_after (Work.sampleExpiry_stopped (w := s.work k) ht)
  · have hbest : ∀ n best, (if met then some n else best) = g.supply.stepMet n best mv := by
      rw [hmet]
      exact fun _ _ => rfl
    simp only [hbest]
    subst hg
    refine ⟨fun n best hs hn => ?_, fun best q hs hd hu hq hb hr => ?_, fun best q hs hd hu hq hr => ?_,
      fun best w r hs hd hw hr => ?_, fun hs => ?_, fun best u hu => ⟨fun q hq => ?_, fun hn => ?_⟩⟩
    · exact State.workEvent_after (Work.sweepStep_next (w := s.work k) hs hn)
    · refine State.workEvent_after ((Work.sweepStep_ends (w := s.work k) hs hd).trans ?_)
      exact congrArg (fun v : Segment => ({ s.work k with seg := v } : Work))
        (Segment.sweepOver_outcome hu hq hb (Succ.reading_eq_false hr))
    · refine State.workEvent_after ((Work.sweepStep_ends (w := s.work k) hs hd).trans ?_)
      exact congrArg (fun v : Segment => ({ s.work k with seg := v } : Work)) (Segment.sweepOver_reading hu hr)
    · refine State.workEvent_after ((Work.sweepStep_samples (w := s.work k) hs hd rfl).trans ?_)
      subst hw hr
      exact Work.sample_seg _ _
    · exact State.workEvent_after (Work.sweepStep_idle (w := s.work k) hs)
    · subst hu
      exact Segment.sweepOver_request hq
    · subst hu
      exact Segment.sweepOver_other hn

end Sys2Proof.Machine

/-! A taken request (R108 to R111, R115 to R126, R149): it becomes current, is checked and served by its kind, and the frame of
its line work begins. -/

namespace Sys2Proof.Machine

/-! ## The record is current (R108, R124, R37) -/

/-- The completion of the access after which the record is current. -/
theorem exec_becomesCurrent {s : State} {k : Seg} {src : Source} {a : Access} {r : ReqUnit} (ha : s.serves k src a)
    (hu : (s.segs.get k).unit = .request r)
    (ho : a.op = .linkSeen ∨ (a.op = .takenWrite ∧ (s.segs.get k).req.anchor = none)) :
    exec (.accessComplete []) s = .next (s.freePort.afterEvent k ((s.segs.get k).becomeCurrent r) []) := by
  refine exec_accessComplete_after ha ?_
  have hu' : (s.freePort.work k).seg.unit = .request r := hu
  rcases ho with ho | ⟨ho, hn⟩
  · unfold Work.accessDone
    rw [ho]
    dsimp only
    rw [hu']
    rfl
  · have htaken : (s.segs.get k).takenDone r = (s.segs.get k).becomeCurrent r := by
      unfold Segment.takenDone
      rw [hn]
    rw [Work.accessDone_request hu' (.inr (.inl ho)), ho, ← htaken]
    rfl

section
variable {g : Segment} {r : ReqUnit}

/-- The request engine once the record at x is current, one more member of its group. -/
def ReqEngine.memberTaken (q : ReqEngine) (x : Word) : ReqEngine :=
  { q with current := some x, cand := none, ready := false, count := q.count + 1 }

theorem Segment.becomeCurrent_single (h : r.body.hold = false) :
    g.becomeCurrent r = Segment.serveReq { g with req := g.req.memberTaken r.addr } { r with step := .serve } :=
  if_neg (by simp [h])

/-- The eighth member of a group is its last. -/
theorem Segment.becomeCurrent_eighth (h : r.body.hold = true) (hc : 8 ≤ g.req.count + 1) :
    g.becomeCurrent r = Segment.serveReq { g with req := g.req.memberTaken r.addr }
      { r with step := .serve, holdUnmet := true } :=
  (if_pos h).trans (if_pos hc)

/-- A member with HOLD before the eighth: its group is held, and its successor is read. -/
theorem Segment.becomeCurrent_holds (h : r.body.hold = true) (hc : g.req.count + 1 < 8) (hl : r.last = false) :
    g.becomeCurrent r = Segment.serveReq
      { g with
        req := { g.req.memberTaken r.addr with cond := if g.req.cond = .breaking then .breaking else .holding },
        waits := { g.waits with unit := some ⟨.groupLink, r.addr, 4, []⟩ } }
      { r with step := .serve, succ := .link } := by
  have hhold : (g.req.memberTaken r.addr).holdGroup
      = { g.req.memberTaken r.addr with cond := if g.req.cond = .breaking then .breaking else .holding } := by
    unfold ReqEngine.holdGroup
    by_cases hb : g.req.cond = .breaking
    · rw [if_pos hb]
      refine (if_pos hb).trans ?_
      rw [← hb]
      rfl
    · rw [if_neg hb]
      exact if_neg hb
  rw [← hhold]
  exact (if_pos h).trans ((if_neg (Nat.not_le.mpr hc)).trans (if_neg (by simp [hl])))

/-- Once a stop lets no member follow, no successor is read. -/
theorem Segment.becomeCurrent_last (h : r.body.hold = true) (hc : g.req.count + 1 < 8) (hl : r.last = true) :
    g.becomeCurrent r = Segment.serveReq { g with req := g.req.memberTaken r.addr } { r with step := .serve } :=
  (if_pos h).trans ((if_neg (Nat.not_le.mpr hc)).trans (if_pos hl))

end

/-! ## The checks of a taken request (R109, R110, R126, R37) -/

theorem ReqRecord.bad_iff (b : SegBlock) (r : ReqRecord) : r.bad b = false ↔ RequestFits b r := by
  unfold ReqRecord.bad RequestFits
  cases r.kind with
  | none => simp
  | some kind =>
    simp only [Option.some.injEq, exists_eq_left', Bool.or_eq_false_iff, Bool.and_eq_false_imp, beq_eq_false_iff_ne, ne_eq,
      decide_eq_false_iff_not, Nat.not_lt, Nat.not_le, Bool.or_eq_true, beq_iff_eq, badAddress_iff, and_assoc,
      Nat.one_le_iff_ne_zero, toNat_eq_zero_iff]

/-- POLL_ONCE, SET and ANNOUNCE have line work. -/
theorem ReqRecord.isLine_iff (r : ReqRecord) :
    r.isLine = true ↔ r.kind = some .pollOnce ∨ r.kind = some .set ∨ r.kind = some .announce := by
  unfold ReqRecord.isLine
  simp [or_assoc]

/-- The action of a request that has passed the checks, by its kind (R111, R118 to R123). -/
def Segment.actOn (g : Segment) (r : ReqUnit) : Segment :=
  match r.body.kind with
  | some .pollOnce | some .set | some .announce =>
    if g.state = .locked then { g with unit := .request { r with attempt := 1 }, xact := .ready }
    else g.decideReq r g.departEnding
  | some .stationClear => g.tryComplete r
  | some .cyclePause | some .cycleResume | some .mark => g.decideReq r .ok
  | some .conserve =>
    Segment.decideReq { g with supply := { g.supply with forced := decide (r.body.arg = 1) } } r .ok
  | some .supplySweep => Segment.beginSweep { g with unit := .request r }
  | none => g.decideReq r .badRequest

section
variable {g : Segment} {r : ReqUnit}

theorem Segment.serveReq_broken (hb : r.broken = true) : g.serveReq r = g.decideReq r .groupBroken := if_pos hb

theorem Segment.serveReq_aborted (hb : r.broken = false) (hs : g.state = .stopping) :
    g.serveReq r = g.decideReq r .aborted := (if_neg (by simp [hb])).trans (if_pos hs)

theorem Segment.serveReq_bad (hb : r.broken = false) (hs : g.state ≠ .stopping) (hf : ¬RequestFits g.blk r.body) :
    g.serveReq r = g.decideReq r .badRequest := by
  rw [← ReqRecord.bad_iff, Bool.not_eq_false] at hf
  exact (if_neg (by simp [hb])).trans ((if_neg hs).trans (if_pos hf))

/-- A request that fits its fields: line work of a HEAVY request is refused in conserve, and any other acts. -/
theorem Segment.serveReq_fits (hb : r.broken = false) (hs : g.state ≠ .stopping) (hf : RequestFits g.blk r.body) :
    g.serveReq r = if r.body.isLine = true ∧ r.body.heavy = true ∧ g.conserve = true then g.decideReq r .supplyWeak
      else g.actOn r := by
  rw [← ReqRecord.bad_iff] at hf
  exact (if_neg (by simp [hb])).trans ((if_neg hs).trans (if_neg (by simp [hf])))

/-- A request without line work acts whatever the supply. -/
theorem Segment.serveReq_noLine (hb : r.broken = false) (hs : g.state ≠ .stopping) (hf : RequestFits g.blk r.body)
    (hl : ¬r.body.isLine = true) : g.serveReq r = g.actOn r :=
  (Segment.serveReq_fits hb hs hf).trans (if_neg fun h => hl h.1)

theorem Segment.departEnding_if (g : Segment) :
    g.departEnding = if g.departed = .lockLoss then .framingLost else .lineStall := by
  unfold Segment.departEnding
  cases g.departed <;> rfl

/-! ## The action of each kind (R111, R118 to R123, R149) -/

theorem Segment.actOn_line (hl : r.body.isLine = true) :
    g.actOn r = if g.state = .locked then { g with unit := .request { r with attempt := 1 }, xact := .ready }
      else g.decideReq r (if g.departed = .lockLoss then .framingLost else .lineStall) := by
  rw [← Segment.departEnding_if]
  unfold Segment.actOn
  rcases (ReqRecord.isLine_iff _).mp hl with hk | hk | hk <;> rw [hk]

theorem Segment.actOn_clear (hk : r.body.kind = some .stationClear) : g.actOn r = g.tryComplete r := by
  unfold Segment.actOn
  rw [hk]

theorem Segment.actOn_done (hk : r.body.kind = some .cyclePause ∨ r.body.kind = some .cycleResume
    ∨ r.body.kind = some .mark) : g.actOn r = g.decideReq r .ok := by
  unfold Segment.actOn
  rcases hk with hk | hk | hk <;> rw [hk]

theorem Segment.actOn_conserve (hk : r.body.kind = some .conserve) : g.actOn r =
    Segment.decideReq { g with supply := { g.supply with forced := decide (r.body.arg = 1) } } r .ok := by
  unfold Segment.actOn
  rw [hk]

theorem Segment.actOn_sweep (hk : r.body.kind = some .supplySweep) :
    g.actOn r = Segment.beginSweep { g with unit := .request r } := by
  unfold Segment.actOn
  rw [hk]

/-- In LOCKED a sweep begins at step 0, with no step met. -/
theorem Segment.beginSweep_locked (hs : g.state = .locked) (hf : g.faultHeld = none) :
    g.beginSweep = { g with supply := { g.supply with sweep := .sweeping 0 none, weakCmp := 0 } } :=
  if_pos (by simp [Segment.working, hs, hf])

end

/-! ## A sweep that waits for LOCKED (R149, R31) -/

/-- A begin that was held at the entry to LOCKED moves nothing of the request in service. -/
theorem Segment.beginHeld_keeps (g : Segment) :
    g.beginHeld.unit = g.unit ∧ g.beginHeld.supply = g.supply ∧ g.beginHeld.state = g.state
      ∧ g.beginHeld.faultHeld = g.faultHeld := by
  have hcycle : g.beginCycle.unit = g.unit := by
    unfold Segment.beginCycle
    dsimp only
    repeat' split
    all_goals rfl
  have hside := g.beginCycle_side
  simp only [Segment.side, Prod.mk.injEq] at hside
  obtain ⟨-, -, -, -, -, hsupply, -⟩ := hside
  have hctl := g.beginCycle_ctl
  simp only [Segment.ctl, Prod.mk.injEq] at hctl
  obtain ⟨hstate, -, hheld, -⟩ := hctl
  unfold Segment.beginHeld
  split
  · exact ⟨hcycle, hsupply, hstate, hheld⟩
  · exact ⟨rfl, rfl, rfl, rfl⟩

/-- The entry to LOCKED begins the sweep of a SUPPLY_SWEEP in service that has waited for it (log 40). -/
theorem Segment.enterLocked_sweeps {g : Segment} {r : ReqUnit} (detail : Byte) (hf : g.faultHeld = none)
    (he : g.everLocked = true) (hu : g.unit = .request r) (hs : r.step = .serve) (ho : r.outcome = none)
    (hk : r.body.kind = some .supplySweep) (hw : g.supply.sweep = .idle) :
    (g.enterLocked detail).supply = { g.supply with sweep := .sweeping 0 none, weakCmp := 0 } := by
  have hlock : g.enterLocked detail = (g.lockedAt detail).beginHeld.beginHeldSweep := by
    unfold Segment.enterLocked
    exact if_pos he
  obtain ⟨hunit, hsupply, hstate, hheld⟩ := (g.lockedAt detail).beginHeld_keeps
  have hsweep : (g.lockedAt detail).beginHeld.beginHeldSweep = (g.lockedAt detail).beginHeld.beginSweep := by
    unfold Segment.beginHeldSweep
    rw [hunit.trans hu]
    exact if_pos ⟨hk, hs, ho, (congrArg Supply.sweep hsupply).trans hw⟩
  rw [hlock, hsweep, Segment.beginSweep_locked hstate (hheld.trans hf)]
  exact congrArg (fun p : Supply => { p with sweep := .sweeping 0 none, weakCmp := 0 }) hsupply

/-- The quiet interval that locks the segment begins the sweep that waited for it. -/
theorem exec_quietInterval_sweeps {s : State} {k : Seg} {r : ReqUnit} (hs : (s.segs.get k).state = .acquiring)
    (hf : (s.segs.get k).faultHeld = none) (hi : (s.segs.get k).line.idle = true) (he : (s.segs.get k).everLocked = true)
    (hu : (s.segs.get k).unit = .request r) (hr : r.step = .serve) (ho : r.outcome = none)
    (hk : r.body.kind = some .supplySweep) (hw : (s.segs.get k).supply.sweep = .idle) :
    ∃ t, exec (.quietInterval k) s = .next t ∧ (t.segs.get k).state = .locked
      ∧ (t.segs.get k).supply = { (s.segs.get k).supply with sweep := .sweeping 0 none, weakCmp := 0 } := by
  obtain ⟨hlocked, -⟩ := State.afterEvent_enterLocked s k (detail := 2) hf
  obtain ⟨-, hctl, -⟩ := (s.segs.get k).enterLocked_locksAs 2
  simp only [Segment.ctl, Prod.mk.injEq] at hctl
  obtain ⟨hstate, -, hheld, -⟩ := hctl
  have hst : ((s.segs.get k).enterLocked 2).state = .locked := hstate
  have hlive : ((s.segs.get k).enterLocked 2).live = true :=
    Segment.live_of (by rw [hst]; simp) (by rw [hst]; simp) (hheld.trans hf)
  obtain ⟨hsupply, -⟩ := Work.finish_supply (w := s.workWith k ((s.segs.get k).enterLocked 2) []) hlive
    (by rw [State.workWith_seg, hst]; simp)
  refine ⟨_, exec_quietInterval hf hs hi, hlocked, ?_⟩
  rw [State.afterEvent_seg, hsupply]
  exact Segment.enterLocked_sweeps 2 hf he hu hr ho hk hw

/-! ## The frame of a line request (R5, R13, R111, R115 to R117, R125) -/

theorem ctrlByte_ackBit (b : Byte) : ctrlByte .poll false (b == 1) = if b = 1 then 0x10 else 0x00 := by
  by_cases h : b = 1
  · rw [if_pos h, h]
    rfl
  · rw [if_neg h, beq_false_of_ne h]
    rfl

section
variable {g : Segment} {r : ReqUnit}

/-- The frame of a line request, by its kind. -/
theorem Segment.workFrame_request {tx : Tx} (hu : g.unit = .request r)
    (h : (r.body.kind = some .pollOnce
          ∧ tx = ⟨buildFrame r.body.target g.blk.own0 (if r.body.ackBit = 1 then 0x10 else 0x00)
              (r.body.payload.take r.body.payLen.toNat), .poll, false⟩)
        ∨ (r.body.kind = some .set
          ∧ tx = ⟨buildFrame r.body.target g.blk.own0 0x02 (r.body.payload.take r.body.payLen.toNat), .set, false⟩)
        ∨ (r.body.kind = some .announce
          ∧ tx = ⟨buildFrame 0 g.blk.own0 0x06 (r.body.payload.take r.body.payLen.toNat), .announce, false⟩)) :
    g.workFrame = some tx := by
  unfold Segment.workFrame
  rw [hu]
  rcases h with ⟨hk, rfl⟩ | ⟨hk, rfl⟩ | ⟨hk, rfl⟩
  · dsimp only
    rw [hk, ← ctrlByte_ackBit]
  · dsimp only
    rw [hk]
    rfl
  · dsimp only
    rw [hk]
    rfl

/-- When the frame of a request may begin: at the hold gap in a group that holds the line, and at FREE otherwise. -/
theorem Segment.workMayBegin_request (hu : g.unit = .request r) : g.workMayBegin = true ↔
    if g.req.sent = true ∧ g.req.lineHeld = true ∧ (2 ≤ g.req.count ∨ g.req.cond = .holding)
      then g.req.gap = .reached else g.line.tracker = .free := by
  have hhold : (g.unit.isRequest && g.req.holdFrame) = true
      ↔ g.req.sent = true ∧ g.req.lineHeld = true ∧ (2 ≤ g.req.count ∨ g.req.cond = .holding) := by
    rw [hu]
    unfold ReqEngine.holdFrame WorkUnit.isRequest
    simp [and_assoc]
  unfold Segment.workMayBegin
  by_cases h : (g.unit.isRequest && g.req.holdFrame) = true
  · rw [if_pos h, if_pos (hhold.mp h)]
    exact beq_iff_eq
  · rw [if_neg h, if_neg (mt hhold.mpr h)]
    exact beq_iff_eq

/-- The frame of a request is marked as sent, and its hold gap is not measured yet. -/
theorem Segment.beginWork_request {tx : Tx} (hu : g.unit = .request r) (hw : g.workFrame = some tx) :
    g.beginWork = { g with
      line := { g.line with tx := some tx, tracker := .busy, idle := false },
      req := { g.req with sent := true, gap := .none }, xact := .sending } := by
  have hreq : g.unit.isRequest = true := by
    rw [hu]
    rfl
  unfold Segment.beginWork
  rw [hw]
  exact if_pos hreq

end

/-! ## The obligation -/

/-- Settles O48: the record that becomes current by its group, its checks in their order, its action by its kind, the sweep that
waits for LOCKED, and the frame of its line work through the epilogue. -/
theorem takenRequestIsServed : Obligations.TakenRequestIsServed := by
  refine ⟨fun s k g src a r ha hg hu ho => ?_, fun g r q hq => ?_, fun g r line weak hline hweak => ?_, fun g r o => ?_,
    fun s k g r hg hs hf hi he hu _ hr ho hk hw => ?_, fun s k g r ns tx may hs hf hu hx ht hq htx hmay => ?_⟩
  · subst hg
    exact exec_becomesCurrent ha hu ho
  · subst hq
    exact ⟨Segment.becomeCurrent_single, Segment.becomeCurrent_eighth, Segment.becomeCurrent_holds,
      Segment.becomeCurrent_last⟩
  · rw [← ReqRecord.isLine_iff] at hline
    rw [← Segment.conserve_iff] at hweak
    subst hline hweak
    refine ⟨Segment.serveReq_broken, Segment.serveReq_aborted, fun hb hs => ⟨Segment.serveReq_bad hb hs, fun hf => ?_⟩⟩
    have hfits := Segment.serveReq_fits hb hs hf
    have hother : ∀ {kind : ReqKind}, r.body.kind = some kind → kind ≠ .pollOnce ∧ kind ≠ .set ∧ kind ≠ .announce →
        g.serveReq r = g.actOn r := by
      rintro kind hk ⟨h1, h2, h3⟩
      refine Segment.serveReq_noLine hb hs hf ?_
      rw [ReqRecord.isLine_iff, hk]
      simp [h1, h2, h3]
    refine ⟨fun hl hw => hfits.trans (if_pos ⟨hl, hw⟩), fun hl hw hst => ?_, fun hl hw hst => ?_, fun hk => ?_, fun hk => ?_,
      fun hk => ?_, fun hk hst hh => ?_, fun hk hst => ?_⟩
    · exact (hfits.trans (if_neg fun h => hw h.2)).trans ((Segment.actOn_line hl).trans (if_pos hst))
    · exact (hfits.trans (if_neg fun h => hw h.2)).trans ((Segment.actOn_line hl).trans (if_neg hst))
    · exact (hother hk (by simp)).trans (Segment.actOn_clear hk)
    · refine Eq.trans ?_ (Segment.actOn_done hk)
      rcases hk with hk | hk | hk <;> exact hother hk (by simp)
    · exact (hother hk (by simp)).trans (Segment.actOn_conserve hk)
    · exact (hother hk (by simp)).trans ((Segment.actOn_sweep hk).trans (Segment.beginSweep_locked hst hh))
    · exact (hother hk (by simp)).trans ((Segment.actOn_sweep hk).trans (Segment.beginSweep_other hst))
  · rw [← ReqEngine.breakGroup_if]
    rfl
  · subst hg
    exact exec_quietInterval_sweeps hs hf hi he hu hr ho hk hw
  · have hpend : ∀ p, g.resp.pend = some p → p.due = false := fun p hp => by
      rw [hq.1] at hp
      cases hp
    rw [State.afterEvent_tryBegin hs hf (by simp [hu]) (by simp [hx]) hq]
    rw [← Segment.workMayBegin_request hu] at hmay
    subst hmay
    refine ⟨fun hm => ?_, fun hm => Segment.tryBegin_nothing hpend (.inr (Bool.eq_false_iff.mpr hm))⟩
    rw [Segment.tryBegin_work (by simp [Segment.working, hs, hf]) ht hpend hx hm]
    exact Segment.beginWork_request hu (Segment.workFrame_request hu htx)

end Sys2Proof.Machine

/-! The inbound ring (R130 to R136): the urgent read of a pending answer, the accesses of a filing, the filing turn, and
the order in which the responder's sources issue. -/

namespace Sys2Proof.Machine

/-! ## A frame dropped for a full ring (R136) -/

theorem Segment.dropHand_eq (g : Segment) (p : Hand → Bool) (b : Buf) :
    g.dropHand p b = { g with
      counters := { g.counters with inbDrops := g.counters.inbDrops + 1 }, line := g.line.release b,
      resp := { g.resp with full := true, hands := dropFirst p g.resp.hands } } := rfl

/-- The drop of a frame in hand is counted, frees its buffer and sets the latch; the first of a full episode raises
INBOUND_FULL. -/
theorem Work.inbFull_drops {w : Work} {p : Hand → Bool} {h : Hand} (hf : w.seg.resp.hands.find? p = some h) :
    w.inbFull p = { w with
      seg := { w.seg with
        counters := { w.seg.counters with inbDrops := w.seg.counters.inbDrops + 1 }, line := w.seg.line.release h.buf,
        resp := { w.seg.resp with full := true, hands := dropFirst p w.seg.resp.hands } },
      notices := if w.seg.resp.full then w.notices
        else w.notices ++ [{ kind := .inboundFull, seg := segByte w.k, station := 0xFF,
                             addr := srcOf (w.seg.frameIn h.buf).chars, detail := h.kind.code,
                             cycle := w.seg.cycle.number, ref := w.seg.inbSlot }] } := by
  unfold Work.inbFull
  simp only [hf, Segment.dropHand_eq]
  by_cases hc : w.seg.resp.full = true
  · rw [if_pos hc, if_pos hc]
    rfl
  · rw [if_neg hc, if_neg hc]
    rfl

/-! ## The urgent read of a pending answer (R130, R131, R133) -/

section
variable {w : Work} {a : Access} {p : Pend}

theorem Work.accessDone_urgent (ho : a.op = .respRecord ∨ a.op = .inbMarkerUrgent) (d : List Byte) :
    w.accessDone a d = w.urgentDone a d := by
  unfold Work.accessDone
  rcases ho with ho | ho <;> rw [ho]

/-- The responder record decides the answer to a POLL: a REPLY when it is armed and fit, else NAK. -/
theorem Work.urgentDone_poll (hp : w.seg.resp.pend = some p) (hl : p.read = .live) (ha : p.ans = .undecided)
    (hk : p.kind = .poll) (d : List Byte) :
    w.urgentDone a d = { w with seg := { w.seg with resp := { w.seg.resp with pend := some { p with
      read := .none,
      ans := if rdByte d 0 = 1 ∧ (rdByte d 3).toNat ≤ 64 ∧ (rdByte d 2).toNat ≤ 1 then
          .reply { addr := a.addr, oneShot := rdByte d 1 != 0, seq := rdByte d 2 == 1, count := rdWord d 4,
                   data := rdBytes d 0x10 (rdByte d 3).toNat }
        else .nak } } } } := by
  unfold Work.urgentDone
  simp only [hp]
  rw [if_pos ⟨hl, ha⟩, if_pos hk]
  unfold parseResp
  by_cases hr : rdByte d 0 = 1 ∧ (rdByte d 3).toNat ≤ 64 ∧ (rdByte d 2).toNat ≤ 1
  · simp only [if_pos hr]
    rfl
  · simp only [if_neg hr]
    rfl

/-- A clear marker decides ACK, and the frame waits for its end. -/
theorem Work.urgentDone_clear {lo hi : Byte} (hp : w.seg.resp.pend = some p) (hl : p.read = .live)
    (ha : p.ans = .undecided) (hk : p.kind ≠ .poll) (hz : lo = 0 ∧ hi = 0) :
    w.urgentDone a [lo, hi] = { w with seg := { w.seg with resp := { w.seg.resp with
      pend := some { p with read := .none, ans := .ack },
      hands := updFirst (Hand.atStage .reading) (fun h => { h with stage := .cleared }) w.seg.resp.hands } } } := by
  unfold Work.urgentDone
  simp only [hp]
  rw [if_pos ⟨hl, ha⟩, if_neg hk, if_pos ((rdHalf_pair_zero lo hi).mpr hz)]
  rfl

/-- A set marker drops the frame, and then decides NAK. -/
theorem Work.urgentDone_set {lo hi : Byte} (hp : w.seg.resp.pend = some p) (hl : p.read = .live)
    (ha : p.ans = .undecided) (hk : p.kind ≠ .poll) (hz : ¬(lo = 0 ∧ hi = 0)) :
    w.urgentDone a [lo, hi] = (w.inbFull (Hand.atStage .reading)).on fun s =>
      s.setPend (some { p with read := .none, ans := .nak, buf := none }) := by
  unfold Work.urgentDone
  simp only [hp]
  rw [if_pos ⟨hl, ha⟩, if_neg hk, if_neg fun h => hz ((rdHalf_pair_zero lo hi).mp h)]

/-- A stale read is discarded: its answer is decided, or abandoned. -/
theorem Work.urgentDone_stale (h : ∀ p, w.seg.resp.pend = some p → ¬(p.read = .live ∧ p.ans = .undecided))
    (d : List Byte) : w.urgentDone a d = w := by
  unfold Work.urgentDone
  split
  · rfl
  · rename_i p hp
    exact if_neg (h p hp)

/-! ## The accesses of a filing (R134, R136) -/

theorem Work.accessDone_responder
    (ho : a.op = .writeBack ∨ a.op = .inbMarkerRead ∨ a.op = .inbBody ∨ a.op = .inbMarkerWrite) (d : List Byte) :
    w.accessDone a d = w.respDone a d := by
  unfold Work.accessDone
  rcases ho with ho | ho | ho | ho <;> rw [ho]

/-- A clear marker makes the body write due. -/
theorem Work.respDone_markerClear {lo hi : Byte} (ho : a.op = .inbMarkerRead) (hz : lo = 0 ∧ hi = 0) :
    w.respDone a [lo, hi] = { w with seg := { w.seg with resp := { w.seg.resp with
      due := w.seg.resp.due ++ [.filing],
      hands := updFirst (Hand.atStage .markerOut) (fun h => { h with stage := .bodyDue }) w.seg.resp.hands } } } := by
  unfold Work.respDone
  rw [ho]
  exact if_pos ((rdHalf_pair_zero lo hi).mpr hz)

/-- A set marker drops the frame. -/
theorem Work.respDone_markerSet {lo hi : Byte} (ho : a.op = .inbMarkerRead) (hz : ¬(lo = 0 ∧ hi = 0)) :
    w.respDone a [lo, hi] = w.inbFull (Hand.atStage .markerOut) := by
  unfold Work.respDone
  rw [ho]
  exact if_neg fun h => hz ((rdHalf_pair_zero lo hi).mp h)

/-- The body write frees the buffer and makes the marker write due. -/
theorem Work.respDone_body {h : Hand} (ho : a.op = .inbBody)
    (hf : w.seg.resp.hands.find? (Hand.atStage .bodyOut) = some h) (d : List Byte) :
    w.respDone a d = { w with seg := { w.seg with
      line := w.seg.line.release h.buf,
      resp := { w.seg.resp with
        due := w.seg.resp.due ++ [.filing],
        hands := updFirst (Hand.atStage .bodyOut) (fun h => { h with stage := .markDue }) w.seg.resp.hands } } } := by
  unfold Work.respDone
  rw [ho]
  simp only [hf]
  rfl

/-- The marker write ends the filing: the next index advances and the latch clears. -/
theorem Work.respDone_markerWrite (ho : a.op = .inbMarkerWrite) (d : List Byte) :
    w.respDone a d = { w with seg := { w.seg with resp := { w.seg.resp with
      next := ringNext w.seg.resp.next w.seg.blk.inbSlots.toNat, full := false,
      hands := dropFirst (Hand.atStage .markOut) w.seg.resp.hands } } } := by
  unfold Work.respDone
  rw [ho]
  rfl

theorem Work.respDone_writeBack (ho : a.op = .writeBack) (d : List Byte) : w.respDone a d = w := by
  unfold Work.respDone
  rw [ho]

end

/-! ## The filing turn (R134) -/

section
variable {g : Segment}

theorem Stage.filing_iff (st : Stage) :
    st.filing = true
      ↔ st ∈ [Stage.reading, .cleared, .markerDue, .markerOut, .bodyDue, .bodyOut, .markDue, .markOut] := by
  cases st <;> decide

theorem any_atStage_iff {hs : List Hand} {st : Stage} :
    hs.any (Hand.atStage st) = true ↔ ∃ h ∈ hs, h.stage = st := by
  simp [Hand.atStage, List.any_eq_true]

theorem not_any_filing {hs : List Hand} (hn : ∀ h ∈ hs, h.stage.filing = false) :
    ¬hs.any (fun h => h.stage.filing) = true := by
  simpa using hn

/-- One filing at a time: while one is in progress no frame has its turn. -/
theorem Segment.filingTurn_inProgress (h : ∃ x ∈ g.resp.hands, x.stage.filing = true) : g.filingTurn = g := by
  unfold Segment.filingTurn
  exact if_pos (List.any_eq_true.mpr h)

/-- The turn goes to a SET or NOTICE waiting for its answer first: its urgent read is owed. -/
theorem Segment.filingTurn_wantRead {p : Pend} (hn : ∀ x ∈ g.resp.hands, x.stage.filing = false)
    (hr : ∃ x ∈ g.resp.hands, x.stage = .wantRead) (hp : g.resp.pend = some p) :
    g.filingTurn = { g with resp := { g.resp with
      pend := some { p with read := .owed },
      hands := updFirst (Hand.atStage .wantRead) (fun h => { h with stage := .reading }) g.resp.hands } } := by
  have hpend : (g.stageFirst (Hand.atStage .wantRead) .reading).resp.pend = some p := hp
  unfold Segment.filingTurn
  rw [if_neg (not_any_filing hn), if_pos (any_atStage_iff.mpr hr)]
  simp only [hpend]
  rfl

/-- With no such frame the turn goes to a frame that waits for filing alone: its marker read is due. -/
theorem Segment.filingTurn_queued (hn : ∀ x ∈ g.resp.hands, x.stage.filing = false)
    (hr : ∀ x ∈ g.resp.hands, x.stage ≠ .wantRead) (hq : ∃ x ∈ g.resp.hands, x.stage = .queued) :
    g.filingTurn = { g with resp := { g.resp with
      due := g.resp.due ++ [.filing],
      hands := updFirst (Hand.atStage .queued) (fun h => { h with stage := .markerDue }) g.resp.hands } } := by
  unfold Segment.filingTurn
  rw [if_neg (not_any_filing hn), if_neg, if_pos (any_atStage_iff.mpr hq)]
  · rfl
  · rw [any_atStage_iff]
    rintro ⟨x, hx, hs⟩
    exact hr x hx hs

/-- The filing turn moves the hands, adds at the end of what is due, and leaves an owed read owed. -/
theorem Segment.filingTurn_frame (g : Segment) : ∃ hs rest pd,
    g.filingTurn = { g with resp := { g.resp with hands := hs, due := g.resp.due ++ rest, pend := pd } }
      ∧ ∀ p, g.resp.pend = some p → p.read = .owed → pd = some p := by
  have same : g = { g with resp := { g.resp with due := g.resp.due ++ [] } } := by rw [List.append_nil]
  by_cases hf : ∃ x ∈ g.resp.hands, x.stage.filing = true
  · exact ⟨_, [], _, (Segment.filingTurn_inProgress hf).trans same, fun _ hp _ => hp⟩
  · have hn : ∀ x ∈ g.resp.hands, x.stage.filing = false := fun x hx => by
      rw [Bool.eq_false_iff]
      exact fun hc => hf ⟨x, hx, hc⟩
    unfold Segment.filingTurn
    rw [if_neg (not_any_filing hn)]
    split
    · cases hp : g.resp.pend with
      | none =>
        have hpend : (g.stageFirst (Hand.atStage .wantRead) .reading).resp.pend = none := hp
        simp only [hpend]
        exact ⟨_, [], none, by rw [List.append_nil, ← hp]; rfl, nofun⟩
      | some p =>
        have hpend : (g.stageFirst (Hand.atStage .wantRead) .reading).resp.pend = some p := hp
        simp only [hpend]
        refine ⟨_, [], some { p with read := .owed }, by rw [List.append_nil]; rfl, ?_⟩
        rintro _ ⟨⟩ ho
        rw [← ho]
    · split
      · exact ⟨_, [.filing], _, rfl, fun _ hp _ => hp⟩
      · exact ⟨_, [], _, same, fun _ hp _ => hp⟩

/-! ## The normal source (R135, R152) -/

theorem Segment.issueDue_writeBack {wb : WriteBack} {rest : List NormalDue} (hd : g.resp.due = .writeBack wb :: rest) :
    g.issueDue.waits.responder = some wb.access := by
  unfold Segment.issueDue
  rw [hd]
  rfl

/-- The next access of the filing in progress, by the stage of its frame. -/
theorem Segment.issueDue_filing {rest : List NormalDue} {h : Hand} (hd : g.resp.due = .filing :: rest)
    (hf : g.resp.hands.find? (fun h => h.stage == .markerDue || h.stage == .bodyDue || h.stage == .markDue) = some h) :
    (h.stage = .markerDue → g.issueDue.waits.responder = some (.read .inbMarkerRead g.inbSlot 2))
      ∧ (h.stage = .bodyDue → g.issueDue.waits.responder = some (.write .inbBody (g.inbSlot.off 2) (g.inbBody h)))
      ∧ (h.stage = .markDue → g.issueDue.waits.responder = some (.write .inbMarkerWrite g.inbSlot (wrHalf 1))) := by
  unfold Segment.issueDue Segment.issueFiling
  rw [hd]
  simp only [hf]
  refine ⟨fun hs => ?_, fun hs => ?_, fun hs => ?_⟩ <;> rw [hs] <;> rfl

/-- A frame that has an access due is in its filing. -/
theorem Segment.filingTurn_accessDue {h : Hand}
    (hf : g.resp.hands.find? (fun h => h.stage == .markerDue || h.stage == .bodyDue || h.stage == .markDue) = some h) :
    g.filingTurn = g := by
  refine Segment.filingTurn_inProgress ⟨h, List.mem_of_find?_eq_some hf, ?_⟩
  have hs := List.find?_some hf
  simp only [Bool.or_eq_true, beq_iff_eq, or_assoc] at hs
  rcases hs with hs | hs | hs <;> rw [hs] <;> rfl

/-- What issuing moves: the hands, what is due, and the normal source. -/
theorem Segment.issueDue_frame (g : Segment) : ∃ hs ds n,
    g.issueDue = { g with
      resp := { g.resp with hands := hs, due := ds }, waits := { g.waits with responder := n } } := by
  unfold Segment.issueDue Segment.issueFiling
  repeat' split
  all_goals exact ⟨_, _, _, rfl⟩

end

section
variable {w : Work}

theorem Work.respNormal_issues (hw : w.seg.waits.responder = none) (hb : w.busSource ≠ some .responder) :
    w.respNormal = w.on Segment.issueDue := by
  unfold Work.respNormal
  exact if_neg fun h => h.elim (fun h => by simp [hw] at h) hb

theorem Work.respNormal_waits {a : Access} (hw : w.seg.waits.responder = some a) : w.respNormal = w := by
  unfold Work.respNormal
  exact if_pos (.inl (by rw [hw]; rfl))

theorem Work.respNormal_frame (w : Work) : ∃ hs ds n,
    w.respNormal = { w with seg := { w.seg with
      resp := { w.seg.resp with hands := hs, due := ds }, waits := { w.seg.waits with responder := n } } } := by
  unfold Work.respNormal
  split
  · exact ⟨_, _, _, rfl⟩
  · obtain ⟨hs, ds, n, h⟩ := w.seg.issueDue_frame
    exact ⟨hs, ds, n, congrArg (fun g => { w with seg := g }) h⟩

/-- The urgent source issues beside the normal one. -/
theorem Work.respUrgent_responder (w : Work) : w.respUrgent.seg.waits.responder = w.seg.waits.responder := by
  unfold Work.respUrgent
  repeat' split
  all_goals rfl

/-- The urgent read that is owed is issued when its source is free: the record for a POLL, else the marker. -/
theorem Work.respUrgent_issues {p : Pend} (hp : w.seg.resp.pend = some p) (ho : p.read = .owed)
    (hw : w.seg.waits.urgent = none) (hb : w.busSource ≠ some .urgent) :
    w.respUrgent.seg.waits.urgent = some (if p.kind = .poll then .read .respRecord (slotAt w.seg.blk.respTable 80 p.k) 80
      else .read .inbMarkerUrgent w.seg.inbSlot 2) := by
  unfold Work.respUrgent
  simp only [hp]
  rw [if_pos ⟨ho, hw, hb⟩]
  rfl

/-! ## What the responder issues -/

/-- An access that waits in the normal source stays. -/
theorem Work.respDue_waits {a : Access} (hw : w.seg.waits.responder = some a) :
    w.respDue.seg.waits.responder = some a := by
  obtain ⟨hs, rest, pd, ht, -⟩ := w.seg.filingTurn_frame
  have hv : (w.on Segment.filingTurn).seg.waits.responder = some a := by
    rw [Work.on_seg, ht]
    exact hw
  unfold Work.respDue
  rw [Work.respUrgent_responder, Work.respNormal_waits hv]
  exact hv

/-- The normal source, when free, issues what the filing turn leaves due first. -/
theorem Work.respDue_issues (hw : w.seg.waits.responder = none) (hb : w.busSource ≠ some .responder) :
    w.respDue.seg.waits.responder = w.seg.filingTurn.issueDue.waits.responder := by
  obtain ⟨hs, rest, pd, ht, -⟩ := w.seg.filingTurn_frame
  have hv : (w.on Segment.filingTurn).seg.waits.responder = none := by
    rw [Work.on_seg, ht]
    exact hw
  unfold Work.respDue
  rw [Work.respUrgent_responder, Work.respNormal_issues hv hb]
  rfl

theorem Work.respDue_issuesWriteBack {wb : WriteBack} {rest : List NormalDue} (hw : w.seg.waits.responder = none)
    (hb : w.busSource ≠ some .responder) (hd : w.seg.resp.due = .writeBack wb :: rest) :
    w.respDue.seg.waits.responder = some wb.access := by
  obtain ⟨hs, tl, pd, ht, -⟩ := w.seg.filingTurn_frame
  have hdue : w.seg.filingTurn.resp.due = .writeBack wb :: (rest ++ tl) := by
    rw [ht]
    exact congrArg (· ++ tl) hd
  exact (Work.respDue_issues hw hb).trans (Segment.issueDue_writeBack hdue)

theorem Work.respDue_issuesUrgent {p : Pend} (hp : w.seg.resp.pend = some p) (ho : p.read = .owed)
    (hw : w.seg.waits.urgent = none) (hb : w.busSource ≠ some .urgent) :
    w.respDue.seg.waits.urgent = some (if p.kind = .poll then .read .respRecord (slotAt w.seg.blk.respTable 80 p.k) 80
      else .read .inbMarkerUrgent w.seg.inbSlot 2) := by
  obtain ⟨hs, rest, pd, ht, hpd⟩ := w.seg.filingTurn_frame
  obtain ⟨hs', ds, n, hn⟩ := (w.on Segment.filingTurn).respNormal_frame
  rw [Work.on_seg, ht, hpd p hp ho] at hn
  unfold Work.respDue
  rw [hn]
  exact Work.respUrgent_issues rfl ho hw hb

end

/-! ## The epilogue -/

/-- Ending a lost unit and beginning the next leave the responder, its sources, the line and the values of the run. -/
theorem Segment.nextUnit_responder (g : Segment) :
    g.lostDue.kick.resp = g.resp ∧ g.lostDue.kick.line = g.line ∧ g.lostDue.kick.run = g.run
      ∧ g.lostDue.kick.waits.responder = g.waits.responder ∧ g.lostDue.kick.waits.urgent = g.waits.urgent := by
  have hside := g.lostDue.kick_side.trans g.lostDue_side
  have hctl := g.lostDue.kick_ctl.trans g.lostDue_ctl
  simp only [Segment.side, Prod.mk.injEq] at hside
  simp only [Segment.ctl, Prod.mk.injEq] at hctl
  obtain ⟨hresp, hline, hnormal, hurgent, -⟩ := hside
  obtain ⟨-, -, -, -, hrun, -⟩ := hctl
  exact ⟨hresp, hline, hrun, hnormal, hurgent⟩

theorem Work.stopCheck_urgent (w : Work) : w.stopCheck.seg.waits.urgent = w.seg.waits.urgent := by
  unfold Work.stopCheck
  split <;> rfl

/-- After the responder's accesses the epilogue leaves both of its sources alone. -/
theorem Work.finish_responderSources {w : Work} (hl : w.seg.live = true) (hf : w.seg.faultHeld = none) :
    w.finish.seg.waits.responder = (w.on fun s => s.lostDue.kick).respDue.seg.waits.responder
      ∧ w.finish.seg.waits.urgent = (w.on fun s => s.lostDue.kick).respDue.seg.waits.urgent := by
  obtain ⟨l, r, q, x, ht, -⟩ := (w.on fun s => s.lostDue.kick).respDue.seg.tryBegin_frame
  unfold Work.finish
  dsimp only
  rw [Work.heldFault_none hf, if_pos hl, (Work.stopCheck_responder _).2, Work.stopCheck_urgent, Work.on_seg, ht]
  exact ⟨rfl, rfl⟩

/-- No access of source src of the segment is on the bus. -/
theorem State.workWith_busSource_ne {s : State} {k : Seg} {g : Segment} {ns : List Notice} {src : Source}
    (h : ∀ b, s.port.busy = some b → b.req ≠ .segment k src) : (s.workWith k g ns).busSource ≠ some src := by
  intro hbus
  unfold Work.busSource at hbus
  split at hbus
  · rename_i k' src' acc disc heq
    split at hbus
    · rename_i hk
      cases hbus
      exact h _ heq (by rw [hk]; rfl)
    · cases hbus
  · cases hbus

/-! ## The obligation -/

/-- Settles O53: each completion as the value it gives the segment unit, the filing turn by the stages in hand, and the
accesses that the epilogue issues. -/
theorem inboundFramesAreFiled : Obligations.InboundFramesAreFiled := by
  refine ⟨fun s k g a ha ho hg => ⟨fun p d hp hl hu hk => ?_, fun p lo hi hp hl hu hk hz => ?_,
      fun p h lo hi hp hl hu hk hz hf => ?_, fun d hn => ?_⟩,
    fun s k g a ha hg => ⟨fun lo hi ho hz => ?_, fun h lo hi ho hz hf => ?_, fun h ho hf => ?_, fun ho => ?_, fun ho => ?_⟩,
    fun g busy hbusy => ⟨fun h => ?_, fun p hn hr hp => ?_, fun hn hq => ?_⟩,
    fun s k g t ns slot h1 h2 hf ht hslot => ?_⟩
  · subst hg
    exact exec_accessComplete_after ha ((Work.accessDone_urgent ho d).trans (Work.urgentDone_poll hp hl hu hk d))
  · subst hg
    exact exec_accessComplete_after ha ((Work.accessDone_urgent ho _).trans (Work.urgentDone_clear hp hl hu hk hz))
  · subst hg
    refine exec_accessComplete_after ha ((Work.accessDone_urgent ho _).trans ((Work.urgentDone_set hp hl hu hk hz).trans ?_))
    rw [Work.inbFull_drops hf]
    rfl
  · subst hg
    exact exec_accessComplete_after ha ((Work.accessDone_urgent ho d).trans (Work.urgentDone_stale hn d))
  · subst hg
    exact exec_accessComplete_after ha
      ((Work.accessDone_responder (by simp [ho]) _).trans (Work.respDone_markerClear ho hz))
  · subst hg
    exact exec_accessComplete_after ha ((Work.accessDone_responder (by simp [ho]) _).trans
      ((Work.respDone_markerSet ho hz).trans (Work.inbFull_drops hf)))
  · subst hg
    exact exec_accessComplete_after ha ((Work.accessDone_responder (by simp [ho]) _).trans
      (Work.respDone_body (w := s.freePort.work k) ho hf _))
  · subst hg
    exact exec_accessComplete_after ha
      ((Work.accessDone_responder (by simp [ho]) _).trans (Work.respDone_markerWrite ho _))
  · subst hg
    exact exec_accessComplete_after ha
      ((Work.accessDone_responder (by simp [ho]) _).trans (Work.respDone_writeBack ho _))
  · subst hbusy
    simp only [← Stage.filing_iff] at h
    exact Segment.filingTurn_inProgress h
  · subst hbusy
    simp only [← Stage.filing_iff, Bool.not_eq_true] at hn
    exact Segment.filingTurn_wantRead hn hr hp
  · subst hbusy
    simp only [← Stage.filing_iff, Bool.not_eq_true] at hn
    exact Segment.filingTurn_queued (fun x hx => (hn x hx).1) (fun x hx => (hn x hx).2) hq
  · obtain ⟨hresp, hline, hrun, hnormal, hurgent⟩ := g.nextUnit_responder
    obtain ⟨hr, hu⟩ := Work.finish_responderSources (w := s.workWith k g ns) (by simp [Segment.live, h1, h2, hf]) hf
    have hblk : g.lostDue.kick.blk = g.blk := congrArg (·.getD SegBlock.blank) hrun
    have hs : g.lostDue.kick.inbSlot = slot := by
      unfold Segment.inbSlot
      rw [hblk, hresp, hslot]
      rfl
    rw [← ht, State.afterEvent_seg]
    refine ⟨fun wb rest hw hb hd => ?_, fun h rest cs hw hb hd hfind hcs => ?_, fun a hw => ?_, fun p hp ho hw hb => ?_⟩
    · exact hr.trans (Work.respDue_issuesWriteBack (hnormal.trans hw) (State.workWith_busSource_ne hb)
        ((congrArg Responder.due hresp).trans hd))
    · have hfind' := (congrArg (fun r : Responder => r.hands.find? _) hresp).trans hfind
      obtain ⟨hmarker, hbody, hmark⟩ := Segment.issueDue_filing ((congrArg Responder.due hresp).trans hd) hfind'
      have hissue := hr.trans (Work.respDue_issues (w := (s.workWith k g ns).on fun s => s.lostDue.kick)
        (hnormal.trans hw) (State.workWith_busSource_ne hb))
      rw [Work.on_seg, State.workWith_seg, Segment.filingTurn_accessDue hfind'] at hissue
      rw [hs] at hmarker hbody hmark
      refine ⟨fun h => hissue.trans (hmarker h), fun h => (hissue.trans (hbody h)).trans ?_,
        fun h => hissue.trans (hmark h)⟩
      unfold Segment.inbBody Segment.frameIn
      rw [hline, hcs]
      rfl
    · exact hr.trans (Work.respDue_waits (hnormal.trans hw))
    · refine hu.trans ((Work.respDue_issuesUrgent (w := (s.workWith k g ns).on fun s => s.lostDue.kick)
        ((congrArg Responder.pend hresp).trans hp) ho (hurgent.trans hw)
        (State.workWith_busSource_ne hb)).trans ?_)
      have hu : ((s.workWith k g ns).on fun s => s.lostDue.kick).seg = g.lostDue.kick := rfl
      rw [hu, hs, hblk]
      rfl

end Sys2Proof.Machine

/-! The samples of the supply monitor (R146, R147), and what a CONSERVE request moves of it (R121, R147, R148). -/

namespace Sys2Proof.Machine

/-! ## The level and its notice (R146) -/

/-- The level table, by its first line that applies. -/
theorem levelOf_if (r : Readings) :
    levelOf r = if r.weak = false then .weak else if r.low = false then .low else .ok := by
  unfold levelOf
  simp only [Bool.not_eq_true']

/-- The notices that a sample of level l raises: at most one, with the code of the level before it. -/
def Work.levelNotices (w : Work) (l : Level) : List Notice :=
  (levelNotice w.seg.supply.level l).toList.map fun kind =>
    ⟨kind, segByte w.k, 0xFF, 0, BitVec.ofNat 8 w.seg.supply.level.code, w.seg.cycle.number, 0⟩

/-- A sample sets the level, acts on automatic conserve and raises the notice of the change of level. -/
theorem Work.sample_eq (w : Work) (r : Readings) : w.sample r = { w with
    seg := { w.seg with supply := { w.seg.supply.autoStep (levelOf r) with level := levelOf r } },
    notices := w.notices ++ w.levelNotices (levelOf r) } := by
  unfold Work.sample Work.levelNotices
  dsimp only
  cases levelNotice w.seg.supply.level (levelOf r) with
  | none =>
    rw [Option.toList_none, List.map_nil, List.append_nil]
    rfl
  | some kind => rfl

/-! ## Automatic conserve and the recovery count (R147) -/

/-- A sample of level WEAK turns automatic conserve on, or leaves it on, with recovery count 0. -/
theorem Supply.autoStep_weak (p : Supply) : p.autoStep .weak = { p with auto := true, recovery := 0 } := by
  unfold Supply.autoStep
  cases p.auto <;> rfl

/-- A sample at or above the weak threshold does nothing while automatic conserve is off. -/
theorem Supply.autoStep_off {p : Supply} {l : Level} (hl : l ≠ .weak) (ha : p.auto = false) : p.autoStep l = p :=
  (if_neg (by simp [ha])).trans (if_neg hl)

/-- A sample at or above the weak threshold counts one while automatic conserve is on; the second in a row ends it. -/
theorem Supply.autoStep_on {p : Supply} {l : Level} (hl : l ≠ .weak) (ha : p.auto = true) :
    p.autoStep l = if 2 ≤ p.recovery + 1 then { p with auto := false, recovery := 0 }
      else { p with recovery := p.recovery + 1 } :=
  (if_pos ha).trans (if_neg hl)

/-- The table of automatic conserve, value by value. -/
theorem Supply.autoStep_eq (p : Supply) (l : Level) : p.autoStep l = { p with
    auto := if l = .weak then true else if p.auto = true ∧ 2 ≤ p.recovery + 1 then false else p.auto,
    recovery := if l = .weak then 0
      else if p.auto = true then (if 2 ≤ p.recovery + 1 then 0 else p.recovery + 1) else p.recovery } := by
  by_cases hl : l = .weak
  · subst hl
    exact p.autoStep_weak
  by_cases ha : p.auto = true
  · rw [Supply.autoStep_on hl ha]
    by_cases hr : 2 ≤ p.recovery + 1
    · simp only [hl, ha, hr, and_self, if_true, if_false]
    · simp only [hl, ha, hr, and_false, if_true, if_false]
  · rw [Supply.autoStep_off hl (Bool.eq_false_iff.mpr ha), if_neg hl, if_neg hl, if_neg ha, if_neg fun h => ha h.1]

/-! ## A CONSERVE request (R121, R148) -/

theorem Segment.decideReq_supply (g : Segment) (r : ReqUnit) (o : Ending) : (g.decideReq r o).supply = g.supply := by
  have hside := g.decideReq_side r o
  simp only [Segment.side, Prod.mk.injEq] at hside
  obtain ⟨-, -, -, -, -, hsupply, -⟩ := hside
  exact hsupply

/-- A CONSERVE request moves of the supply monitor at most forced conserve, whichever check decides it. -/
theorem Segment.serveReq_conserve_supply (g : Segment) {r : ReqUnit} (hk : r.body.kind = some .conserve) :
    ∃ forced, (g.serveReq r).supply = { g.supply with forced := forced } := by
  have hrefused : ∀ o, g.serveReq r = g.decideReq r o →
      ∃ forced, (g.serveReq r).supply = { g.supply with forced := forced } :=
    fun o h => ⟨g.supply.forced, (congrArg Segment.supply h).trans (g.decideReq_supply r o)⟩
  cases hb : r.broken with
  | true => exact hrefused _ (Segment.serveReq_broken hb)
  | false =>
    by_cases hs : g.state = .stopping
    · exact hrefused _ (Segment.serveReq_aborted hb hs)
    by_cases hf : RequestFits g.blk r.body
    · have hl : ¬r.body.isLine = true := by simp [ReqRecord.isLine_iff, hk]
      refine ⟨decide (r.body.arg = 1), ?_⟩
      rw [Segment.serveReq_noLine hb hs hf hl, Segment.actOn_conserve hk, Segment.decideReq_supply]
    · exact hrefused _ (Segment.serveReq_bad hb hs hf)

/-! ## The obligation -/

/-- Settles O43: a sample by its level, by the state of automatic conserve and by the level before it; and a CONSERVE
request, which moves forced conserve alone. -/
theorem sampleSetsLevelAndConserve : Obligations.SampleSetsLevelAndConserve := by
  refine ⟨fun w r l hl => ?_, fun g r hk => ?_⟩
  · rw [← levelOf_if] at hl
    rw [Work.sample_eq, ← hl, Supply.autoStep_eq]
    clear hl
    unfold Work.levelNotices
    cases w.seg.supply.level <;> cases l <;> rfl
  · obtain ⟨forced, hsupply⟩ := g.serveReq_conserve_supply hk
    rw [hsupply]
    exact ⟨rfl, rfl⟩

end Sys2Proof.Machine

/-! The write window (R157): no step puts a write outside it on the bus. Only a grant issues an access, and it checks the bytes
of a write; every other operation of a step leaves the accesses on the bus and the window as they are, or finds the port IDLE. -/

namespace Sys2Proof.Machine

/-! ## Bytes within the window -/

/-- A byte at this address may be written (R157). -/
def InWriteWindow (low high a : Word) : Prop := low.toNat ≤ a.toNat ∧ a.toNat < high.toNat

theorem Access.inWindow_iff (low high : Word) (a : Access) :
    a.inWindow low high = true ↔ ∀ p ∈ a.bytes, InWriteWindow low high p.1 := by
  simp [Access.inWindow, InWriteWindow]

/-! ## Operations that bring no access to the bus -/

/-- From s to t no access comes to the bus: the write window and the waiting access of device control are as they were, and
an access on the bus whose result is not discarded was there before. -/
structure State.issuesNothing (s t : State) : Prop where
  low : t.port.windowLow = s.port.windowLow
  high : t.port.windowHigh = s.port.windowHigh
  device : t.port.device = s.port.device
  busy : ∀ b, t.port.busy = some b → b.discard = false → s.port.busy = some b

theorem State.issuesNothing_port {s t : State} (h : t.port = s.port) : s.issuesNothing t := by
  refine ⟨?_, ?_, ?_, fun b hb _ => ?_⟩
  · rw [h]
  · rw [h]
  · rw [h]
  · rwa [h] at hb

theorem State.issuesNothing_refl (s : State) : s.issuesNothing s := State.issuesNothing_port rfl

theorem State.issuesNothing.trans {s t u : State} (h : s.issuesNothing t) (h' : t.issuesNothing u) : s.issuesNothing u :=
  ⟨h'.low.trans h.low, h'.high.trans h.high, h'.device.trans h.device,
    fun b hb hd => h.busy b (h'.busy b hb hd) hd⟩

theorem WritesInWindow.of_issuesNothing {s t : State} (hs : WritesInWindow s) (h : s.issuesNothing t) : WritesInWindow t := by
  refine ⟨fun b hb hd hw => ?_, fun a ha => hs.2 a (h.device ▸ ha)⟩
  rw [h.low, h.high]
  exact hs.1 b (h.busy b hb hd) hd hw

/-- On an IDLE port only the waiting access of device control matters. -/
theorem WritesInWindow.of_idle {s : State} (hb : s.port.busy = none)
    (hd : ∀ a, s.port.device = some a → a.op.isWrite = false) : WritesInWindow s :=
  ⟨fun b h => (by rw [hb] at h; cases h), hd⟩

/-- Marking the granted access discarded brings none to the bus. -/
theorem State.busAfter_kept {s : State} {drop : Bool} {b : Busy} (h : s.busAfter drop = some b) (hd : b.discard = false) :
    s.port.busy = some b := by
  unfold State.busAfter at h
  split at h
  · obtain ⟨c, -, rfl⟩ := Option.map_eq_some_iff.mp h
    cases hd
  · exact h

theorem State.onSeg_issuesNothing (s : State) (k : Seg) (f : Work → Work) : s.issuesNothing (s.onSeg k f) := by
  refine ⟨?_, ?_, ?_, fun b hb hd => ?_⟩
  · rw [State.onSeg_port]
  · rw [State.onSeg_port]
  · rw [State.onSeg_port]
  · rw [State.onSeg_port] at hb
    exact State.busAfter_kept hb hd

theorem State.settle_issuesNothing (s : State) : s.issuesNothing s.settle := by
  unfold State.settle State.disableDue State.noticeDue
  repeat' split
  all_goals exact ⟨rfl, rfl, rfl, fun _ hb _ => hb⟩

theorem State.freePort_issuesNothing (s : State) : s.issuesNothing s.freePort := ⟨rfl, rfl, rfl, nofun⟩

theorem State.stopSeg_issuesNothing (s : State) (k : Seg) : s.issuesNothing (s.stopSeg k) := by
  unfold State.stopSeg
  split
  · exact s.onSeg_issuesNothing k _
  · exact s.issuesNothing_refl

theorem State.scanSeg_issuesNothing (s : State) (v : Word) (k : Seg) : s.issuesNothing (s.scanSeg v k) := by
  unfold State.scanSeg
  split
  · exact s.onSeg_issuesNothing k _
  · exact s.issuesNothing_refl

/-- An operation that issues nothing issues nothing when each segment of a list takes it in turn. -/
theorem State.foldl_issuesNothing {f : State → Seg → State} (hf : ∀ s k, State.issuesNothing s (f s k)) (ks : List Seg)
    (s : State) : s.issuesNothing (ks.foldl f s) := by
  induction ks generalizing s with
  | nil => exact s.issuesNothing_refl
  | cons k ks ih => exact (hf s k).trans (ih (f s k))

theorem State.stopAll_issuesNothing (s : State) : s.issuesNothing s.stopAll :=
  State.foldl_issuesNothing State.stopSeg_issuesNothing Seg.all s

theorem State.scan_issuesNothing (s : State) (v : Word) : s.issuesNothing (s.scan v) :=
  State.foldl_issuesNothing (fun s k => s.scanSeg_issuesNothing v k) Seg.all s

theorem State.runSet_issuesNothing (s : State) (k : Seg) : s.issuesNothing (s.runSet k) := by
  unfold State.runSet
  split
  · exact s.onSeg_issuesNothing k _
  · exact s.issuesNothing_refl

theorem State.runClear_issuesNothing (s : State) (k : Seg) : s.issuesNothing (s.runClear k) := by
  unfold State.runClear
  split
  · exact s.stopSeg_issuesNothing k
  · exact s.issuesNothing_refl

theorem State.enableClear_issuesNothing (s : State) : s.issuesNothing s.enableClear := by
  unfold State.enableClear
  split
  · exact s.issuesNothing_refl
  · exact s.issuesNothing_refl
  · split
    · exact s.issuesNothing_refl
    · refine State.issuesNothing.trans ?_ (State.stopAll_issuesNothing _)
      exact State.issuesNothing_port rfl
  · exact State.issuesNothing_port rfl

theorem State.noticeFault_issuesNothing (s : State) (addr : Word) : s.issuesNothing (s.noticeFault addr) := by
  unfold State.noticeFault
  dsimp only
  refine State.issuesNothing.trans ?_ (State.stopAll_issuesNothing _)
  split <;> exact ⟨rfl, rfl, rfl, fun _ hb _ => hb⟩

theorem State.raise_port (s : State) (n : Notice) : (s.raise n).port = s.port := by
  obtain ⟨v, a, h⟩ := s.raise_frame n
  rw [h]

theorem State.dropNotice_port (s : State) : s.dropNotice.port = s.port := by
  unfold State.dropNotice
  rcases State.requestRecord_cases
    ({ s with nw := { s.nw with dropped := s.nw.dropped + 1 } }.setCause .noticeLost) with h | h <;> rw [h] <;> rfl

theorem State.enterDisabled_issuesNothing (s : State) : s.issuesNothing s.enterDisabled :=
  ⟨rfl, rfl, rfl, fun _ hb _ => hb⟩

theorem State.noticeDone_issuesNothing (s : State) (op : Op) (d : List Byte) : s.issuesNothing (s.noticeDone op d) := by
  unfold State.noticeDone
  split
  · split
    · exact State.issuesNothing_port rfl
    · exact State.issuesNothing_port (State.dropNotice_port _)
  · exact State.issuesNothing_port rfl
  · exact State.issuesNothing_port rfl
  · have h1 : (if s.nw.loadedOwed then s.setCause .loaded else s).port = s.port := by split <;> rfl
    dsimp only
    split
    · exact (State.issuesNothing_port (by exact h1)).trans (State.enterDisabled_issuesNothing _)
    · exact State.issuesNothing_port h1
  · exact s.issuesNothing_refl

/-! ## The load -/

/-- A load leaves the access on the bus and the waiting access of device control as they are. -/
theorem State.loadDone_port (s : State) (d : List Byte) :
    (s.loadDone d).port.busy = s.port.busy ∧ (s.loadDone d).port.device = s.port.device := by
  unfold State.loadDone
  split
  · exact ⟨rfl, rfl⟩
  · have h : ∀ t : State, t.enterReady.port = t.port := by
      intro t
      unfold State.enterReady
      dsimp only
      split
      · rfl
      · exact State.raise_port _ _
    rw [h]
    exact ⟨rfl, rfl⟩

theorem WritesInWindow.loadDone {s : State} (hs : WritesInWindow s) (hb : s.port.busy = none) (d : List Byte) :
    WritesInWindow (s.loadDone d) := by
  obtain ⟨h1, h2⟩ := s.loadDone_port d
  refine WritesInWindow.of_idle (h1.trans hb) ?_
  rw [h2]
  exact hs.2

/-! ## Responses and grants -/

theorem WritesInWindow.complete {s : State} (hs : WritesInWindow s) (d : List Byte) : WritesInWindow (s.complete d) := by
  have hf : WritesInWindow s.freePort := hs.of_issuesNothing s.freePort_issuesNothing
  unfold State.complete
  split
  · exact hs
  · dsimp only
    split
    · exact hf.of_issuesNothing (State.onSeg_issuesNothing _ _ _)
    · split
      · exact hf
      · exact hf.of_issuesNothing (State.noticeDone_issuesNothing _ _ _)
    · split
      · exact hf
      · exact hf.loadDone rfl d

theorem WritesInWindow.errorResponse {s : State} (hs : WritesInWindow s) : WritesInWindow s.errorResponse := by
  have hf : WritesInWindow s.freePort := hs.of_issuesNothing s.freePort_issuesNothing
  unfold State.errorResponse
  split
  · exact hs
  · dsimp only
    split
    · exact hf.of_issuesNothing (State.onSeg_issuesNothing _ _ _)
    · split
      · exact hf
      · exact hf.of_issuesNothing (State.noticeFault_issuesNothing _ _)
    · split
      · exact hf
      · exact hf.of_issuesNothing (State.issuesNothing_port rfl)

/-- The one operation that puts an access on the bus keeps the invariant when a write lies inside the window. -/
theorem WritesInWindow.issue {s : State} (hs : WritesInWindow s) {r : Requester} {a : Access}
    (ha : a.op.isWrite = true → a.inWindow s.port.windowLow s.port.windowHigh = true) : WritesInWindow (s.issue r a) := by
  refine ⟨fun b hb _ hw => ?_, hs.2⟩
  cases hb
  exact (Access.inWindow_iff _ _ _).mp (ha hw)

/-- A grant issues its access only when it passes the check of R157; a refusal issues nothing. -/
theorem WritesInWindow.issue_or_refuse {s t : State} (hs : WritesInWindow s) (ht : s.issuesNothing t) (r : Requester)
    (a : Access) : WritesInWindow
      (if a.op.isWrite && !a.inWindow s.port.windowLow s.port.windowHigh then t else s.issue r a) := by
  split
  · exact hs.of_issuesNothing ht
  · rename_i hc
    refine hs.issue fun hw => ?_
    simpa [hw] using hc

theorem WritesInWindow.grantSegment {s : State} (hs : WritesInWindow s) (k : Seg) (src : Source) :
    WritesInWindow (s.grantSegment k src) := by
  have hp : ∀ (t : State) (a : Access), WritesInWindow t → WritesInWindow
      (if a.op.isWrite && !a.inWindow t.port.windowLow t.port.windowHigh then t.refusal.refuseSegment k a
        else t.issue (.segment k src) a) := fun t a ht =>
    ht.issue_or_refuse (State.issuesNothing.trans (t := t.refusal) ⟨rfl, rfl, rfl, fun _ hb _ => hb⟩
      (State.onSeg_issuesNothing _ _ _)) _ a
  unfold State.grantSegment
  split
  · exact hs
  · dsimp only
    refine hp _ _ (hs.of_issuesNothing ?_)
    split <;> exact ⟨rfl, rfl, rfl, fun _ hb _ => hb⟩

theorem WritesInWindow.grantNotice {s : State} (hs : WritesInWindow s) : WritesInWindow s.grantNotice := by
  have hp : ∀ (t : State) (a : Access), WritesInWindow t → WritesInWindow
      (if a.op.isWrite && !a.inWindow t.port.windowLow t.port.windowHigh then
        t.refusal.noticeFault (firstByte a.bytes a.addr) else t.issue .notice a) := fun t a ht =>
    ht.issue_or_refuse (State.issuesNothing.trans (t := t.refusal) ⟨rfl, rfl, rfl, fun _ hb _ => hb⟩
      (State.noticeFault_issuesNothing _ _)) _ a
  unfold State.grantNotice
  split
  · exact hs
  · exact hp _ _ (hs.of_issuesNothing ⟨rfl, rfl, rfl, fun _ hb _ => hb⟩)

/-- Device control's access is not checked: it only reads. -/
theorem WritesInWindow.grantDevice {s : State} (hs : WritesInWindow s) : WritesInWindow s.grantDevice := by
  unfold State.grantDevice
  split
  · exact hs
  · rename_i a ha
    refine ⟨fun b hb _ hw => ?_, nofun⟩
    cases hb
    rw [hs.2 a ha] at hw
    cases hw

theorem WritesInWindow.grant {s : State} (hs : WritesInWindow s) (late : List Requester) :
    WritesInWindow (s.grant late) := by
  unfold State.grant
  split
  · exact hs
  · split
    · exact hs.grantSegment _ _
    · exact hs.grantNotice
    · exact hs.grantDevice
    · exact hs

/-! ## The obligation -/

/-- The access at a soft reset stays on the bus with its result discarded (R160). -/
theorem WritesInWindow.softReset (s : State) : WritesInWindow s.softReset := by
  refine ⟨fun b hb hd => ?_, nofun⟩
  obtain ⟨c, -, rfl⟩ := Option.map_eq_some_iff.mp hb
  cases hd

/-- An ENABLE set has device control read the control block (R163). -/
theorem WritesInWindow.enableSet {s : State} (hs : WritesInWindow s) : WritesInWindow s.enableSet := by
  unfold State.enableSet
  split
  · refine ⟨hs.1, fun a ha => ?_⟩
    cases ha
    rfl
  all_goals exact hs

theorem WritesInWindow.settle {s : State} (hs : WritesInWindow s) : WritesInWindow s.settle :=
  hs.of_issuesNothing s.settle_issuesNothing

theorem WritesInWindow.workEvent {s t : State} (hs : WritesInWindow s) {k : Seg} {f : Work → Work}
    (h : s.workEvent k f = .next t) : WritesInWindow t := by
  cases h
  exact (hs.of_issuesNothing (s.onSeg_issuesNothing k f)).settle

theorem WritesInWindow.segEvent {s t : State} (hs : WritesInWindow s) {k : Seg} {f : Segment → Segment}
    (h : s.segEvent k f = .next t) : WritesInWindow t := hs.workEvent (f := fun w => w.on f) h

/-- Every command keeps the invariant. -/
theorem WritesInWindow.exec {s t : State} (hs : WritesInWindow s) (c : Instr) (h : exec c s = .next t) :
    WritesInWindow t := by
  cases c with
  | pinReset => cases h; exact WritesInWindow.of_idle rfl nofun
  | softReset => cases h; exact WritesInWindow.softReset s
  | enableSet => cases h; exact hs.enableSet.settle
  | enableClear => cases h; exact (hs.of_issuesNothing s.enableClear_issuesNothing).settle
  | runSet k => cases h; exact (hs.of_issuesNothing (s.runSet_issuesNothing k)).settle
  | runClear k => cases h; exact (hs.of_issuesNothing (s.runClear_issuesNothing k)).settle
  | scan v => cases h; exact (hs.of_issuesNothing (s.scan_issuesNothing v)).settle
  | attentionRead | attentionMaskWrite v => cases h; exact hs.of_issuesNothing (State.issuesNothing_port rfl)
  | registerWrite reg v =>
    cases h
    refine hs.of_issuesNothing (State.issuesNothing_port ?_)
    unfold State.registerWrite
    repeat' split
    all_goals rfl
  | memoryGrant late => cases h; exact (hs.grant late).settle
  | accessComplete d => cases h; exact (hs.complete d).settle
  | errorResponse => cases h; exact hs.errorResponse.settle
  | throttleExpiry k =>
    cases h
    exact WritesInWindow.settle (hs.of_issuesNothing ⟨rfl, rfl, rfl, fun _ hb _ => hb⟩)
  | settleExpiry k _ | cycleTimerExpiry k | sampleTimerExpiry k _ | sweepStep k _ _ => exact hs.workEvent h
  | frameReport k | startBitTaken k | arbitrationLoss k _ _ | collision k _ _ | transmitEnd k | frameGap k
  | reservationExpiry k | wExpiry k | holdGap k | answerTurnaround k | responderDeadline k | stallReport k | stallEnd k
  | quietInterval k | scanTimerExpiry k
  | pauseAfterEnd k | characterComplete k _ _ _ => exact hs.segEvent h

/-- Settles O5: a step is a command on the rest of the queue, and every command keeps the invariant. -/
theorem writesStayInWindow : Obligations.WritesStayInWindow := by
  intro s t hs h
  unfold step at h
  split at h
  · cases h; exact hs
  · rename_i c rest _
    exact WritesInWindow.exec (s := { s with pending := rest }) hs c h

end Sys2Proof.Machine

/-! The order of grants (R153, R154): the table of requesters, and the order of a segment's sources. -/

namespace Sys2Proof.Machine

/-! ## The lowest segment number -/

/-- A search in the order of the segment numbers finds the lowest of those that satisfy p. -/
theorem Seg.find_lowest {p : Seg → Bool} {k : Seg} (hk : p k = true) (hj : ∀ j : Seg, j.toNat < k.toNat → p j = false) :
    Seg.all.find? p = some k := by
  have h := Seg.forall_iff.mp hj
  cases k <;> simp_all [Seg.all, Seg.toNat, List.find?]

theorem Seg.find_none {p : Seg → Bool} (h : ∀ k, p k = false) : Seg.all.find? p = none := by
  simp [List.find?_eq_none, h]

/-! ## What a segment wants -/

theorem Timer.isRunning_iff (t : Timer) : t.isRunning = true ↔ t ≠ .stopped := by cases t <;> simp [Timer.isRunning]

/-- Line 4 of the table: a normal request with the throttle timer stopped. -/
theorem State.wantsNormal_stopped (s : State) (k : Seg) : s.wantsNormal false k = true
    ↔ (s.segs.get k).waits.normalSource ≠ none ∧ (s.port.throttle.get k).timer = .stopped := by
  unfold State.wantsNormal
  rw [Bool.and_eq_true, beq_iff_eq, Option.isSome_iff_ne_none, ← Bool.not_eq_true, Timer.isRunning_iff, not_not]

/-- Line 5: a normal request with the throttle timer running. -/
theorem State.wantsNormal_running (s : State) (k : Seg) : s.wantsNormal true k = true
    ↔ (s.segs.get k).waits.normalSource ≠ none ∧ (s.port.throttle.get k).timer ≠ .stopped := by
  unfold State.wantsNormal
  rw [Bool.and_eq_true, beq_iff_eq, Option.isSome_iff_ne_none, Timer.isRunning_iff]

theorem State.normalOf_eq {s : State} {k : Seg} {src : Source} (h : (s.segs.get k).waits.normalSource = some src) :
    s.normalOf k = .segment k src := by
  unfold State.normalOf
  rw [h]
  rfl

/-! ## The table of R154 -/

section
variable {s : State}

/-- Line 1. -/
theorem State.chooseRequester_urgent {k : Seg} (h : Seg.all.find? s.wantsUrgent = some k) :
    s.chooseRequester = some (.segment k .urgent) := by
  unfold State.chooseRequester
  rw [h]

/-- Line 2. -/
theorem State.chooseRequester_device (hu : Seg.all.find? s.wantsUrgent = none) (hd : s.port.device ≠ none) :
    s.chooseRequester = some .device := by
  unfold State.chooseRequester
  rw [hu]
  exact if_pos (Option.isSome_iff_ne_none.mpr hd)

/-- Line 3. -/
theorem State.chooseRequester_notice (hu : Seg.all.find? s.wantsUrgent = none) (hd : s.port.device = none)
    (hn : s.port.notice ≠ none) : s.chooseRequester = some .notice := by
  unfold State.chooseRequester
  rw [hu, hd]
  exact if_pos (Option.isSome_iff_ne_none.mpr hn)

/-- Lines 4 and 5. -/
theorem State.chooseRequester_normal (hu : Seg.all.find? s.wantsUrgent = none) (hd : s.port.device = none)
    (hn : s.port.notice = none) : s.chooseRequester
      = ((Seg.all.find? (s.wantsNormal false)).or (Seg.all.find? (s.wantsNormal true))).map s.normalOf := by
  unfold State.chooseRequester
  rw [hu, hd, hn]
  cases Seg.all.find? (s.wantsNormal false) with
  | some k => rfl
  | none => cases Seg.all.find? (s.wantsNormal true) <;> rfl

end

/-! ## The obligation -/

/-- Settles O23: the lines of R154 in order, and the order of R153 within a segment. -/
theorem grantFollowsOrder : Obligations.GrantFollowsOrder := by
  refine fun s _ => ⟨fun k a hk hj => ?_, fun hu => ?_, fun v => rfl⟩
  · refine State.chooseRequester_urgent (Seg.find_lowest ?_ fun j h => ?_)
    · unfold State.wantsUrgent; rw [hk]; rfl
    · unfold State.wantsUrgent; rw [hj j h]; rfl
  · have hnone : Seg.all.find? s.wantsUrgent = none :=
      Seg.find_none fun k => by unfold State.wantsUrgent; rw [hu k]; rfl
    refine ⟨fun a hd => State.chooseRequester_device hnone (by simp [hd]),
      fun a hd hn => State.chooseRequester_notice hnone hd (by simp [hn]), fun hd hn => ?_⟩
    rw [State.chooseRequester_normal hnone hd hn]
    refine ⟨fun k src hk ht hj => ?_, fun k src hk hall hj => ?_, fun hk => ?_⟩
    · have hfind : Seg.all.find? (s.wantsNormal false) = some k := by
        refine Seg.find_lowest ((s.wantsNormal_stopped k).mpr ⟨by simp [hk], ht⟩) fun j h => ?_
        rw [← Bool.not_eq_true, State.wantsNormal_stopped]
        rintro ⟨hsrc, hstop⟩
        exact (hj j h).elim hsrc fun hrun => hrun hstop
      rw [hfind]
      exact congrArg some (State.normalOf_eq hk)
    · have hnot : Seg.all.find? (s.wantsNormal false) = none := by
        refine Seg.find_none fun j => ?_
        rw [← Bool.not_eq_true, State.wantsNormal_stopped]
        rintro ⟨hsrc, hstop⟩
        exact (hall j).elim hsrc fun hrun => hrun hstop
      have hfind : Seg.all.find? (s.wantsNormal true) = some k := by
        refine Seg.find_lowest ((s.wantsNormal_running k).mpr ⟨by simp [hk], ?_⟩) fun j h => ?_
        · exact (hall k).resolve_left (by simp [hk])
        · rw [← Bool.not_eq_true, State.wantsNormal_running]
          exact fun c => c.1 (hj j h)
      rw [hnot, hfind]
      exact congrArg some (State.normalOf_eq hk)
    · have hnot : ∀ throttled, Seg.all.find? (s.wantsNormal throttled) = none := fun throttled =>
        Seg.find_none fun j => by unfold State.wantsNormal; rw [hk j]; rfl
      rw [hnot, hnot]
      rfl

end Sys2Proof.Machine

/-! SUPPORT. What a grant does, once for each requester (R151, R155, R157), which requests wait at it, and when the block it
leaves is settled. -/

namespace Sys2Proof.Machine

/-! ## What settling finds due -/

/-- A block is settled when no disable asked for in FAULTED can be carried out, and a notice writer in READY with no access in
progress has none to issue (R165, R169, R171). -/
theorem State.settled_iff (s : State) : s.settled ↔
    ¬(s.dev.state = .faulted ∧ s.dev.disableAsked = true ∧ s.allAtRest = true)
      ∧ (s.dev.state = .ready → s.port.notice = none → s.noticeOnBus = false →
          ¬(s.nw.recWaiting = true ∨ s.drained = true) ∧ s.nw.queue = []) := by
  constructor
  · intro hs
    obtain ⟨hd, hn⟩ := State.settled_parts hs
    refine ⟨fun c => ?_, fun hr hp hb => ?_⟩
    · have he : s.disableDue = s.enterDisabled := if_pos c
      have hf := c.1
      rw [← hd, he] at hf
      cases hf
    · have hne := State.issued_ne hp
      unfold State.noticeDue at hn
      rw [if_pos ⟨hr, hp, hb⟩] at hn
      have hw : ¬(s.nw.recWaiting = true ∨ s.drained = true) := fun w => hne _ _ ((if_pos w).symm.trans hn)
      rw [if_neg hw] at hn
      cases hq : s.nw.queue with
      | nil => exact ⟨hw, rfl⟩
      | cons n ns =>
        rw [hq] at hn
        exact absurd hn (hne _ s.nw)
  · rintro ⟨hd, hn⟩
    have hdis : s.disableDue = s := if_neg hd
    unfold State.settled State.settle
    rw [hdis]
    unfold State.noticeDue
    split
    · rename_i c
      obtain ⟨hw, hq⟩ := hn c.1 c.2.1 c.2.2
      rw [if_neg hw, hq]
    · rfl

/-- What settling reads of a block. -/
theorem State.settled_same {s t : State} (hs : s.settled) (hdev : t.dev = s.dev) (hnw : t.nw = s.nw)
    (hrest : t.allAtRest = s.allAtRest) (hn : t.port.notice = s.port.notice) (hb : t.noticeOnBus = s.noticeOnBus) :
    t.settled := by
  have hdr : t.drained = s.drained := by unfold State.drained; rw [hdev, hnw, hrest]
  have h := (State.settled_iff s).mp hs
  rw [State.settled_iff, hdev, hnw, hrest, hn, hb, hdr]
  exact h

/-- A segment unit that takes a value with the same RUN bit is at rest as before. -/
theorem State.allAtRest_put {s t : State} {k : Seg} {g : Segment} (ht : t.segs = s.segs.put k g)
    (h : g.atRest = (s.segs.get k).atRest) : t.allAtRest = s.allAtRest := by
  refine (Eq.trans ?_ (State.allAtRest_takeSeg h) : t.allAtRest = s.allAtRest)
  exact congrArg (fun f : Four Segment => f.all Segment.atRest) ht

/-! ## The requests that wait -/

theorem Waits.access_take (v : Waits) (src x : Source) :
    (v.take src).access x = if x = src then none else v.access x := by
  cases src <;> cases x <;> rfl

theorem Waits.access_normalSource {v : Waits} {src : Source} (h : v.normalSource = some src) : v.access src ≠ none := by
  unfold Waits.normalSource at h
  split_ifs at h <;> cases h
  all_goals exact Option.isSome_iff_ne_none.mp (by assumption)

theorem Waits.normalSource_eq_none (v : Waits) :
    v.normalSource = none ↔ v.control = none ∧ v.responder = none ∧ v.unit = none ∧ v.chain = none := by
  unfold Waits.normalSource
  simp only [Option.isSome_iff_ne_none]
  split_ifs <;> simp_all

theorem Waits.normalSource_none {v : Waits} (h : v.normalSource = none) {src : Source} (hs : src ≠ .urgent) :
    v.access src = none := by
  obtain ⟨hc, hr, hu, hh⟩ := v.normalSource_eq_none.mp h
  cases src with
  | urgent => exact absurd rfl hs
  | control => exact hc
  | responder => exact hr
  | unit => exact hu
  | chain => exact hh

/-- Hiding a request from the arbiter hides no other. -/
theorem State.mem_waiting_without {s : State} {q r : Requester} :
    q ∈ (s.without r).waiting ↔ q ∈ s.waiting ∧ q ≠ r := by
  cases q with
  | segment j x =>
    rw [State.mem_waiting_segment, State.mem_waiting_segment]
    cases r with
    | segment k src =>
      show ((s.segs.put k _).get j).waits.access x ≠ none ↔ _
      rw [Four.get_put]
      split
      · rename_i e
        rw [e, Waits.access_take]
        by_cases hx : x = src <;> simp [hx]
      · rename_i e
        simp [e]
    | notice | device => simp [State.without]
  | notice =>
    rw [State.mem_waiting_notice, State.mem_waiting_notice]
    cases r <;> simp [State.without]
  | device =>
    rw [State.mem_waiting_device, State.mem_waiting_device]
    cases r <;> simp [State.without]

/-- The arbiter sees only requests that wait. -/
theorem State.mem_waiting_seen {s : State} {late : List Requester} {q : Requester} (h : q ∈ (s.seen late).waiting) :
    q ∈ s.waiting := by
  have hfold : ∀ (rs : List Requester) (t : State), q ∈ (rs.foldl State.without t).waiting → q ∈ t.waiting := by
    intro rs
    induction rs with
    | nil => exact fun _ hq => hq
    | cons r rs ih => exact fun t hq => (State.mem_waiting_without.mp (ih (t.without r) hq)).1
  unfold State.seen at h
  split at h
  · exact hfold _ _ h
  · exact h

/-- The requester chosen is one of those that wait. -/
theorem State.chooseRequester_waits {s : State} {r : Requester} (h : s.chooseRequester = some r) : r ∈ s.waiting := by
  cases hu : Seg.all.find? s.wantsUrgent with
  | some k =>
    rw [State.chooseRequester_urgent hu] at h
    cases h
    exact State.mem_waiting_segment.mpr (Option.isSome_iff_ne_none.mp (List.find?_some hu :))
  | none =>
    by_cases hd : s.port.device = none
    · by_cases hn : s.port.notice = none
      · rw [State.chooseRequester_normal hu hd hn] at h
        obtain ⟨k, hk, rfl⟩ := Option.map_eq_some_iff.mp h
        have hwants : (s.segs.get k).waits.normalSource ≠ none := by
          rcases Option.or_eq_some_iff.mp hk with hk | ⟨-, hk⟩
          · exact ((s.wantsNormal_stopped k).mp (List.find?_some hk)).1
          · exact ((s.wantsNormal_running k).mp (List.find?_some hk)).1
        obtain ⟨src, hsrc⟩ := Option.ne_none_iff_exists'.mp hwants
        rw [State.normalOf_eq hsrc]
        exact State.mem_waiting_segment.mpr (Waits.access_normalSource hsrc)
      · rw [State.chooseRequester_notice hu hd hn] at h
        cases h
        exact State.mem_waiting_notice.mpr hn
    · rw [State.chooseRequester_device hu hd] at h
      cases h
      exact State.mem_waiting_device.mpr hd

/-- A grant serves some requester while one waits. -/
theorem State.chooseRequester_serves {s : State} {q : Requester} (hq : q ∈ s.waiting) : s.chooseRequester ≠ none := by
  intro h
  have hu : Seg.all.find? s.wantsUrgent = none := by
    cases hu : Seg.all.find? s.wantsUrgent with
    | none => rfl
    | some k => rw [State.chooseRequester_urgent hu] at h; cases h
  have hd : s.port.device = none := by
    by_contra hd
    rw [State.chooseRequester_device hu hd] at h
    cases h
  have hn : s.port.notice = none := by
    by_contra hn
    rw [State.chooseRequester_notice hu hd hn] at h
    cases h
  cases q with
  | notice => exact State.mem_waiting_notice.mp hq hn
  | device => exact State.mem_waiting_device.mp hq hd
  | segment k src =>
    have hwaits := State.mem_waiting_segment.mp hq
    rw [State.chooseRequester_normal hu hd hn, Option.map_eq_none_iff, Option.or_eq_none_iff] at h
    obtain ⟨hstop, hrun⟩ := h
    rw [List.find?_eq_none] at hu hstop hrun
    by_cases hs : src = .urgent
    · subst hs
      exact hu k (Seg.mem_all k) (Option.isSome_iff_ne_none.mpr hwaits)
    · have hsrc : (s.segs.get k).waits.normalSource ≠ none := fun c => hwaits (Waits.normalSource_none c hs)
      by_cases ht : (s.port.throttle.get k).timer = .stopped
      · exact hstop k (Seg.mem_all k) ((s.wantsNormal_stopped k).mpr ⟨hsrc, ht⟩)
      · exact hrun k (Seg.mem_all k) ((s.wantsNormal_running k).mpr ⟨hsrc, ht⟩)

/-- The requester granted is one of those that wait, whatever is late. -/
theorem State.granted_waits {s : State} {late : List Requester} {r : Requester} (h : s.granted late = some r) :
    r ∈ s.waiting := State.mem_waiting_seen (State.chooseRequester_waits h)

/-- A grant is owed while a request noted at the last response waits. -/
theorem State.grantOwed_iff (s : State) : s.grantOwed = true ↔ ∃ q, q ∈ s.port.waited ∧ q ∈ s.waiting := by
  unfold State.grantOwed
  rw [List.any_eq_true]
  simp

/-! ## The grant to a segment -/

theorem Throttle.load_eq (t : Throttle) :
    t.load = { t with timer := if t.interval = 0 then t.timer else .running t.interval.toNat } := by
  unfold Throttle.load
  split <;> rfl

/-- The block once an access of source src of segment k is taken, which leaves the unit as g: a normal grant loads the
throttle timer, an urgent one does not (R155). -/
def State.sourceTaken (s : State) (k : Seg) (src : Source) (g : Segment) : State :=
  { s.putSeg k g with
    port := { s.port with
      throttle := if src = .urgent then s.port.throttle else s.port.throttle.put k (s.port.throttle.get k).load } }

/-- The segment unit once the access of a source is taken by a grant. -/
def Segment.accessTaken (g : Segment) (src : Source) : Segment := { g with waits := g.waits.take src }

/-- An access other than a progress record write is issued as it waited. -/
theorem Segment.grant_plain (g : Segment) (src : Source) {a : Access} (h : a.op ≠ .progress) :
    g.grant src a = (g.accessTaken src, a) := if_neg h

/-- The check of R157 decides between a refusal and the bus. -/
theorem State.grantSegment_eq {s : State} {k : Seg} {src : Source} {a b : Access} {g : Segment}
    (ha : (s.segs.get k).waits.access src = some a) (hg : (s.segs.get k).grant src a = (g, b)) :
    s.grantSegment k src
      = if b.op.isWrite && !b.inWindow s.port.windowLow s.port.windowHigh then
          (s.sourceTaken k src g).refusal.refuseSegment k b
        else (s.sourceTaken k src g).issue (.segment k src) b := by
  unfold State.grantSegment
  rw [ha]
  dsimp only
  rw [hg]
  unfold State.sourceTaken
  by_cases h : src = .urgent
  · rw [if_pos h, if_pos h]; rfl
  · rw [if_neg h, if_neg h]; rfl

theorem exec_grantSegment {s : State} {late : List Requester} {k : Seg} {src : Source} (hb : s.port.busy = none)
    (hg : s.granted late = some (.segment k src)) : exec (.memoryGrant late) s = .next (s.grantSegment k src).settle := by
  show Host.Outcome.next (s.grant late).settle = _
  rw [State.grant_idle late hb, hg]

/-! ## The grant to the notice writer -/

/-- The block once the access of the notice writer is taken. -/
def State.noticeTaken (s : State) (final : Bool) : State :=
  { s with port := { s.port with notice := none }, nw := { s.nw with finalRec := final } }

/-- The access that the notice writer puts on the bus for one that waits: a device progress record is filled in (R171). -/
def State.noticeFilled (s : State) (a : Access) : Access :=
  if a.op = .devProgress then .write .devProgress s.nw.record s.recordBytes else a

theorem State.grantNotice_eq {s : State} {a : Access} (ha : s.port.notice = some a) :
    s.grantNotice
      = if (s.noticeFilled a).op.isWrite && !(s.noticeFilled a).inWindow s.port.windowLow s.port.windowHigh then
          (s.noticeTaken (a.op == .devProgress && s.drained)).refusal.noticeFault
            (firstByte (s.noticeFilled a).bytes (s.noticeFilled a).addr)
        else (s.noticeTaken (a.op == .devProgress && s.drained)).issue .notice (s.noticeFilled a) := by
  unfold State.grantNotice
  rw [ha]
  rfl

theorem exec_grantNotice {s : State} {late : List Requester} (hb : s.port.busy = none)
    (hg : s.granted late = some .notice) : exec (.memoryGrant late) s = .next s.grantNotice.settle := by
  show Host.Outcome.next (s.grant late).settle = _
  rw [State.grant_idle late hb, hg]

/-- While its access is on the bus the notice writer issues nothing. -/
theorem State.settle_issue_notice {s : State} (hr : s.dev.state = .ready) (a : Access) :
    (s.issue .notice a).settle = s.issue .notice a := by
  rw [State.settle_ready (s := s.issue .notice a) hr]
  refine if_neg fun c => ?_
  cases c.2.2

theorem State.recordBytes_length (s : State) : s.recordBytes.length = 16 := by
  unfold State.recordBytes
  simp [wrHalf, wrWord]

/-! ## A grant with no access to issue -/

/-- A grant of a BUSY port, or with nothing waiting, changes nothing (log 3). -/
theorem State.grant_none {s : State} {late : List Requester} (h : s.port.busy.isSome = true ∨ s.granted late = none) :
    s.grant late = s := by
  unfold State.grant
  split
  · rfl
  · rename_i hb
    rw [h.resolve_left hb]

end Sys2Proof.Machine

/-! Grants and the throttle timers (R151, R154, R155, R171). -/

namespace Sys2Proof.Machine

/-- A read, and a write inside the window, pass the check of R157. -/
theorem Access.passes {low high : Word} {a : Access} (h : a.op.isWrite = true → a.inWindow low high = true) :
    ¬(a.op.isWrite && !a.inWindow low high) = true := by
  rw [Bool.and_eq_true, Bool.not_eq_true']
  rintro ⟨hw, hout⟩
  rw [h hw] at hout
  cases hout

/-- A grant that puts a segment's access on the bus leaves a settled block settled. -/
theorem State.settle_issue_segment {s : State} (hs : s.settled) (hb : s.port.busy = none) {k : Seg} {src : Source}
    {g : Segment} (hg : g.atRest = (s.segs.get k).atRest) (a : Access) :
    ((s.sourceTaken k src g).issue (.segment k src) a).settle = (s.sourceTaken k src g).issue (.segment k src) a := by
  refine State.settled_same (t := (s.sourceTaken k src g).issue (.segment k src) a) hs rfl rfl
    (State.allAtRest_put rfl hg) rfl ?_
  unfold State.noticeOnBus
  rw [hb]
  rfl

/-- The grant of a read, or of a write inside the window. -/
theorem exec_grantSegment_issues {s : State} {late : List Requester} {k : Seg} {src : Source} {a : Access} (hs : s.settled)
    (hb : s.port.busy = none) (hg : s.granted late = some (.segment k src))
    (ha : (s.segs.get k).waits.access src = some a) (hop : a.op ≠ .progress)
    (hin : a.op.isWrite = true → a.inWindow s.port.windowLow s.port.windowHigh = true) :
    exec (.memoryGrant late) s
      = .next ((s.sourceTaken k src ((s.segs.get k).accessTaken src)).issue (.segment k src) a) := by
  rw [exec_grantSegment hb hg, State.grantSegment_eq ha (Segment.grant_plain _ src hop), if_neg (Access.passes hin),
    State.settle_issue_segment hs hb]
  rfl

/-- The grant to the notice writer of an access inside the window. -/
theorem exec_grantNotice_issues {s : State} {late : List Requester} {a : Access} (hb : s.port.busy = none)
    (hg : s.granted late = some .notice) (ha : s.port.notice = some a) (hr : s.dev.state = .ready)
    (hin : (s.noticeFilled a).op.isWrite = true →
      (s.noticeFilled a).inWindow s.port.windowLow s.port.windowHigh = true) :
    exec (.memoryGrant late) s
      = .next ((s.noticeTaken (a.op == .devProgress && s.drained)).issue .notice (s.noticeFilled a)) := by
  rw [exec_grantNotice hb hg, State.grantNotice_eq ha, if_neg (Access.passes hin)]
  exact congrArg Host.Outcome.next (State.settle_issue_notice (s := s.noticeTaken _) hr _)

/-- The device progress record of a READY device: DISABLED at the end of the drain, else READY (R165, R171). -/
theorem State.recordBytes_ready {s : State} (hr : s.dev.state = .ready) {final : Bool} (hf : s.drained = final) :
    s.recordBytes = [if final then 0 else 2, BitVec.ofNat 8 s.dev.fault.code] ++ wrHalf (BitVec.ofNat 16 s.nw.next)
      ++ wrWord s.nw.dropped ++ [0, 0, 0, 0, 0, 0, 0, 0] := by
  unfold State.recordBytes
  rw [hf, hr]
  cases final <;> rfl

/-- Settles O24: the grants that issue, the requests that are in a grant, and the end of a throttle interval. -/
theorem grantIssuesAccess : Obligations.GrantIssuesAccess := by
  refine ⟨fun s late k g src a hs hb hg hgr ha hop hin => ?_, ⟨fun s late a hb hgr ha hd => ?_,
    fun s late a hb hgr ha hr hop hin => ?_, fun s late a final hb hgr ha hr hop hl hh hfin => ?_, fun s late hs h => ?_⟩,
    fun s => ⟨?_, fun late hno => ?_, fun r => ⟨fun hr => ?_, fun q hr hq hw => ?_⟩⟩, fun s k hs => ?_⟩
  · subst hg
    rw [exec_grantSegment_issues hs hb hgr ha hop fun hw => (Access.inWindow_iff _ _ _).mpr (hin hw)]
    unfold State.sourceTaken State.issue
    rw [Throttle.load_eq]
    rfl
  · have hex : exec (.memoryGrant late) s = .next s.grantDevice.settle := by
      show Host.Outcome.next (s.grant late).settle = _
      rw [State.grant_idle late hb, hgr]
    unfold State.grantDevice at hex
    rw [ha] at hex
    rw [hex]
    dsimp only
    rw [State.settle_off (by simp [hd]) (by simp [hd])]
    rfl
  · have hfill : s.noticeFilled a = a := if_neg hop
    have hfin : (a.op == .devProgress && s.drained) = false := by simp [hop]
    rw [exec_grantNotice_issues hb hgr ha hr (by rw [hfill]; exact fun hw => (Access.inWindow_iff _ _ _).mpr (hin hw)),
      hfill, hfin]
    rfl
  · have hfill : s.noticeFilled a = .write .devProgress s.nw.record s.recordBytes := if_pos hop
    have hdr : s.drained = final := by
      rw [Bool.eq_iff_iff, hfin, State.drained_iff]
      exact ⟨fun ⟨h1, h2, h3⟩ => ⟨h1, h3, h2⟩, fun ⟨h1, h2, h3⟩ => ⟨h1, h3, h2⟩⟩
    have hfinal : (a.op == .devProgress && s.drained) = final := by simp [hop, hdr]
    rw [exec_grantNotice_issues hb hgr ha hr
      (by rw [hfill]; exact fun _ => placeAt_inWindow hl (by rw [State.recordBytes_length]; exact hh) _ _),
      hfill, hfinal, State.recordBytes_ready hr hdr]
    rfl
  · show Host.Outcome.next (s.grant late).settle = _
    rw [State.grant_none h, show s.settle = s from hs]
  · unfold State.granted
    rw [State.seen_nil]
  · have ho : s.grantOwed = false := by
      rw [← Bool.not_eq_true, State.grantOwed_iff]
      rintro ⟨q, hq, hw⟩
      exact hno q hq hw
    unfold State.granted
    rw [State.seen_open late ho]
  · unfold State.granted
    rw [State.seen_waited hr]
  · have hseen : s.granted [r] = (s.without r).chooseRequester := by
      unfold State.granted
      rw [State.seen_late ((State.grantOwed_iff s).mpr ⟨q, hq, hw⟩) hr]
    refine ⟨hseen, hseen ▸ State.chooseRequester_serves (State.mem_waiting_without.mpr ⟨hw, ?_⟩)⟩
    rintro rfl
    exact hr hq
  · show Host.Outcome.next (State.settle _) = _
    refine congrArg Host.Outcome.next (State.settled_same (t := { s with port := { s.port with
      throttle := s.port.throttle.put k (s.port.throttle.get k).stop } }) hs rfl rfl rfl rfl rfl)

end Sys2Proof.Machine

/-! SUPPORT. A write outside the write window (R157): its bytes, and what the grant of it does in the segment and in the block. -/

namespace Sys2Proof.Machine

/-! ## The bytes of a write -/

/-- Consecutive bytes have consecutive addresses. -/
theorem placeAt_addresses (a : Word) (bs : List Byte) :
    (placeAt a bs).map Prod.fst = (List.range bs.length).map fun i => a + BitVec.ofNat 32 i := by
  induction bs generalizing a with
  | nil => rfl
  | cons b bs ih =>
    rw [placeAt, List.map_cons, ih, List.length_cons, List.range_succ_eq_map, List.map_cons, List.map_map]
    refine List.cons_eq_cons.mpr ⟨(BitVec.add_zero a).symm, List.map_congr_left fun i _ => ?_⟩
    show a + BitVec.ofNat 32 1 + BitVec.ofNat 32 i = a + BitVec.ofNat 32 (i + 1)
    rw [BitVec.add_assoc, ← BitVec.ofNat_add, Nat.add_comm 1]

theorem Access.outside_iff (low high : Word) (a : Access) :
    a.inWindow low high = false ↔ ∃ x ∈ a.bytes.map Prod.fst, ¬InWriteWindow low high x := by
  rw [← Bool.not_eq_true, Access.inWindow_iff]
  simp

theorem firstByte_head {bs : List (Word × Byte)} {x : Word} (h : (bs.map Prod.fst).head? = some x) (dflt : Word) :
    firstByte bs dflt = x := by
  cases bs with
  | nil => cases h
  | cons p bs => exact Option.some.inj h

/-! ## The fault of a live segment -/

/-- What a fault makes of a live segment unit: it enters FAULTED, or holds the fault back until the end of its frame (R40). -/
def Segment.faultMade (g : Segment) (code : FaultCode) (ref : Word) (wide : Bool) : Segment :=
  if g.line.tx = none then (g.faultTaken code).faultEntered ref wide else { g.faultTaken code with faultHeld := some ref }

theorem Work.takeFault_finish {w : Work} (code : FaultCode) (ref : Word) (hl : w.seg.live = true) :
    ∃ d, (w.takeFault code ref).finish = { w with drop := d, seg := w.seg.faultMade code ref w.wide } := by
  unfold Segment.faultMade
  by_cases ht : w.seg.line.tx = none
  · obtain ⟨d, h⟩ := Work.takeFault_now code ref hl ht
    refine ⟨d, ?_⟩
    rw [h, Work.enterFaulted_eq, if_pos ht]
    exact Work.finish_faulted rfl rfl
  · obtain ⟨d, h⟩ := Work.takeFault_held code ref hl (Option.isSome_iff_ne_none.mpr ht)
    refine ⟨d, ?_⟩
    rw [h, if_neg ht]
    exact Work.finish_holds rfl (Option.isSome_iff_ne_none.mpr ht)

theorem Segment.faultMade_now {g : Segment} {code : FaultCode} {ref : Word} {wide : Bool} (h : g.line.tx = none) :
    g.faultMade code ref wide = (g.faultTaken code).faultEntered ref wide := if_pos h

theorem Segment.faultMade_held {g : Segment} {code : FaultCode} {ref : Word} {wide : Bool} {tx : Tx}
    (h : g.line.tx = some tx) : g.faultMade code ref wide = { g.faultTaken code with faultHeld := some ref } :=
  if_neg (by simp [h])

/-- Whether or not a frame is driven, the segment's work is over and its other accesses are withdrawn. -/
theorem Segment.faultMade_idle (g : Segment) (code : FaultCode) (ref : Word) (wide : Bool) :
    (g.faultMade code ref wide).unit = .none ∧ (g.faultMade code ref wide).waits.unit = none
      ∧ (g.faultMade code ref wide).waits.responder = none ∧ (g.faultMade code ref wide).resp.hands = []
      ∧ (g.faultMade code ref wide).fault = code := by
  unfold Segment.faultMade
  split <;> exact ⟨rfl, rfl, rfl, rfl, rfl⟩

/-! ## A refused write of a segment -/

/-- The segment unit once its progress record write is taken by a grant (R43, R79). -/
def Segment.recordTaken (g : Segment) : Segment :=
  { g with
    waits := { g.waits with control := none },
    prBus := g.prWait, prWait := [], prFault := g.faultOwed.isSome, prEnded := none }

/-- The progress record write as it goes to the bus. -/
def Segment.recordWrite (g : Segment) : Access := .write .progress g.blk.progress g.progressBytes

theorem Segment.grant_record (g : Segment) {a : Access} (h : a.op = .progress) :
    g.grant .control a = (g.recordTaken, g.recordWrite) := if_pos h

theorem Segment.recordWrite_addresses (g : Segment) :
    g.recordWrite.bytes.map Prod.fst = (List.range 32).map fun i => g.blk.progress + BitVec.ofNat 32 i := by
  have h := placeAt_addresses g.blk.progress g.progressBytes
  rw [Segment.progressBytes_length] at h
  exact h

theorem Segment.recordWrite_first (g : Segment) (dflt : Word) : firstByte g.recordWrite.bytes dflt = g.blk.progress :=
  firstByte_head (by rw [Segment.recordWrite_addresses, List.head?_map]; exact congrArg some (BitVec.add_zero _)) dflt

theorem Segment.recordWrite_refusedRef (g : Segment) : g.recordWrite.refusedRef = g.blk.progress :=
  g.recordWrite_first g.recordWrite.addr

/-- What the port and the segment do at a refused write (R157, R40). -/
def Work.writeRefused (b : Access) (w : Work) : Work :=
  (w.raiseSeg .writeRefused 0 (firstByte b.bytes b.addr)).refused b

theorem State.refuseSegment_eq (s : State) (k : Seg) (b : Access) : s.refuseSegment k b = s.onSeg k (Work.writeRefused b) :=
  rfl

/-- The notice of a refused write (R157, R177). -/
def Work.refusalNotice (w : Work) (b : Access) : Notice :=
  ⟨.writeRefused, segByte w.k, 0xFF, 0, 0, w.seg.cycle.number, firstByte b.bytes b.addr⟩

theorem State.refusalNotice_eq {s : State} {k : Seg} {g : Segment} {b : Access} (h : g.cycle = (s.segs.get k).cycle) :
    (s.workWith k g []).refusalNotice b
      = { s.segNotice k .writeRefused 0 with ref := firstByte b.bytes b.addr } := by
  unfold Work.refusalNotice State.segNotice
  rw [State.workWith_seg, h]
  rfl

/-- A refused write other than a progress record is a fault of the segment. -/
theorem Work.writeRefused_plain {w : Work} {b : Access} (hop : b.op ≠ .progress) (hl : w.seg.live = true) :
    (w.writeRefused b).finish.seg = w.seg.faultMade .writeRefused b.refusedRef w.wide
      ∧ (w.writeRefused b).finish.notices = w.notices ++ [w.refusalNotice b] := by
  have h : w.writeRefused b
      = (w.raiseSeg .writeRefused 0 (firstByte b.bytes b.addr)).takeFault .writeRefused b.refusedRef := if_neg hop
  obtain ⟨d, hd⟩ := Work.takeFault_finish (w := w.raiseSeg .writeRefused 0 (firstByte b.bytes b.addr)) .writeRefused
    b.refusedRef hl
  rw [h, hd]
  exact ⟨rfl, rfl⟩

/-- The notices of the changes that a progress record write covers (R43). -/
def Work.changeNotices (w : Work) (cs : List Change) : List Notice :=
  cs.map fun c => ⟨c.kind, segByte w.k, 0xFF, 0, c.detail, w.seg.cycle.number, 0⟩

/-- A refused progress record write raises the notices that waited on it, after WRITE_REFUSED (R43, log 43), and is a fault of
the segment. -/
theorem Work.writeRefused_record {w : Work} {b : Access} (hop : b.op = .progress) (hf : w.seg.prFault = false)
    (hl : w.seg.live = true) :
    (w.writeRefused b).finish.seg = ({ w.seg with prBus := [] } : Segment).faultMade .writeRefused b.refusedRef w.wide
      ∧ (w.writeRefused b).finish.notices = w.notices ++ [w.refusalNotice b] ++ w.changeNotices w.seg.prBus := by
  have h : w.writeRefused b
      = (w.raiseSeg .writeRefused 0 (firstByte b.bytes b.addr)).raiseChanges.takeFault .writeRefused b.refusedRef :=
    (if_pos hop).trans (if_neg (by show ¬w.seg.prFault = true; simp [hf]))
  obtain ⟨d, hd⟩ := Work.takeFault_finish (w := (w.raiseSeg .writeRefused 0 (firstByte b.bytes b.addr)).raiseChanges)
    .writeRefused b.refusedRef hl
  rw [h, hd]
  exact ⟨rfl, rfl⟩

/-- The one made after a fault, refused, is followed by SEGMENT_FAULT (R40). -/
theorem Work.writeRefused_faultRecord {w : Work} {b : Access} {ref : Word} (hop : b.op = .progress)
    (hf : w.seg.prFault = true) (hb : w.seg.prBus = []) (ho : w.seg.faultOwed = some ref) (hso : w.seg.stopOwed = false)
    (hs : w.seg.state = .faulted) (hh : w.seg.faultHeld = none) (hm : w.mute = false) :
    (w.writeRefused b).finish.seg = { w.seg with faultOwed := none, prFault := false }
      ∧ (w.writeRefused b).finish.notices = w.notices ++ [w.refusalNotice b]
        ++ [⟨.segmentFault, segByte w.k, 0xFF, 0, BitVec.ofNat 8 w.seg.fault.code, w.seg.cycle.number, ref⟩] := by
  let v := w.raiseSeg .writeRefused 0 (firstByte b.bytes b.addr)
  have hraise : v.raiseChanges = v := by
    have hseg : ({ v.seg with prBus := [] } : Segment) = v.seg := Segment.prBus_nil hb
    have hbus : v.seg.prBus = [] := hb
    unfold Work.raiseChanges
    rw [hseg, hbus, List.map_nil, List.append_nil]
  have h : w.writeRefused b = v.faultRecordEnded :=
    (if_pos hop).trans ((Work.progressDone_fault hraise hf).2 _ _)
  have hended : v.faultRecordEnded = (v.raiseSeg .segmentFault (BitVec.ofNat 8 w.seg.fault.code) ref).on fun s =>
      { s with faultOwed := none, prFault := false } := by
    rw [Work.faultRecordEnded_eq (w := v) ho, Work.raiseFault_raises (w := v) hm]
    exact if_neg (by show ¬w.seg.stopOwed = true; simp [hso])
  rw [h, hended, Work.finish_faulted]
  · exact ⟨rfl, rfl⟩
  · exact hs
  · exact hh

/-- The working copy on which a refused write acts. -/
theorem State.work_refusal (s : State) (k : Seg) (src : Source) (g : Segment) :
    (s.sourceTaken k src g).refusal.work k = s.workWith k g [] := by
  unfold State.work
  rw [State.refusal_segs]
  unfold State.sourceTaken
  dsimp only
  rw [State.putSeg_segs, Four.get_put_same]
  rfl

theorem exec_grantSegment_refused {s : State} {late : List Requester} {k : Seg} {src : Source} {a b : Access} {g : Segment}
    (hb : s.port.busy = none) (hgr : s.granted late = some (.segment k src))
    (ha : (s.segs.get k).waits.access src = some a) (hg : (s.segs.get k).grant src a = (g, b))
    (hw : b.op.isWrite = true) (hout : b.inWindow s.port.windowLow s.port.windowHigh = false) :
    exec (.memoryGrant late) s = .next ((s.sourceTaken k src g).refusal.refuseSegment k b).settle := by
  rw [exec_grantSegment hb hgr, State.grantSegment_eq ha hg, if_pos (by rw [hw, hout]; rfl)]

theorem State.settle_throttle {s : State} (h : s.dev.state = .ready) : s.settle.port.throttle = s.port.throttle := by
  rw [State.settle_ready h]
  unfold State.noticeDue
  repeat' split
  all_goals rfl

/-- An event on an IDLE port leaves it IDLE. -/
theorem State.onSeg_idle {s : State} (hb : s.port.busy = none) (k : Seg) (f : Work → Work) :
    (s.onSeg k f).settle.port.busy = none := by
  rw [(State.settle_frame _).2.2.2.2, State.onSeg_port]
  unfold State.busAfter
  rw [hb]
  split <;> rfl

/-- A refused write in a READY device whose queue has room: the port is IDLE, the segment takes its value, WRITE_REFUSED and
the notices of the fault are queued, and the throttle timer runs as after any grant (R155). -/
theorem State.refuseSegment_outcome {s : State} {k : Seg} {src : Source} {b : Access} {g v : Segment}
    {ns : List Notice} (hb : s.port.busy = none) (hv : ((s.workWith k g []).writeRefused b).finish.seg = v)
    (hn : ((s.workWith k g []).writeRefused b).finish.notices = ns) (hr : s.dev.state = .ready) (hl : s.nw.lost = false)
    (hq : s.nw.queue.length + ns.length ≤ 8) :
    ((s.sourceTaken k src g).refusal.refuseSegment k b).settle.port.busy = none
      ∧ ((s.sourceTaken k src g).refusal.refuseSegment k b).settle.segs = s.segs.put k v
      ∧ ((s.sourceTaken k src g).refusal.refuseSegment k b).settle.nw.queue = s.nw.queue ++ ns
      ∧ ((s.sourceTaken k src g).refusal.refuseSegment k b).settle.port.throttle
        = (s.sourceTaken k src g).port.throttle := by
  rw [← State.work_refusal s k src g] at hv hn
  rw [State.refuseSegment_eq]
  have hready : ((s.sourceTaken k src g).refusal.onSeg k (Work.writeRefused b)).dev.state = .ready := by
    rw [State.onSeg_dev]
    exact hr
  obtain ⟨r, hnw⟩ := State.settle_nw hready
  obtain ⟨hnotices, -⟩ := State.onSeg_raises rfl hn hl (by exact hq)
  refine ⟨State.onSeg_idle (by exact hb) k _, ?_, ?_, ?_⟩
  · rw [State.settle_segs, State.onSeg_segs, hv]
    exact Four.put_put _ _ _ _
  · rw [hnw, hnotices]
    rfl
  · rw [State.settle_throttle hready, State.onSeg_port]
    rfl

/-! ## The requests noted at a refusal -/

theorem Segment.grant_waits (g : Segment) (src : Source) (a : Access) : (g.grant src a).1.waits = g.waits.take src := by
  unfold Segment.grant
  dsimp only
  split <;> rfl

/-- Which requests wait depends on the waiting accesses alone. -/
theorem State.waiting_congr {s t : State} (hw : ∀ k, (t.segs.get k).waits = (s.segs.get k).waits)
    (hn : t.port.notice = s.port.notice) (hd : t.port.device = s.port.device) : t.waiting = s.waiting := by
  unfold State.waiting
  simp only [hw, hn, hd]

/-- The requests that wait beside the one that a grant has taken from segment k. -/
theorem State.mem_waiting_sourceTaken {s : State} {k : Seg} {src : Source} {a : Access} {r : Requester} :
    r ∈ (s.sourceTaken k src ((s.segs.get k).grant src a).1).waiting ↔ r ∈ s.waiting ∧ r ≠ .segment k src := by
  rw [← State.mem_waiting_without]
  refine Iff.of_eq (congrArg (r ∈ ·) (State.waiting_congr (fun j => ?_) rfl rfl))
  show ((s.segs.put k _).get j).waits = ((s.segs.put k _).get j).waits
  rw [Four.get_put, Four.get_put]
  split
  · exact Segment.grant_waits _ _ _
  · rfl

theorem State.mem_waiting_noticeTaken {s : State} {final : Bool} {r : Requester} :
    r ∈ (s.noticeTaken final).waiting ↔ r ∈ s.waiting ∧ r ≠ .notice := by
  rw [← State.mem_waiting_without]
  exact Iff.rfl

theorem State.withdraws_segment (s : State) (k : Seg) (g : Segment) (j : Seg) (src : Source) :
    s.withdraws k g (.segment j src)
      = (j == k && ((s.segs.get k).waits.access src).isSome && (g.waits.access src).isNone) := rfl

/-- An event of segment k forgets only requests of that segment that it withdraws (R159). -/
theorem State.onSeg_noted {s : State} {k : Seg} {f : Work → Work} {r : Requester} :
    (r ∈ (s.onSeg k f).port.waited → r ∈ s.port.waited)
      ∧ (r ∈ s.port.waited → (∀ src, r = .segment k src → r ∈ (s.onSeg k f).waiting) → r ∈ (s.onSeg k f).port.waited) := by
  have hw : (s.onSeg k f).port.waited = s.waitedAfter k (f (s.work k)).finish.seg := by rw [State.onSeg_port]
  rw [hw]
  unfold State.waitedAfter
  rw [List.mem_filter]
  refine ⟨And.left, fun hr hk => ⟨hr, ?_⟩⟩
  cases r with
  | notice | device => rfl
  | segment j src =>
    by_cases hj : j = k
    · subst hj
      have hwait := State.mem_waiting_segment.mp (hk src rfl)
      rw [State.onSeg_segs, Four.get_put_same] at hwait
      rw [State.withdraws_segment, Option.isNone_eq_false_iff.mpr (Option.isSome_iff_ne_none.mpr hwait), Bool.and_false]
      rfl
    · rw [State.withdraws_segment, beq_false_of_ne hj]
      rfl

theorem State.stopSeg_noted {s : State} {k : Seg} {r : Requester} :
    (r ∈ (s.stopSeg k).port.waited → r ∈ s.port.waited)
      ∧ (r ∈ s.port.waited → (∀ src, r = .segment k src → r ∈ (s.stopSeg k).waiting) → r ∈ (s.stopSeg k).port.waited) := by
  unfold State.stopSeg
  split
  · exact State.onSeg_noted
  · exact ⟨id, fun hr _ => hr⟩

/-- So does the stop of the segments of a list, each taken once. -/
theorem State.foldl_stopSeg_noted {ks : List Seg} (hn : ks.Nodup) {s : State} {r : Requester} :
    (r ∈ (ks.foldl State.stopSeg s).port.waited → r ∈ s.port.waited)
      ∧ (r ∈ s.port.waited → (∀ k src, r = .segment k src → r ∈ (ks.foldl State.stopSeg s).waiting) →
          r ∈ (ks.foldl State.stopSeg s).port.waited) := by
  induction ks generalizing s with
  | nil => exact ⟨id, fun hr _ => hr⟩
  | cons j ks ih =>
    obtain ⟨hj, hn⟩ := List.nodup_cons.mp hn
    obtain ⟨hsub, hkeep⟩ := ih hn (s := s.stopSeg j)
    refine ⟨fun hr => State.stopSeg_noted.1 (hsub hr), fun hr hk => hkeep (State.stopSeg_noted.2 hr ?_) hk⟩
    rintro src rfl
    have hwait := State.mem_waiting_segment.mp (hk j src rfl)
    rw [List.foldl_cons, State.foldl_stopSeg_other hj] at hwait
    exact State.mem_waiting_segment.mpr hwait

/-- The fault of the notice writer forgets its own request too. -/
theorem State.noticeFault_noted {s : State} {addr : Word} {r : Requester} :
    (r ∈ (s.noticeFault addr).port.waited → r ∈ s.port.waited)
      ∧ (r ∈ s.port.waited → r ≠ .notice → (∀ k src, r = .segment k src → r ∈ (s.noticeFault addr).waiting) →
          r ∈ (s.noticeFault addr).port.waited) := by
  unfold State.noticeFault
  dsimp only
  generalize hv : (if s.nw.queue.length = 0 then _ else _ : State) = v
  have hport : v.port = s.port.noNotice := by rw [← hv]; split <;> rfl
  have hmem : r ∈ v.port.waited ↔ r ∈ s.port.waited ∧ r ≠ .notice := by
    rw [hport]
    show r ∈ s.port.waited.filter (· != .notice) ↔ _
    rw [List.mem_filter, bne_iff_ne]
  obtain ⟨hsub, hkeep⟩ := State.foldl_stopSeg_noted (s := v) (r := r) Seg.all_nodup
  exact ⟨fun hr => (hmem.mp (hsub hr)).1, fun hr hne hk => hkeep (hmem.mpr ⟨hr, hne⟩) hk⟩

/-- Settling forgets the request of the notice writer where it withdraws it (R165). -/
theorem State.settle_noted {s : State} {r : Requester} :
    (r ∈ s.settle.port.waited → r ∈ s.port.waited)
      ∧ (r ∈ s.port.waited → r ∈ s.settle.waiting → r ∈ s.settle.port.waited) := by
  have hnotice : ∀ t : State, t.noticeDue.port.waited = t.port.waited := by
    intro t
    unfold State.noticeDue
    repeat' split
    all_goals rfl
  unfold State.settle
  by_cases c : s.dev.state = .faulted ∧ s.dev.disableAsked = true ∧ s.allAtRest = true
  · have hdis : s.disableDue = s.enterDisabled := if_pos c
    have hdue : s.enterDisabled.noticeDue = s.enterDisabled := if_neg fun h => by cases h.1
    have hmem : r ∈ s.enterDisabled.port.waited ↔ r ∈ s.port.waited ∧ r ≠ .notice := by
      show r ∈ s.port.waited.filter (· != .notice) ↔ _
      rw [List.mem_filter, bne_iff_ne]
    rw [hdis, hdue, hmem]
    refine ⟨And.left, fun hr hw => ⟨hr, ?_⟩⟩
    rintro rfl
    exact State.mem_waiting_notice.mp hw rfl
  · have hdis : s.disableDue = s := if_neg c
    rw [hdis, hnotice]
    exact ⟨id, fun hr _ => hr⟩

/-- A segment's request waits after settling as before. -/
theorem State.mem_waiting_settle {s : State} {k : Seg} {src : Source} :
    Requester.segment k src ∈ s.settle.waiting ↔ Requester.segment k src ∈ s.waiting := by
  rw [State.mem_waiting_segment, State.mem_waiting_segment, State.settle_segs]

end Sys2Proof.Machine

/-! Refused writes (R157, R40, R43, R170): a segment's, the progress record's, the notice writer's, and the requests that the
next grant serves. -/

namespace Sys2Proof.Machine

/-- A grant that leaves the port IDLE has refused its write: the requests that waited beside it are noted (R157, R154). -/
theorem State.grant_idle_noted {s : State} {late : List Requester} {r₀ : Requester} (hb : s.port.busy = none)
    (hgr : s.granted late = some r₀) (hidle : (s.grant late).settle.port.busy = none) (r : Requester) :
    (r ∈ (s.grant late).settle.port.waited → r ∈ s.waiting ∧ r ≠ r₀)
      ∧ (r ∈ s.waiting → r ≠ r₀ → r ∈ (s.grant late).settle.waiting → r ∈ (s.grant late).settle.port.waited) := by
  have hwait := State.granted_waits hgr
  rw [(State.settle_frame _).2.2.2.2] at hidle
  rw [State.grant_idle late hb, hgr] at hidle ⊢
  cases r₀ with
  | device =>
    obtain ⟨a, ha⟩ := Option.ne_none_iff_exists'.mp (State.mem_waiting_device.mp hwait)
    dsimp only at hidle
    unfold State.grantDevice at hidle
    rw [ha] at hidle
    cases hidle
  | segment k src =>
    obtain ⟨a, ha⟩ := Option.ne_none_iff_exists'.mp (State.mem_waiting_segment.mp hwait)
    have heq := State.grantSegment_eq ha (Prod.eta ((s.segs.get k).grant src a)).symm
    dsimp only at hidle ⊢
    rw [heq] at hidle ⊢
    split at hidle
    · rename_i hc
      rw [if_pos hc, State.refuseSegment_eq]
      have hu : r ∈ (s.sourceTaken k src ((s.segs.get k).grant src a).1).refusal.port.waited
          ↔ r ∈ s.waiting ∧ r ≠ .segment k src := State.mem_waiting_sourceTaken
      refine ⟨fun hr => hu.mp (State.onSeg_noted.1 (State.settle_noted.1 hr)), fun hr hne ht =>
        State.settle_noted.2 (State.onSeg_noted.2 (hu.mpr ⟨hr, hne⟩) ?_) ht⟩
      rintro x rfl
      exact State.mem_waiting_settle.mp ht
    · cases hidle
  | notice =>
    obtain ⟨a, ha⟩ := Option.ne_none_iff_exists'.mp (State.mem_waiting_notice.mp hwait)
    dsimp only at hidle ⊢
    rw [State.grantNotice_eq ha] at hidle ⊢
    split at hidle
    · rename_i hc
      rw [if_pos hc]
      have hu : r ∈ (s.noticeTaken (a.op == .devProgress && s.drained)).refusal.port.waited
          ↔ r ∈ s.waiting ∧ r ≠ .notice := State.mem_waiting_noticeTaken
      refine ⟨fun hr => hu.mp (State.noticeFault_noted.1 (State.settle_noted.1 hr)), fun hr hne ht =>
        State.settle_noted.2 (State.noticeFault_noted.2 (hu.mpr ⟨hr, hne⟩) hne ?_) ht⟩
      rintro j x rfl
      exact State.mem_waiting_settle.mp ht
    · cases hidle

/-- The bytes that the notice writer's write has on the bus (R171). -/
theorem State.noticeFilled_addresses (s : State) (a : Access) : (s.noticeFilled a).bytes.map Prod.fst
    = if a.op = .devProgress then (List.range 16).map (fun i => s.nw.record + BitVec.ofNat 32 i)
      else a.bytes.map Prod.fst := by
  unfold State.noticeFilled
  split
  · have h := placeAt_addresses s.nw.record s.recordBytes
    rw [State.recordBytes_length] at h
    exact h
  · rfl

theorem State.noticeFilled_isWrite {s : State} {a : Access} (h : a.op.isWrite = true) :
    (s.noticeFilled a).op.isWrite = true := by
  unfold State.noticeFilled
  split
  · rfl
  · exact h

theorem exec_grantNotice_refused {s : State} {late : List Requester} {a : Access} (hb : s.port.busy = none)
    (hgr : s.granted late = some .notice) (ha : s.port.notice = some a) (hw : (s.noticeFilled a).op.isWrite = true)
    (hout : (s.noticeFilled a).inWindow s.port.windowLow s.port.windowHigh = false) :
    exec (.memoryGrant late) s = .next ((s.noticeTaken (a.op == .devProgress && s.drained)).refusal.noticeFault
      (firstByte (s.noticeFilled a).bytes (s.noticeFilled a).addr)).settle := by
  rw [exec_grantNotice hb hgr, State.grantNotice_eq ha, if_pos (by rw [hw, hout]; rfl)]

/-- What the notice writer's fault at a refused write makes of a segment is what a RUN write of 0 makes of it (R45). -/
theorem State.noticeRefused_get (s : State) (final : Bool) (addr : Word) (k : Seg)
    (hs : (s.segs.get k).state = .stopped → (s.segs.get k).faultHeld = none) :
    ((s.noticeTaken final).refusal.noticeFault addr).segs.get k
      = (({ s with draws := s.drawsBefore k } : State).stopSeg k).segs.get k := by
  rw [State.noticeFault_get (s.noticeTaken final).refusal addr k hs]
  exact State.stopSeg_congr rfl rfl rfl rfl rfl hs

/-- The block that a refused write of a segment leaves in READY, by what the segment makes of it: the unit v and the notices
ns. -/
theorem exec_refusedWrite {s : State} {late : List Requester} {k : Seg} {src : Source} {a b : Access} {g v : Segment}
    {ns : List Notice} (hb : s.port.busy = none) (hgr : s.granted late = some (.segment k src))
    (ha : (s.segs.get k).waits.access src = some a) (hg : (s.segs.get k).grant src a = (g, b)) (hw : b.op.isWrite = true)
    (hout : ∃ x ∈ b.bytes.map Prod.fst, ¬InWriteWindow s.port.windowLow s.port.windowHigh x)
    (hv : ((s.workWith k g []).writeRefused b).finish.seg = v ∧ ((s.workWith k g []).writeRefused b).finish.notices = ns)
    (hr : s.dev.state = .ready) (hl : s.nw.lost = false) (hq : s.nw.queue.length + ns.length ≤ 8) :
    ∃ t, exec (.memoryGrant late) s = .next t ∧ t.port.busy = none ∧ t.segs = s.segs.put k v
      ∧ t.nw.queue = s.nw.queue ++ ns ∧ t.port.throttle = (s.sourceTaken k src g).port.throttle :=
  ⟨_, exec_grantSegment_refused hb hgr ha hg hw ((Access.outside_iff _ _ _).mpr hout),
    State.refuseSegment_outcome hb hv.1 hv.2 hr hl hq⟩

/-- The refused grant of a progress record write, whose first byte is that of the record. -/
theorem exec_refusedRecord {s : State} {late : List Requester} {k : Seg} {a : Access} {v : Segment} {ns : List Notice}
    {i : Nat} (hb : s.port.busy = none) (hgr : s.granted late = some (.segment k .control))
    (ha : (s.segs.get k).waits.control = some a) (hop : a.op = .progress) (hi : i < 32)
    (hout : ¬InWriteWindow s.port.windowLow s.port.windowHigh ((s.segs.get k).blk.progress + BitVec.ofNat 32 i))
    (hv : ((s.workWith k (s.segs.get k).recordTaken []).writeRefused (s.segs.get k).recordWrite).finish.seg = v
      ∧ ((s.workWith k (s.segs.get k).recordTaken []).writeRefused (s.segs.get k).recordWrite).finish.notices
        = { s.segNotice k .writeRefused 0 with ref := (s.segs.get k).blk.progress } :: ns)
    (hr : s.dev.state = .ready) (hl : s.nw.lost = false) (hq : s.nw.queue.length + 1 + ns.length ≤ 8) :
    ∃ t, exec (.memoryGrant late) s = .next t ∧ t.port.busy = none ∧ t.segs.get k = v
      ∧ t.nw.queue = s.nw.queue ++ { s.segNotice k .writeRefused 0 with ref := (s.segs.get k).blk.progress } :: ns := by
  obtain ⟨t, hex, tbusy, tsegs, tqueue, -⟩ := exec_refusedWrite hb hgr ha (Segment.grant_record _ hop) rfl
    (by
      rw [Segment.recordWrite_addresses]
      exact ⟨_, List.mem_map.mpr ⟨i, List.mem_range.mpr hi, rfl⟩, hout⟩)
    hv hr hl (by rw [List.length_cons]; omega)
  exact ⟨t, hex, tbusy, by rw [tsegs, Four.get_put_same], tqueue⟩

/-- Settles O25: the refused write of a segment, of its progress record and of the notice writer, and the IDLE port. -/
theorem grantRefusesOutsideWindow : Obligations.GrantRefusesOutsideWindow := by
  refine ⟨fun s late k g src a p rest ref hb hg hgr hsrc ha hop hw hbytes hout h1 h2 hf hr hl hq href => ?_,
    fun s late k g a hb hg hgr ha hop ⟨i, hi, hout⟩ hr hl => ⟨fun h1 h2 hf ho ht hq => ?_,
      fun ref hst hf ho hso hp hq => ?_⟩,
    fun s late a addr bytes hb hgr ha hr hw hbytes hhead hout => ?_, fun s t late r₀ hb hgr hex hidle r => ?_⟩
  · subst hg
    have hlive : ((s.segs.get k).accessTaken src).live = true :=
      Segment.live_of (g := (s.segs.get k).accessTaken src) h1 h2 hf
    have hrf : a.refusedRef = ref := by
      unfold Access.refusedRef
      rw [href, hbytes]
      rfl
    obtain ⟨t, hex, tbusy, tsegs, tqueue, tthrottle⟩ := exec_refusedWrite hb hgr ha (Segment.grant_plain _ src hop) hw
      (by simpa [InWriteWindow] using hout) (Work.writeRefused_plain hop hlive) hr hl (by exact hq)
    rw [State.refusalNotice_eq (g := (s.segs.get k).accessTaken src) rfl, hbytes] at tqueue
    rw [State.workWith_seg, hrf] at tsegs
    obtain ⟨m1, m2, m3, m4, m5⟩ := ((s.segs.get k).accessTaken src).faultMade_idle .writeRefused ref (s.work k).wide
    refine ⟨t, hex, tbusy, ?_⟩
    rw [tsegs, Four.get_put_same]
    refine ⟨m1, m2, m3, m4, m5, tqueue, ?_, fun j hj => Four.get_put_ne _ hj _, fun ht => ?_, fun tx ht => ?_⟩
    · rw [tthrottle]
      unfold State.sourceTaken
      dsimp only
      rw [if_neg hsrc, Four.get_put_same, Throttle.load_eq]
    · rw [Segment.faultMade_now (by exact ht)]
      exact ⟨rfl, rfl, rfl⟩
    · rw [Segment.faultMade_held (tx := tx) (by exact ht)]
      exact ⟨rfl, ht, rfl⟩
  · subst hg
    have hlive : (s.segs.get k).recordTaken.live = true := Segment.live_of (g := (s.segs.get k).recordTaken) h1 h2 hf
    have hpr : (s.segs.get k).recordTaken.prFault = false := congrArg Option.isSome ho
    obtain ⟨hv, hn⟩ := Work.writeRefused_record (w := s.workWith k (s.segs.get k).recordTaken [])
      (b := (s.segs.get k).recordWrite) rfl hpr hlive
    rw [Segment.recordWrite_refusedRef, Segment.faultMade_now (by exact ht)] at hv
    rw [State.refusalNotice_eq (g := (s.segs.get k).recordTaken) rfl, Segment.recordWrite_first] at hn
    obtain ⟨t, hex, tbusy, tseg, tqueue⟩ := exec_refusedRecord hb hgr ha hop hi hout ⟨hv, hn⟩ hr hl
      (by
        show _ + (List.map _ (s.segs.get k).prWait).length ≤ 8
        rw [List.length_map]
        exact hq)
    refine ⟨t, hex, tbusy, ?_⟩
    rw [tseg]
    exact ⟨rfl, rfl, rfl, rfl, tqueue⟩
  · subst hg
    have hpr : (s.segs.get k).recordTaken.prFault = true := congrArg Option.isSome ho
    have hmute : (s.workWith k (s.segs.get k).recordTaken []).mute = false := by
      show (s.work k).mute = false
      rw [State.work_mute, hr]
      rfl
    obtain ⟨hv, hn⟩ := Work.writeRefused_faultRecord (w := s.workWith k (s.segs.get k).recordTaken [])
      (b := (s.segs.get k).recordWrite) rfl hpr hp ho hso hst hf hmute
    rw [State.refusalNotice_eq (g := (s.segs.get k).recordTaken) rfl, Segment.recordWrite_first] at hn
    obtain ⟨t, hex, tbusy, tseg, tqueue⟩ := exec_refusedRecord hb hgr ha hop hi hout ⟨hv, hn⟩ hr hl (by exact hq)
    refine ⟨t, hex, tbusy, ?_⟩
    rw [tseg]
    exact ⟨hst, rfl, rfl, rfl, tqueue⟩
  · have haddr : (s.noticeFilled a).bytes.map Prod.fst = bytes := (s.noticeFilled_addresses a).trans hbytes.symm
    have hex := exec_grantNotice_refused hb hgr ha (State.noticeFilled_isWrite hw)
      ((Access.outside_iff _ _ _).mpr (by rw [haddr]; exact hout))
    rw [firstByte_head (by rw [haddr]; exact hhead)] at hex
    obtain ⟨hdev, hnot, hbus, hq, hlost, ⟨m, hatt⟩, -⟩ :=
      (s.noticeTaken (a.op == .devProgress && s.drained)).refusal.noticeFault_parts addr
    rw [State.settle_off (by rw [hdev]; simp) (by rw [hdev]; simp)] at hex
    refine ⟨_, hex, by rw [hdev], by rw [hdev], by rw [hdev], hq, hlost, hbus hb, hnot, ?_, fun k hf hrun => ?_,
      fun hs k => ?_⟩
    · rw [hatt]
      split <;> simp
    · rw [s.noticeRefused_get _ addr k fun _ => hf]
      exact (State.stopSeg_running (s := { s with draws := s.drawsBefore k }) (k := k) hf hrun).state
    · refine ⟨_, exec_runClear_stopSeg
        (s := { s with draws := s.drawsBefore k, dev := { s.dev with disabling := false } }) k hr rfl, ?_⟩
      rw [s.noticeRefused_get _ addr k (hs k).2, State.settle_segs]
      exact State.stopSeg_congr rfl rfl rfl rfl rfl (hs k).2
  · cases hex
    exact State.grant_idle_noted hb hgr hidle r

end Sys2Proof.Machine

/-! SUPPORT. What a command can do to the block, said once for every invariant (95): it resets the block, moves registers of
the window alone, or makes one move of a segment unit, of the device or of the port, and settles what this makes due. -/

namespace Sys2Proof.Machine

/-! ## The moves of a command -/

/-- From s events of segment units take place one after the other. -/
inductive State.SegEvents (s : State) : State → Prop where
  | none : s.SegEvents s
  | onSeg {t : State} (k : Seg) (f : Work → Work) : s.SegEvents t → s.SegEvents (t.onSeg k f)

/-- What a command does before the block settles. -/
inductive State.Moves (s : State) : State → Prop where
  | segments {t : State} : s.SegEvents t → s.Moves t
  | enableSet : s.Moves s.enableSet
  | enableClear : s.Moves s.enableClear
  | grant (late : List Requester) : s.Moves (s.grant late)
  | complete (d : List Byte) : s.Moves (s.complete d)
  | errorResponse : s.Moves s.errorResponse
  | throttle (v : Four Throttle) : s.Moves { s with port := { s.port with throttle := v } }

/-- What a command answers: a reset, a change of registers alone, or a move after which the block has settled. -/
inductive State.Answers (s : State) : State → Prop where
  | pinReset : s.Answers s.pinReset
  | softReset : s.Answers s.softReset
  | registers (block readData : Word) (mask attention : Byte) :
      s.Answers { s with block := block, readData := readData, mask := mask, attention := attention }
  | settled {t : State} : s.Moves t → s.Answers t.settle

/-- What every event of a segment unit keeps, any number of them keeps. -/
theorem State.SegEvents.keeps {P : State → Prop} (hP : ∀ t k f, P t → P (State.onSeg t k f)) {s t : State}
    (h : s.SegEvents t) (hs : P s) : P t := by
  induction h with
  | none => exact hs
  | onSeg k f _ ih => exact hP _ k f ih

theorem State.onSeg_events (s : State) (k : Seg) (f : Work → Work) : s.SegEvents (s.onSeg k f) := .onSeg k f .none

theorem State.SegEvents.stopSeg {s t : State} (h : s.SegEvents t) (k : Seg) : s.SegEvents (t.stopSeg k) := by
  unfold State.stopSeg
  split
  · exact h.onSeg k _
  · exact h

theorem State.SegEvents.scanSeg {s t : State} (h : s.SegEvents t) (v : Word) (k : Seg) : s.SegEvents (t.scanSeg v k) := by
  unfold State.scanSeg
  split
  · exact h.onSeg k _
  · exact h

theorem State.stopAll_events (s : State) : s.SegEvents s.stopAll :=
  (((State.SegEvents.none.stopSeg .s0).stopSeg .s1).stopSeg .s2).stopSeg .s3

theorem State.scan_events (s : State) (v : Word) : s.SegEvents (s.scan v) :=
  (((State.SegEvents.none.scanSeg v .s0).scanSeg v .s1).scanSeg v .s2).scanSeg v .s3

theorem State.runSet_events (s : State) (k : Seg) : s.SegEvents (s.runSet k) := by
  unfold State.runSet
  split
  · exact s.onSeg_events k _
  · exact .none

theorem State.runClear_events (s : State) (k : Seg) : s.SegEvents (s.runClear k) := by
  unfold State.runClear
  split
  · exact State.SegEvents.none.stopSeg k
  · exact .none

theorem State.registerWrite_answers (s : State) (reg : PlainReg) (v : Word) : s.Answers (s.registerWrite reg v) := by
  unfold State.registerWrite
  repeat' split
  · exact .registers v _ _ _
  all_goals exact .registers s.block s.readData s.mask s.attention

/-- An event of one segment unit, by its operation. -/
theorem State.workEvent_answers {s t : State} {k : Seg} {f : Work → Work} (h : s.workEvent k f = .next t) : s.Answers t := by
  cases h
  exact .settled (.segments (s.onSeg_events k f))

theorem State.segEvent_answers {s t : State} {k : Seg} {f : Segment → Segment} (h : s.segEvent k f = .next t) :
    s.Answers t := State.workEvent_answers (f := fun w => w.on f) h

/-- What a command can answer. -/
theorem exec_answers {c : Instr} {s t : State} (h : exec c s = .next t) : s.Answers t := by
  cases c with
  | pinReset => cases h; exact .pinReset
  | softReset => cases h; exact .softReset
  | enableSet => cases h; exact .settled .enableSet
  | enableClear => cases h; exact .settled .enableClear
  | runSet k => cases h; exact .settled (.segments (s.runSet_events k))
  | runClear k => cases h; exact .settled (.segments (s.runClear_events k))
  | scan v => cases h; exact .settled (.segments (s.scan_events v))
  | attentionRead => cases h; exact .registers _ _ _ _
  | attentionMaskWrite v => cases h; exact .registers _ _ _ _
  | registerWrite reg v => cases h; exact s.registerWrite_answers reg v
  | memoryGrant late => cases h; exact .settled (.grant late)
  | accessComplete d => cases h; exact .settled (.complete d)
  | errorResponse => cases h; exact .settled .errorResponse
  | throttleExpiry k => cases h; exact .settled (.throttle _)
  | settleExpiry k _ | cycleTimerExpiry k | sampleTimerExpiry k _ | sweepStep k _ _ => exact State.workEvent_answers h
  | frameReport k | startBitTaken k | arbitrationLoss k _ _ | collision k _ _ | transmitEnd k | frameGap k
  | reservationExpiry k | wExpiry k | holdGap k | answerTurnaround k | responderDeadline k | stallReport k | stallEnd k
  | quietInterval k | scanTimerExpiry k | pauseAfterEnd k | characterComplete k _ _ _ => exact State.segEvent_answers h

/-- A property that the queue of commands does not concern and that every answer of a command keeps is kept by every step. -/
theorem step_keeps {P : State → Prop} (hq : ∀ (s : State) (q : List Instr), P s → P { s with pending := q })
    (ha : ∀ s t : State, P s → s.Answers t → P t) {s t : State} (hs : P s) (h : step s = .next t) : P t := by
  unfold step at h
  split at h
  · cases h; exact hs
  · exact ha _ _ (hq s _ hs) (exec_answers h)

end Sys2Proof.Machine

/-! SUPPORT. A dropped notice, and the device progress record write: its request and its completion (R163, R165, R168, R171). -/

namespace Sys2Proof.Machine

/-- The block once the record write is asked for. -/
def State.recordAsked (s : State) : State := { s with nw := { s.nw with recWaiting := true } }

/-- The block once a notice is dropped: it is counted, and NOTICE_LOST is set. -/
def State.noticeDropped (s : State) : State :=
  { s with nw := { s.nw with dropped := s.nw.dropped + 1 }, attention := s.attention ||| 2 }

/-- In READY a record write is asked for, unless one waits for its grant. -/
theorem State.requestRecord_asks {s : State} (hr : s.dev.state = .ready)
    (hn : ∀ a, s.port.notice = some a → a.op ≠ .devProgress) : s.requestRecord = s.recordAsked := by
  unfold State.requestRecord
  rw [if_neg (not_not.mpr hr)]
  split
  · rename_i a ha
    exact if_neg (hn a ha)
  · rfl

/-- Outside READY none is asked for, and one that waits for its grant covers the change. -/
theorem State.requestRecord_covered {s : State}
    (h : s.dev.state ≠ .ready ∨ ∃ a, s.port.notice = some a ∧ a.op = .devProgress) : s.requestRecord = s := by
  unfold State.requestRecord
  split
  · rfl
  · rename_i hr
    obtain ⟨a, ha, hop⟩ := h.resolve_left hr
    rw [ha]
    exact if_pos hop

/-- A notice dropped asks for the record write. -/
theorem State.dropNotice_asks {s : State} (hr : s.dev.state = .ready)
    (hn : ∀ a, s.port.notice = some a → a.op ≠ .devProgress) : s.dropNotice = s.noticeDropped.recordAsked :=
  State.requestRecord_asks (s := s.noticeDropped) hr hn

theorem State.dropNotice_covered {s : State}
    (h : s.dev.state ≠ .ready ∨ ∃ a, s.port.notice = some a ∧ a.op = .devProgress) : s.dropNotice = s.noticeDropped :=
  State.requestRecord_covered (s := s.noticeDropped) h

/-- Beyond the drop it may only ask for a record write. -/
theorem State.dropNotice_cases (s : State) :
    s.dropNotice = s.noticeDropped ∨ s.dropNotice = s.noticeDropped.recordAsked := s.noticeDropped.requestRecord_cases

theorem State.dropNotice_dev (s : State) : s.dropNotice.dev = s.dev := by
  rcases s.dropNotice_cases with h | h <;> rw [h] <;> rfl

/-- The block once the device progress record is written: LOADED is set where it is owed (R163). -/
def State.recordDone (s : State) : State :=
  { s with attention := if s.nw.loadedOwed then s.attention ||| 4 else s.attention,
           nw := { s.nw with loadedOwed := false, finalRec := false } }

/-- The completion of the record write; the record that carried DISABLED ends the drain (R165). -/
theorem State.noticeDone_devProgress (s : State) (d : List Byte) : s.noticeDone .devProgress d
    = if s.nw.finalRec = true then s.recordDone.enterDisabled else s.recordDone := by
  unfold State.noticeDone State.recordDone
  cases s.nw.loadedOwed <;> rfl

/-- A notice that finds no room, or finds the notice-lost condition set, is dropped. -/
theorem State.raise_drops {s : State} (h : s.nw.lost = true ∨ 8 ≤ s.nw.queue.length) (n : Notice) :
    s.raise n = s.dropNotice := if_pos h

end Sys2Proof.Machine

/-! The notice queue (R168): no step takes it past its 8 places. -/

namespace Sys2Proof.Machine

/-! ## The queue under each move -/

/-- Settling issues or forgets notices; it queues none. -/
theorem State.settle_queue (s : State) : s.settle.nw.queue = s.nw.queue ∨ s.settle.nw.queue = [] := by
  have hn : ∀ t : State, t.noticeDue.nw.queue = t.nw.queue := by
    intro t
    unfold State.noticeDue
    repeat' split
    all_goals rfl
  unfold State.settle
  rw [hn]
  unfold State.disableDue
  split
  · exact .inr rfl
  · exact .inl rfl

theorem QueueBounded.settle {s : State} (hs : QueueBounded s) : QueueBounded s.settle := by
  unfold QueueBounded
  rcases s.settle_queue with h | h <;> rw [h]
  · exact hs
  · exact Nat.zero_le _

theorem QueueBounded.segEvents {s t : State} (hs : QueueBounded s) (h : s.SegEvents t) : QueueBounded t :=
  h.keeps State.onSeg_queue_le hs

/-- A fault of the notice writer empties the queue. -/
theorem QueueBounded.noticeFault (s : State) (addr : Word) : QueueBounded (s.noticeFault addr) := by
  obtain ⟨-, -, -, hq, -⟩ := s.noticeFault_parts addr
  unfold QueueBounded
  rw [hq]
  exact Nat.zero_le _

/-- A completion of the notice writer's access takes a notice from the queue at most. -/
theorem State.noticeDone_queue_le (s : State) (op : Op) (d : List Byte) :
    (s.noticeDone op d).nw.queue.length ≤ s.nw.queue.length := by
  have hpop : s.nw.pop.queue.length ≤ s.nw.queue.length := by
    show s.nw.queue.tail.length ≤ _
    rw [List.length_tail]
    exact Nat.sub_le _ _
  unfold State.noticeDone
  split
  · split
    · exact le_rfl
    · rw [State.dropNotice_queue]
      exact hpop
  · exact le_rfl
  · exact hpop
  · show (s.noticeDone .devProgress d).nw.queue.length ≤ _
    rw [State.noticeDone_devProgress]
    split
    · exact Nat.zero_le _
    · exact le_rfl
  · exact le_rfl

/-- A load queues at most the notice of an earlier device fault (R164). -/
theorem QueueBounded.loadDone {s : State} (hs : QueueBounded s) (d : List Byte) : QueueBounded (s.loadDone d) := by
  unfold State.loadDone
  split
  · exact hs
  · unfold State.enterReady
    dsimp only
    split
    · exact hs
    · exact State.raise_queue_le _ _ hs

theorem QueueBounded.complete {s : State} (hs : QueueBounded s) (d : List Byte) : QueueBounded (s.complete d) := by
  have hf : QueueBounded s.freePort := hs
  unfold State.complete
  split
  · exact hs
  · dsimp only
    split
    · exact hf.segEvents (State.onSeg_events _ _ _)
    · split
      · exact hf
      · exact (State.noticeDone_queue_le _ _ _).trans hf
    · split
      · exact hf
      · exact hf.loadDone d

theorem QueueBounded.errorResponse {s : State} (hs : QueueBounded s) : QueueBounded s.errorResponse := by
  have hf : QueueBounded s.freePort := hs
  unfold State.errorResponse
  split
  · exact hs
  · dsimp only
    split
    · exact hf.segEvents (State.onSeg_events _ _ _)
    · split
      · exact hf
      · exact QueueBounded.noticeFault _ _
    · split
      · exact hf
      · exact hf

theorem QueueBounded.grant {s : State} (hs : QueueBounded s) (late : List Requester) : QueueBounded (s.grant late) := by
  unfold State.grant
  split
  · exact hs
  · split
    · rename_i k src _
      cases ha : (s.segs.get k).waits.access src with
      | none => unfold State.grantSegment; rw [ha]; exact hs
      | some a =>
        rw [State.grantSegment_eq ha (g := ((s.segs.get k).grant src a).1) (b := ((s.segs.get k).grant src a).2) rfl]
        split
        · exact State.onSeg_queue_le _ _ _ hs
        · exact hs
    · cases ha : s.port.notice with
      | none => unfold State.grantNotice; rw [ha]; exact hs
      | some a =>
        rw [State.grantNotice_eq ha]
        split
        · exact QueueBounded.noticeFault _ _
        · exact hs
    · unfold State.grantDevice
      split <;> exact hs
    · exact hs

/-- An ENABLE set queues nothing; an ENABLE clear queues what the stop of the segments raises. -/
theorem QueueBounded.enableSet {s : State} (hs : QueueBounded s) : QueueBounded s.enableSet := by
  unfold State.enableSet
  split <;> exact hs

theorem QueueBounded.enableClear {s : State} (hs : QueueBounded s) : QueueBounded s.enableClear := by
  unfold State.enableClear
  split
  · exact hs
  · exact hs
  · split
    · exact hs
    · exact QueueBounded.segEvents (s := { s with dev := { s.dev with enable := false, disabling := true } }) hs
        (State.stopAll_events _)
  · exact hs

/-! ## The obligation -/

theorem QueueBounded.moves {s t : State} (hs : QueueBounded s) (h : s.Moves t) : QueueBounded t := by
  cases h with
  | segments h => exact hs.segEvents h
  | enableSet => exact hs.enableSet
  | enableClear => exact hs.enableClear
  | grant late => exact hs.grant late
  | complete d => exact hs.complete d
  | errorResponse => exact hs.errorResponse
  | throttle v => exact hs

/-- Settles O4: a reset leaves the queue empty, and every move keeps its bound. -/
theorem noticeQueueStaysBounded : Obligations.NoticeQueueStaysBounded := by
  refine fun s t hs h => step_keeps (P := QueueBounded) (fun _ _ hs => hs) (fun s t hs h => ?_) hs h
  cases h with
  | pinReset | softReset => exact Nat.zero_le _
  | registers => exact hs
  | settled h => exact (hs.moves h).settle

end Sys2Proof.Machine

/-! The device (R162, R163, R165, R152): no step takes the enable bit, the disabling condition and the requests of device
control and of the notice writer out of step with the device state. -/

namespace Sys2Proof.Machine

/-! ## What does not concern the device -/

/-- From s to t the device and its requests stay as they are. The access on the bus is the same, or one of a segment, or it
has ended or has its result discarded. -/
structure State.SameDevice (s t : State) : Prop where
  state : t.dev.state = s.dev.state
  enable : t.dev.enable = s.dev.enable
  disabling : t.dev.disabling = s.dev.disabling
  device : t.port.device = s.port.device
  notice : t.port.notice = s.port.notice
  serving : ∀ r, t.port.serving = some r → s.port.serving = some r ∨ ∃ k src, r = .segment k src

theorem DeviceConsistent.of_same {s t : State} (hs : DeviceConsistent s) (h : s.SameDevice t) : DeviceConsistent t := by
  obtain ⟨hdis, hload, hready, hfault, hdev, hnot, hsdev, hsnot⟩ := hs
  unfold DeviceConsistent
  rw [h.state, h.enable, h.disabling, h.device, h.notice]
  exact ⟨hdis, hload, hready, hfault, hdev, hnot, fun c => hsdev ((h.serving _ c).resolve_right nofun),
    fun c => hsnot ((h.serving _ c).resolve_right nofun)⟩

theorem Port.serving_idle {p : Port} (h : p.busy = none) : p.serving = none := by
  unfold Port.serving
  rw [h]

theorem Port.serving_busy {p : Port} {b : Busy} (h : p.busy = some b) (hd : ¬b.discard = true) : p.serving = some b.req := by
  unfold Port.serving
  rw [h]
  exact if_neg hd

/-- An access on the bus whose result is discarded serves nobody. -/
theorem Port.serving_discarded {p : Port} {b : Option Busy} (h : p.busy = b.map Busy.discarded) : p.serving = none := by
  unfold Port.serving
  rw [h]
  cases b <;> rfl

theorem State.SameDevice.onSeg (s : State) (k : Seg) (f : Work → Work) : s.SameDevice (s.onSeg k f) := by
  have hp := State.onSeg_port s k f
  refine ⟨by rw [State.onSeg_dev], by rw [State.onSeg_dev], by rw [State.onSeg_dev], by rw [hp], by rw [hp], fun r hr => ?_⟩
  rw [hp] at hr
  cases hd : (f (s.work k)).finish.drop with
  | false =>
    rw [hd] at hr
    exact .inl hr
  | true =>
    rw [hd, Port.serving_discarded (b := s.port.busy) rfl] at hr
    cases hr

theorem DeviceConsistent.segEvents {s t : State} (hs : DeviceConsistent s) (h : s.SegEvents t) : DeviceConsistent t :=
  h.keeps (fun t k f ht => ht.of_same (State.SameDevice.onSeg t k f)) hs

theorem State.SameDevice.freePort (s : State) : s.SameDevice s.freePort := ⟨rfl, rfl, rfl, rfl, rfl, nofun⟩

/-! ## The device in each of its states -/

/-- In DISABLED nothing is enabled and nothing is requested or served. -/
theorem DeviceConsistent.of_disabled {s : State} (hst : s.dev.state = .disabled) (hen : s.dev.enable = false)
    (hdi : s.dev.disabling = false) (hd : s.port.device = none) (hn : s.port.notice = none)
    (hsd : s.port.serving ≠ some .device) (hsn : s.port.serving ≠ some .notice) : DeviceConsistent s := by
  unfold DeviceConsistent
  rw [hst, hd, hn]
  exact ⟨fun _ => ⟨hen, hdi⟩, nofun, nofun, nofun, nofun, nofun, fun c => absurd c hsd, fun c => absurd c hsn⟩

/-- So too in FAULTED, where the enable bit may be either. -/
theorem DeviceConsistent.of_faulted {s : State} (hst : s.dev.state = .faulted) (hdi : s.dev.disabling = false)
    (hd : s.port.device = none) (hn : s.port.notice = none) (hsd : s.port.serving ≠ some .device)
    (hsn : s.port.serving ≠ some .notice) : DeviceConsistent s := by
  unfold DeviceConsistent
  rw [hst, hd, hn]
  exact ⟨nofun, nofun, nofun, fun _ => hdi, nofun, nofun, fun c => absurd c hsd, fun c => absurd c hsn⟩

/-- In READY the notice writer alone requests and is served. -/
theorem DeviceConsistent.of_ready {s : State} (hst : s.dev.state = .ready) (hen : s.dev.enable = !s.dev.disabling)
    (hd : s.port.device = none) (hsd : s.port.serving ≠ some .device) : DeviceConsistent s := by
  unfold DeviceConsistent
  rw [hst, hd]
  exact ⟨nofun, nofun, fun _ => hen, nofun, nofun, fun _ => rfl, fun c => absurd c hsd, fun _ => rfl⟩

/-- In LOADING device control alone requests and is served, with one access. -/
theorem DeviceConsistent.of_loading {s : State} (hst : s.dev.state = .loading) (hen : s.dev.enable = true)
    (hdi : s.dev.disabling = false) (hn : s.port.notice = none) (hsd : s.port.serving = some .device → s.port.device = none)
    (hsn : s.port.serving ≠ some .notice) : DeviceConsistent s := by
  unfold DeviceConsistent
  rw [hst, hn]
  exact ⟨nofun, fun _ => ⟨hen, hdi⟩, nofun, nofun, fun _ => rfl, nofun, fun c => ⟨rfl, hsd c⟩, fun c => absurd c hsn⟩

section
variable {s : State} (hs : DeviceConsistent s)
include hs

theorem DeviceConsistent.serves_device (h : s.port.serving = some .device) :
    s.dev.state = .loading ∧ s.port.device = none := by
  obtain ⟨-, -, -, -, -, -, hsdev, -⟩ := hs
  exact hsdev h

theorem DeviceConsistent.serves_notice (h : s.port.serving = some .notice) : s.dev.state = .ready := by
  obtain ⟨-, -, -, -, -, -, -, hsnot⟩ := hs
  exact hsnot h

theorem DeviceConsistent.of_device {a : Access} (h : s.port.device = some a) : s.dev.state = .loading := by
  obtain ⟨-, -, -, -, hdev, -⟩ := hs
  exact hdev (by rw [h]; rfl)

theorem DeviceConsistent.of_notice {a : Access} (h : s.port.notice = some a) : s.dev.state = .ready := by
  obtain ⟨-, -, -, -, -, hnot, -⟩ := hs
  exact hnot (by rw [h]; rfl)

theorem DeviceConsistent.no_device (h : s.dev.state ≠ .loading) :
    s.port.device = none ∧ s.port.serving ≠ some .device := by
  refine ⟨?_, fun c => h (hs.serves_device c).1⟩
  cases hd : s.port.device with
  | none => rfl
  | some a => exact absurd (hs.of_device hd) h

theorem DeviceConsistent.no_notice (h : s.dev.state ≠ .ready) :
    s.port.notice = none ∧ s.port.serving ≠ some .notice := by
  refine ⟨?_, fun c => h (hs.serves_notice c)⟩
  cases hn : s.port.notice with
  | none => rfl
  | some a => exact absurd (hs.of_notice hn) h

/-! ## Settling and the CONTROL writes -/

theorem DeviceConsistent.enterDisabled (h : s.dev.state ≠ .loading) (hsn : s.port.serving ≠ some .notice) :
    DeviceConsistent s.enterDisabled := by
  obtain ⟨hd, hsd⟩ := hs.no_device h
  exact .of_disabled rfl rfl rfl hd rfl hsd hsn

theorem DeviceConsistent.disableDue : DeviceConsistent s.disableDue := by
  unfold State.disableDue
  split
  · rename_i c
    exact hs.enterDisabled (by rw [c.1]; decide) (hs.no_notice (by rw [c.1]; decide)).2
  · exact hs

/-- The notice writer requests in READY alone. -/
theorem DeviceConsistent.noticeDue : DeviceConsistent s.noticeDue := by
  unfold State.noticeDue
  split
  · rename_i c
    obtain ⟨hd, hsd⟩ := hs.no_device (by rw [c.1]; decide)
    obtain ⟨-, -, hready, -⟩ := hs
    have hissue : ∀ (a : Option Access) (v : NoticeWriter),
        DeviceConsistent { s with port := { s.port with notice := a }, nw := v } :=
      fun a v => .of_ready c.1 (hready c.1) hd hsd
    repeat' split
    · exact hissue _ _
    · exact hissue s.port.notice s.nw
    · exact hissue _ s.nw
  · exact hs

theorem DeviceConsistent.settle : DeviceConsistent s.settle := hs.disableDue.noticeDue

theorem DeviceConsistent.enableSet : DeviceConsistent s.enableSet := by
  unfold State.enableSet
  split
  · rename_i h
    obtain ⟨-, hsd⟩ := hs.no_device (by rw [h]; decide)
    obtain ⟨hn, hsn⟩ := hs.no_notice (by rw [h]; decide)
    obtain ⟨hdis, -⟩ := hs
    exact .of_loading rfl rfl (hdis h).2 hn (fun c => absurd c hsd) hsn
  all_goals exact hs

theorem DeviceConsistent.enableClear : DeviceConsistent s.enableClear := by
  unfold State.enableClear
  split
  · exact hs
  · exact hs
  · rename_i h
    split
    · exact hs
    · obtain ⟨hd, hsd⟩ := hs.no_device (by rw [h]; decide)
      exact DeviceConsistent.segEvents (s := { s with dev := { s.dev with enable := false, disabling := true } })
        (.of_ready h rfl hd hsd) (State.stopAll_events _)
  · rename_i h
    obtain ⟨hd, hsd⟩ := hs.no_device (by rw [h]; decide)
    obtain ⟨hn, hsn⟩ := hs.no_notice (by rw [h]; decide)
    obtain ⟨-, -, -, hfault, -⟩ := hs
    exact .of_faulted h (hfault h) hd hn hsd hsn

/-! ## Responses -/

/-- On a port that serves neither, a fault of the notice writer leaves the device FAULTED with nothing requested. -/
theorem DeviceConsistent.noticeFault (h : s.dev.state = .ready) (hb : s.port.busy = none) (addr : Word) :
    DeviceConsistent (s.noticeFault addr) := by
  obtain ⟨hd, -⟩ := hs.no_device (by rw [h]; decide)
  obtain ⟨hdev, hn, hbusy, -⟩ := s.noticeFault_parts addr
  have hsv := Port.serving_idle (hbusy hb)
  refine .of_faulted (by rw [hdev]) (by rw [hdev]) ?_ hn (by rw [hsv]; nofun) (by rw [hsv]; nofun)
  rw [(s.noticeFault_issuesNothing addr).device]
  exact hd

/-- A load that fails leaves the device FAULTED with nothing requested (R164). -/
theorem DeviceConsistent.deviceFault (h : s.dev.state = .loading) (hb : s.port.busy = none) (hd : s.port.device = none)
    (code : DevFault) (addr : Word) : DeviceConsistent (s.deviceFault code addr) := by
  obtain ⟨hn, -⟩ := hs.no_notice (by rw [h]; decide)
  have hsv : (s.deviceFault code addr).port.serving = none := Port.serving_idle hb
  exact .of_faulted rfl rfl hd hn (by rw [hsv]; nofun) (by rw [hsv]; nofun)

end

/-- What an entry to READY leaves of the device, whether or not it reports an earlier fault. -/
theorem State.enterReady_dev (s : State) :
    s.enterReady.dev = { s.dev with state := .ready, fault := .none, faultAddr := 0 } ∧ s.enterReady.port = s.port := by
  unfold State.enterReady
  dsimp only
  split
  · exact ⟨rfl, rfl⟩
  · obtain ⟨v, a, h⟩ := State.raise_frame { s with
      dev := { s.dev with state := .ready, fault := .none, faultAddr := 0 },
      nw := { s.nw with recWaiting := true, loadedOwed := true } } s.dev.faultNotice
    rw [h]
    exact ⟨rfl, rfl⟩

section
variable {s : State} (hs : DeviceConsistent s)
include hs

/-- A load that passes leaves the device READY and enabled (R163). -/
theorem DeviceConsistent.loadDone (h : s.dev.state = .loading) (hb : s.port.busy = none) (hd : s.port.device = none)
    (d : List Byte) : DeviceConsistent (s.loadDone d) := by
  unfold State.loadDone
  split
  · exact hs.deviceFault h hb hd _ _
  · obtain ⟨hdev, hport⟩ := (s.takeControlBlock d).enterReady_dev
    obtain ⟨-, hload, -⟩ := hs
    obtain ⟨hen, hdi⟩ := hload h
    refine .of_ready (by rw [hdev]) ?_ (by rw [hport]; exact hd) ?_
    · rw [hdev]
      show s.dev.enable = !s.dev.disabling
      rw [hen, hdi]
      rfl
    · rw [hport, Port.serving_idle (p := (s.takeControlBlock d).port) hb]
      nofun

/-- The completion of the record that carries DISABLED enters DISABLED; any other moves no device state (R165). -/
theorem DeviceConsistent.noticeDone (h : s.dev.state = .ready) (hb : s.port.busy = none) (op : Op) (d : List Byte) :
    DeviceConsistent (s.noticeDone op d) := by
  have hsame : ∀ {t : State}, t.dev = s.dev → t.port = s.port → DeviceConsistent t := fun h1 h2 =>
    hs.of_same ⟨by rw [h1], by rw [h1], by rw [h1], by rw [h2], by rw [h2], fun r hr => .inl (by rwa [h2] at hr)⟩
  have hdone : DeviceConsistent s.recordDone := hsame rfl rfl
  unfold State.noticeDone
  split
  · split
    · exact hsame rfl rfl
    · exact hsame (State.dropNotice_dev _) (State.dropNotice_port _)
  · exact hsame rfl rfl
  · exact hsame rfl rfl
  · show DeviceConsistent (s.noticeDone .devProgress d)
    rw [State.noticeDone_devProgress]
    split
    · refine hdone.enterDisabled (by rw [show s.recordDone.dev = s.dev from rfl, h]; decide) ?_
      rw [show s.recordDone.port = s.port from rfl, Port.serving_idle hb]
      nofun
    · exact hdone
  · exact hs

theorem DeviceConsistent.complete (d : List Byte) : DeviceConsistent (s.complete d) := by
  have hf : DeviceConsistent s.freePort := hs.of_same (State.SameDevice.freePort s)
  unfold State.complete
  split
  · exact hs
  · rename_i b hb
    dsimp only
    split
    · exact hf.segEvents (State.onSeg_events _ _ _)
    · rename_i hr
      split
      · exact hf
      · rename_i hd
        exact hf.noticeDone (hs.serves_notice (by rw [Port.serving_busy hb hd, hr])) rfl _ _
    · rename_i hr
      split
      · exact hf
      · rename_i hd
        obtain ⟨h1, h2⟩ := hs.serves_device (by rw [Port.serving_busy hb hd, hr])
        exact hf.loadDone h1 rfl h2 d

theorem DeviceConsistent.errorResponse : DeviceConsistent s.errorResponse := by
  have hf : DeviceConsistent s.freePort := hs.of_same (State.SameDevice.freePort s)
  unfold State.errorResponse
  split
  · exact hs
  · rename_i b hb
    dsimp only
    split
    · exact hf.segEvents (State.onSeg_events _ _ _)
    · rename_i hr
      split
      · exact hf
      · rename_i hd
        exact hf.noticeFault (hs.serves_notice (by rw [Port.serving_busy hb hd, hr])) rfl _
    · rename_i hr
      split
      · exact hf
      · rename_i hd
        obtain ⟨h1, h2⟩ := hs.serves_device (by rw [Port.serving_busy hb hd, hr])
        exact hf.deviceFault h1 rfl h2 _ _

end

/-! ## Grants -/

section
variable {s : State} (hs : DeviceConsistent s)
include hs

/-- A grant to a segment, refused or issued, does not concern the device. -/
theorem DeviceConsistent.grantSegment (k : Seg) (src : Source) : DeviceConsistent (s.grantSegment k src) := by
  cases ha : (s.segs.get k).waits.access src with
  | none => unfold State.grantSegment; rw [ha]; exact hs
  | some a =>
    have htaken : ∀ g, DeviceConsistent (s.sourceTaken k src g) := fun g =>
      hs.of_same ⟨rfl, rfl, rfl, rfl, rfl, fun _ hr => .inl hr⟩
    rw [State.grantSegment_eq ha (g := ((s.segs.get k).grant src a).1) (b := ((s.segs.get k).grant src a).2) rfl]
    generalize (s.segs.get k).grant src a = p
    split
    · refine DeviceConsistent.segEvents (s := (s.sourceTaken k src p.1).refusal) ?_ (State.onSeg_events _ _ _)
      exact (htaken p.1).of_same ⟨rfl, rfl, rfl, rfl, rfl, fun _ hr => .inl hr⟩
    · refine (htaken p.1).of_same ⟨rfl, rfl, rfl, rfl, rfl, fun r hr => .inr ?_⟩
      cases hr
      exact ⟨k, src, rfl⟩

/-- A grant to the notice writer puts its access on the bus of a READY device, or ends in a fault of the notice writer. -/
theorem DeviceConsistent.grantNotice (hb : s.port.busy = none) : DeviceConsistent s.grantNotice := by
  cases ha : s.port.notice with
  | none => unfold State.grantNotice; rw [ha]; exact hs
  | some a =>
    have hr := hs.of_notice ha
    obtain ⟨hd, -⟩ := hs.no_device (by rw [hr]; decide)
    obtain ⟨-, -, hready, -⟩ := hs
    have hen := hready hr
    have hidle := Port.serving_idle hb
    rw [State.grantNotice_eq ha]
    generalize (a.op == .devProgress && s.drained) = final
    split
    · have htaken : DeviceConsistent (s.noticeTaken final).refusal :=
        .of_ready hr hen hd (fun c => by cases hidle.symm.trans c)
      exact htaken.noticeFault hr hb _
    · exact .of_ready hr hen hd nofun

/-- A grant to device control takes its one request to the bus. -/
theorem DeviceConsistent.grantDevice : DeviceConsistent s.grantDevice := by
  unfold State.grantDevice
  split
  · exact hs
  · rename_i a ha
    have hst := hs.of_device ha
    obtain ⟨hn, -⟩ := hs.no_notice (by rw [hst]; decide)
    obtain ⟨-, hload, -⟩ := hs
    exact .of_loading hst (hload hst).1 (hload hst).2 hn (fun _ => rfl) nofun

theorem DeviceConsistent.grant (late : List Requester) : DeviceConsistent (s.grant late) := by
  by_cases hb : s.port.busy = none
  · rw [State.grant_idle late hb]
    split
    · exact hs.grantSegment _ _
    · exact hs.grantNotice hb
    · exact hs.grantDevice
    · exact hs
  · rw [State.grant_busy late (Option.isSome_iff_ne_none.mpr hb)]
    exact hs

end

/-! ## The obligation -/

theorem DeviceConsistent.moves {s t : State} (hs : DeviceConsistent s) (h : s.Moves t) : DeviceConsistent t := by
  cases h with
  | segments h => exact hs.segEvents h
  | enableSet => exact hs.enableSet
  | enableClear => exact hs.enableClear
  | grant late => exact hs.grant late
  | complete d => exact hs.complete d
  | errorResponse => exact hs.errorResponse
  | throttle v => exact hs.of_same ⟨rfl, rfl, rfl, rfl, rfl, fun _ hr => .inl hr⟩

/-- Settles O6: a reset leaves the device DISABLED and serves nobody, and every move keeps the agreement. -/
theorem deviceStaysConsistent : Obligations.DeviceStaysConsistent := by
  refine fun s t hs h => step_keeps (P := DeviceConsistent) (fun _ _ hs => hs) (fun s t hs h => ?_) hs h
  cases h with
  | pinReset => exact .of_disabled rfl rfl rfl rfl rfl nofun nofun
  | softReset =>
    have hsv := Port.serving_discarded (p := s.softReset.port) (b := s.port.busy) rfl
    exact .of_disabled rfl rfl rfl rfl rfl (by rw [hsv]; nofun) (by rw [hsv]; nofun)
  | registers => exact hs.of_same ⟨rfl, rfl, rfl, rfl, rfl, fun _ hr => .inl hr⟩
  | settled h => exact (hs.moves h).settle

end Sys2Proof.Machine

/-! Nothing stays due, and the invariants at reset (R165, R169, R171, R166): every command settles what it makes due, or leaves
alone what settling looks at. -/

namespace Sys2Proof.Machine

/-- In DISABLED nothing is due. -/
theorem State.settled_disabled {s : State} (h : s.dev.state = .disabled) : s.settled :=
  State.settle_off (by rw [h]; decide) (by rw [h]; nofun)

/-- Settles O8: a reset leaves a DISABLED device, the registers alone make nothing due, and every other command settles. -/
theorem nothingStaysDue : Obligations.NothingStaysDue := by
  refine fun s t hs h => step_keeps (P := State.settled)
    (fun _ _ hs => State.settled_same hs rfl rfl rfl rfl rfl) (fun s t hs h => ?_) hs h
  cases h with
  | pinReset | softReset => exact State.settled_disabled rfl
  | registers => exact State.settled_same hs rfl rfl rfl rfl rfl
  | settled => exact State.settle_settled _

/-- Settles O9: at reset the queue is empty, the port is IDLE, the device is DISABLED and every segment STOPPED. -/
theorem invariantsHoldAtReset : Obligations.InvariantsHoldAtReset :=
  ⟨Nat.zero_le _, .of_idle rfl nofun, .of_disabled rfl rfl rfl rfl rfl nofun nofun, StartsStopped_reset rfl,
    State.settled_disabled rfl⟩

end Sys2Proof.Machine

/-! The resets (R44, R151, R160, R166): the reset columns of their tables, and what a soft reset keeps. -/

namespace Sys2Proof.Machine

theorem Segment.reset_atReset : Segment.reset.atReset := by
  unfold Segment.atReset
  decide

/-- With no cause set the interrupt line is deasserted (R167). -/
theorem State.interruptLine_clear {s : State} (h : s.attention = 0) : s.interruptLine = false := by
  simp [State.interruptLine, h]

/-- A block whose units and port hold their reset values, the access on the bus apart, is as the reset columns say. -/
theorem State.atReset_of {s : State} (hatt : s.attention = 0) (hdev : s.dev = .reset) (hnw : s.nw = .reset)
    (hport : s.port = { Port.reset with busy := s.port.busy }) (hsegs : s.segs = .const .reset) : s.atReset := by
  unfold State.atReset
  rw [hdev, hnw, hport, hsegs]
  refine ⟨hatt, State.interruptLine_clear hatt, ⟨rfl, rfl, rfl, rfl, rfl⟩, ⟨rfl, rfl, rfl, rfl, rfl⟩, ⟨rfl, rfl, rfl, rfl, rfl⟩,
    fun k => ⟨Four.get_const _ k, ?_⟩⟩
  rw [Four.get_const]
  exact Segment.reset_atReset

/-- Settles O10: both resets leave the reset values of the units and of the port. -/
theorem resetsTakeResetValues : Obligations.ResetsTakeResetValues :=
  ⟨⟨⟨State.atReset_of rfl rfl rfl rfl rfl, rfl, rfl, rfl⟩,
      fun s => ⟨s.pinReset, rfl, State.atReset_of rfl rfl rfl rfl rfl, rfl, rfl, rfl, rfl⟩⟩,
    fun s => ⟨s.softReset, rfl, State.atReset_of rfl rfl rfl rfl rfl, rfl, rfl, rfl, rfl⟩⟩

end Sys2Proof.Machine

/-! ATTENTION, ATTENTION MASK and the interrupt line (R161, R167). -/

namespace Sys2Proof.Machine

/-- The line is asserted where a cause is set under a mask bit of 1. -/
theorem State.interruptLine_iff (s : State) :
    s.interruptLine = true ↔ ∃ i, s.attention.getLsbD i = true ∧ s.mask.getLsbD i = true := by
  unfold State.interruptLine
  rw [bne_iff_ne]
  constructor
  · intro h
    by_contra hn
    refine h (BitVec.eq_of_getLsbD_eq fun i _ => Eq.trans ?_ BitVec.getLsbD_zero.symm)
    rw [BitVec.getLsbD_and, Bool.and_eq_false_imp]
    exact fun ha => Bool.eq_false_iff.mpr fun hm => hn ⟨i, ha, hm⟩
  · rintro ⟨i, ha, hm⟩ h
    have hbit : (s.attention &&& s.mask).getLsbD i = true := by rw [BitVec.getLsbD_and, ha, hm]; rfl
    rw [h] at hbit
    cases BitVec.getLsbD_zero.symm.trans hbit

/-- A mask write stores the low byte of the value. -/
theorem exec_attentionMaskWrite (s : State) (v : Word) :
    exec (.attentionMaskWrite v) s = .next { s with mask := v.setWidth 8 } := by
  have hlow : v.extractLsb' 0 8 = v.setWidth 8 := BitVec.eq_of_getLsbD_eq fun i hi => by simp [hi]
  rw [← hlow]
  rfl

/-- Settles O18: the read clears every cause, and the mask written decides the line bit by bit. -/
theorem attentionReadAndMaskWrite : Obligations.AttentionReadAndMaskWrite := by
  refine ⟨fun s => ⟨s.attentionRead, rfl, rfl, rfl, State.interruptLine_clear rfl, rfl⟩, fun s v =>
    ⟨_, exec_attentionMaskWrite s v, rfl, ?_⟩⟩
  rw [State.interruptLine_iff]
  simp only [BitVec.getLsbD_setWidth, Bool.and_eq_true, decide_eq_true_eq]

end Sys2Proof.Machine

/-! ENABLE writes (R162, R163, R165): the load of a DISABLED device, and the disable of a FAULTED one. -/

namespace Sys2Proof.Machine

/-! ## ENABLE 1 -/

theorem State.enableSet_disabled {s : State} (h : s.dev.state = .disabled) : s.enableSet = s.beginLoad := by
  unfold State.enableSet
  rw [h]

theorem State.enableSet_ignored {s : State} (h : s.dev.state ≠ .disabled) : s.enableSet = s := by
  unfold State.enableSet
  split
  · rename_i hd; exact absurd hd h
  all_goals rfl

/-! ## ENABLE 0 -/

theorem State.enableClear_ignored {s : State}
    (h : s.dev.state = .disabled ∨ s.dev.state = .loading ∨ (s.dev.state = .ready ∧ s.dev.disabling = true)) :
    s.enableClear = s := by
  unfold State.enableClear
  rcases h with h | h | ⟨h, hd⟩
  · rw [h]
  · rw [h]
  · rw [h]
    exact if_pos hd

/-- In FAULTED the disable is asked for. -/
theorem State.enableClear_faulted {s : State} (h : s.dev.state = .faulted) :
    s.enableClear = { s with dev := { s.dev with enable := false, disableAsked := true } } := by
  unfold State.enableClear
  rw [h]

/-- An entry to DISABLED stops the throttle timers and keeps their intervals. -/
theorem State.enterDisabled_throttle (s : State) (k : Seg) :
    s.enterDisabled.port.throttle.get k = (s.port.throttle.get k).stop := Four.get_map _ _ k

/-- Where every segment is STOPPED, a disable asked for in FAULTED is carried out at once (log 25). -/
theorem State.settle_disables {s : State} (h : s.dev.state = .faulted) (ha : s.dev.disableAsked = true)
    (hr : s.allAtRest = true) : s.settle = s.enterDisabled := by
  have hdis : s.disableDue = s.enterDisabled := if_pos ⟨h, ha, hr⟩
  unfold State.settle
  rw [hdis]
  exact if_neg fun c => by cases c.1

/-- Where one is not, the disable waits. -/
theorem State.settle_drains {s : State} (h : s.dev.state = .faulted) (hr : s.allAtRest = false) : s.settle = s :=
  (State.settled_iff s).mpr ⟨fun c => by simp [hr] at c, fun c => by cases h.symm.trans c⟩

/-- Settles O11: each ENABLE write by the device state. -/
theorem enableWritesFollowDeviceState : Obligations.EnableWritesFollowDeviceState := by
  refine ⟨⟨fun s h => ?_, fun s hs h => ?_⟩, fun s hs h => ?_, fun s h hr => ?_, fun s h hr => ?_⟩
  · refine congrArg Host.Outcome.next ?_
    rw [State.enableSet_disabled h]
    exact State.settle_off nofun nofun
  · refine congrArg Host.Outcome.next ?_
    rw [State.enableSet_ignored h]
    exact hs
  · refine congrArg Host.Outcome.next ?_
    rw [State.enableClear_ignored h]
    exact hs
  · refine congrArg Host.Outcome.next ?_
    rw [State.enableClear_faulted h]
    exact State.settle_drains h hr
  · refine ⟨_, congrArg (fun t : State => Host.Outcome.next t.settle) (State.enableClear_faulted h), ?_⟩
    rw [State.settle_disables (by exact h) rfl (by exact hr)]
    refine ⟨rfl, rfl, rfl, rfl, rfl, rfl, rfl, rfl, rfl, rfl, rfl, rfl, rfl, rfl, fun k => ?_⟩
    rw [State.enterDisabled_throttle]
    exact ⟨rfl, rfl⟩

end Sys2Proof.Machine

/-! SUPPORT. What the notice writer of a READY device issues when the block settles (R165, R169, R171, log 48). -/

namespace Sys2Proof.Machine

/-- The notice writer has no access in progress: none waits for its grant and none is on the bus. -/
structure State.NoticeFree (s : State) : Prop where
  ready : s.dev.state = .ready
  waits : s.port.notice = none
  bus : s.noticeOnBus = false

/-- The block once the notice writer has issued the device progress record write. -/
def State.recordIssued (s : State) : State :=
  { s with port := { s.port with notice := some ⟨.devProgress, s.nw.record, 0, []⟩ },
           nw := { s.nw with recWaiting := false } }

/-- A record write asked for, or owed at the end of the drain, goes ahead of the next ring access (R171). -/
theorem State.settle_record {s : State} (h : s.NoticeFree) (hr : s.nw.recWaiting = true ∨ s.drained = true) :
    s.settle = s.recordIssued := by
  rw [State.settle_ready h.ready]
  unfold State.noticeDue
  rw [if_pos ⟨h.ready, h.waits, h.bus⟩, if_pos hr]
  rfl

/-- Otherwise the oldest notice is begun, or goes on. -/
theorem State.settle_notice {s : State} (h : s.NoticeFree) {n : Notice} {rest : List Notice}
    (hw : s.nw.recWaiting = false) (hq : s.nw.queue = n :: rest) :
    s.settle = { s with port := { s.port with notice := some (s.noticeAccess n) } } := by
  have hd : s.drained = false := by simp [State.drained, hq]
  rw [State.settle_ready h.ready]
  unfold State.noticeDue
  rw [if_pos ⟨h.ready, h.waits, h.bus⟩, if_neg (by simp [hw, hd]), hq]

/-- With no notice queued, and the drain not at its end, nothing is issued. -/
theorem State.settle_nothing {s : State} (hr : s.dev.state = .ready) (hw : s.nw.recWaiting = false) (hq : s.nw.queue = [])
    (hd : s.drained = false) : s.settle = s :=
  (State.settled_iff s).mpr ⟨fun c => absurd (hr.symm.trans c.1) nofun, fun _ _ _ => ⟨by simp [hw, hd], hq⟩⟩

/-- While an access of its own waits for its grant the notice writer issues none. -/
theorem State.settle_waits {s : State} {a : Access} (hr : s.dev.state = .ready) (ha : s.port.notice = some a) : s.settle = s :=
  (State.settled_iff s).mpr ⟨fun c => absurd (hr.symm.trans c.1) nofun, fun _ hn => absurd (ha.symm.trans hn) nofun⟩

end Sys2Proof.Machine

/-! The load (R163, R164, R171, R174, R176): the checks of the control block, and the device as FAULTED and as READY. -/

namespace Sys2Proof.Machine

/-! ## The checks of the control block (R174, R176) -/

theorem firstFail_none_iff {α : Type} (l : List (α × Bool)) : firstFail l = none ↔ ∀ c ∈ l, c.2 = false := by
  induction l with
  | nil => simp [firstFail]
  | cons c rest ih =>
    obtain ⟨a, bad⟩ := c
    cases bad <;> simp [firstFail, ih]

/-- What a check table answers is the name of one of its lines. -/
theorem firstFail_mem {α : Type} {l : List (α × Bool)} {a : α} (h : firstFail l = some a) : ∃ c ∈ l, c.1 = a := by
  induction l with
  | nil => cases h
  | cons c rest ih =>
    obtain ⟨b, bad⟩ := c
    unfold firstFail at h
    split at h
    · cases h
      exact ⟨_, List.mem_cons_self, rfl⟩
    · obtain ⟨c, hc, he⟩ := ih h
      exact ⟨c, List.mem_cons_of_mem _ hc, he⟩

theorem rdBytes_zero_iff (d : List Byte) (i n : Nat) :
    (rdBytes d i n).all (· == 0) = true ↔ ∀ j, j < n → rdByte d (i + j) = 0 := by
  simp [rdBytes]

theorem Seg.all_all_iff (p : Seg → Bool) : Seg.all.all p = true ↔ ∀ k, p k = true := by
  rw [List.all_eq_true]
  exact ⟨fun h k => h k (Seg.mem_all k), fun h k _ => h k⟩

/-- The checks after the format's: each answers BAD_CONTROL_BLOCK. -/
theorem controlChecks_tail_code {block : Word} {d : List Byte} {c : DevFault × Bool}
    (h : c ∈ (controlChecks block d).tail) : c.1 = .badControlBlock := by
  simp only [controlChecks, List.tail_cons, List.mem_cons, List.not_mem_nil, or_false] at h
  rcases h with rfl | rfl | rfl | rfl | rfl | rfl | rfl <;> rfl

/-- They are the conditions of R174, in their order. -/
theorem controlChecks_tail_none (block : Word) (d : List Byte) :
    firstFail (controlChecks block d).tail = none ↔ ControlBlockFits block d := by
  rw [firstFail_none_iff]
  unfold controlChecks ControlBlockFits
  simp only [List.tail_cons, List.forall_mem_cons, List.not_mem_nil, false_implies, implies_true, and_true,
    Bool.or_eq_false_iff, Bool.not_eq_false', decide_eq_false_iff_not, decide_eq_true_eq, aligned16_iff, insideWindow_iff,
    Inside, Seg.all_all_iff, rdBytes_zero_iff, bne_eq_false_iff_eq, Nat.not_lt, and_assoc]

theorem controlCheck_format {block : Word} {d : List Byte} (h : rdWord d 0 ≠ 1) : controlCheck block d = some .badFormat :=
  if_pos (bne_iff_ne.mpr h)

theorem controlCheck_tail {block : Word} {d : List Byte} (h : rdWord d 0 = 1) :
    controlCheck block d = firstFail (controlChecks block d).tail :=
  if_neg (by rw [h]; decide)

theorem controlCheck_passes {block : Word} {d : List Byte} (h : rdWord d 0 = 1) (hf : ControlBlockFits block d) :
    controlCheck block d = none := (controlCheck_tail h).trans ((controlChecks_tail_none block d).mpr hf)

theorem controlCheck_fails {block : Word} {d : List Byte} (h : rdWord d 0 = 1) (hf : ¬ControlBlockFits block d) :
    controlCheck block d = some .badControlBlock := by
  rw [controlCheck_tail h]
  cases hc : firstFail (controlChecks block d).tail with
  | none => exact absurd ((controlChecks_tail_none block d).mp hc) hf
  | some code =>
    obtain ⟨c, hm, rfl⟩ := firstFail_mem hc
    rw [controlChecks_tail_code hm]

/-! ## The end of the load (R163, R164) -/

theorem exec_loadDone {s : State} {a : Access} (h : s.port.busy = some ⟨.device, a, false⟩) (d : List Byte) :
    exec (.accessComplete d) s = .next (s.freePort.loadDone d).settle := by
  show Host.Outcome.next (s.complete d).settle = _
  unfold State.complete
  rw [h]
  rfl

theorem exec_loadError {s : State} {a : Access} (h : s.port.busy = some ⟨.device, a, false⟩) :
    exec .errorResponse s = .next (s.freePort.deviceFault .loadFault s.block).settle := by
  show Host.Outcome.next s.errorResponse.settle = _
  unfold State.errorResponse
  rw [h]
  rfl

/-- Nothing is due in a device that has entered FAULTED. -/
theorem State.settle_deviceFault (s : State) (code : DevFault) (addr : Word) :
    (s.deviceFault code addr).settle = s.deviceFault code addr := State.settle_off nofun fun _ => rfl

/-- The notices that an entry to READY leaves in an empty queue: that of an earlier device fault, if there was one. -/
def Device.notices (v : Device) : List Notice := if v.fault = .none then [] else [v.faultNotice]

/-- The block after an entry to READY that found the queue empty and the notice-lost condition clear. -/
def State.madeReady (s : State) : State :=
  { s with
    dev := { s.dev with state := .ready, fault := .none, faultAddr := 0 },
    nw := { s.nw with queue := s.dev.notices, recWaiting := true, loadedOwed := true } }

theorem State.enterReady_eq {s : State} (hl : s.nw.lost = false) (hq : s.nw.queue = []) : s.enterReady = s.madeReady := by
  unfold State.enterReady State.madeReady Device.notices
  dsimp only
  split
  · rw [← hq]
  · rw [State.raise_room (by exact hl) (by rw [hq]; decide)]
    dsimp only
    rw [hq]
    rfl

/-- Settles O21: the load that fails, the checks, and the load that passes with its record write issued. -/
theorem loadEndsReadyOrFaulted : Obligations.LoadEndsReadyOrFaulted := by
  refine ⟨fun s a hb _ => ⟨fun d code hc => ?_, ?_⟩,
    fun block d => ⟨controlCheck_format, controlCheck_fails, controlCheck_passes⟩, fun s a d hb _ hc hn hq => ?_⟩
  · have hload : s.freePort.loadDone d = s.freePort.deviceFault code s.block := by
      unfold State.loadDone
      rw [State.freePort_block, hc]
    rw [exec_loadDone hb, hload, State.settle_deviceFault]
    rfl
  · rw [exec_loadError hb, State.settle_deviceFault]
    rfl
  · have hload : s.freePort.loadDone d = (s.freePort.takeControlBlock d).enterReady := by
      unfold State.loadDone
      rw [State.freePort_block, hc]
    rw [exec_loadDone hb, hload, State.enterReady_eq (s := s.freePort.takeControlBlock d) rfl hq,
      State.settle_record (s := (s.freePort.takeControlBlock d).madeReady) ⟨rfl, hn, rfl⟩ (.inl rfl)]
    refine ⟨_, rfl, rfl, rfl, rfl, rfl, rfl, rfl, fun k => ?_, fun k => ?_, rfl, rfl, rfl, rfl, rfl, rfl, rfl, rfl, rfl, rfl⟩
    · cases k <;> rfl
    · cases k <;> rfl

end Sys2Proof.Machine

/-! The notice queue and the notice writer's accesses (R165, R168, R169, R171). -/

namespace Sys2Proof.Machine

/-! ## A notice dropped (R168) -/

theorem State.dropNotice_frame (s : State) :
    s.dropNotice.nw.queue = s.nw.queue ∧ s.dropNotice.nw.dropped = s.nw.dropped + 1
      ∧ s.dropNotice.attention = s.attention ||| 2 ∧ s.dropNotice.segs = s.segs ∧ s.dropNotice.port = s.port
      ∧ s.dropNotice.dev = s.dev := by
  rcases s.dropNotice_cases with h | h <;> rw [h] <;> exact ⟨rfl, rfl, rfl, rfl, rfl, rfl⟩

/-! ## The next access of the oldest notice -/

/-- The three accesses of a notice at its slot (R169). -/
theorem State.noticeAccess_eq {s : State} {slot : Word} (h : slot = s.nw.ringBase + BitVec.ofNat 32 (16 * s.nw.next))
    (n : Notice) : s.noticeAccess n = match s.nw.step with
      | .marker => ⟨.noticeMarkerRead, slot, 2, []⟩
      | .body => .write .noticeBody (slot + 2) n.bytes
      | .mark => ⟨.noticeMarkerWrite, slot, 0, [(slot, 1), (slot + 1, 0)]⟩ := by
  subst h
  unfold State.noticeAccess
  cases s.nw.step <;> rfl

/-- The drain is not at its end under ENABLE set, or while a segment is not STOPPED or has a start in progress. -/
theorem State.drained_false {s : State} (h : s.dev.disabling = false
    ∨ ∃ k, (s.segs.get k).state ≠ .stopped ∨ (s.segs.get k).starting = true) : s.drained = false := by
  refine Bool.eq_false_iff.mpr fun c => ?_
  obtain ⟨hd, hall, -⟩ := s.drained_iff.mp c
  rcases h with h | ⟨k, h | h⟩
  · simp [h] at hd
  · exact h (hall k).1
  · simp [(hall k).2] at h

/-! ## The completions -/

/-- A response to an access of the notice writer. -/
theorem exec_noticeDone {s : State} {a : Access} (h : s.port.busy = some ⟨.notice, a, false⟩) {op : Op} (ha : a.op = op)
    (d : List Byte) : exec (.accessComplete d) s = .next (s.freePort.noticeDone op d).settle := by
  subst ha
  show Host.Outcome.next (s.complete d).settle = _
  unfold State.complete
  rw [h]
  rfl

/-- The block with the notice being written at the given step. -/
def State.atStep (s : State) (st : NoticeStep) : State := { s with nw := { s.nw with step := st } }

/-- The block once the oldest notice has left the queue. -/
def State.noticeTakenOut (s : State) : State := { s with nw := s.nw.pop }

/-- The block once the marker of the oldest notice is written: the next index advances and NOTICE is set. -/
def State.noticeWritten (s : State) : State :=
  { s with nw := { s.nw.pop with next := ringNext s.nw.next s.nw.slots.toNat }, attention := s.attention ||| 1 }

theorem State.noticeDone_clear {s : State} {d : List Byte} (h : rdHalf d 0 = 0) :
    s.noticeDone .noticeMarkerRead d = s.atStep .body := if_pos h

theorem State.noticeDone_set {s : State} {d : List Byte} (h : rdHalf d 0 ≠ 0) :
    s.noticeDone .noticeMarkerRead d = s.noticeTakenOut.dropNotice := if_neg h

theorem State.noticeDone_body (s : State) (d : List Byte) : s.noticeDone .noticeBody d = s.atStep .mark := rfl

theorem State.noticeDone_mark (s : State) (d : List Byte) : s.noticeDone .noticeMarkerWrite d = s.noticeWritten := rfl

theorem NoticeWriter.pop_queue {v : NoticeWriter} {n : Notice} {rest : List Notice} (h : v.queue = n :: rest) :
    v.pop.queue = rest := by
  show v.queue.tail = rest
  rw [h]
  rfl

/-- What settling leaves of a READY block, whatever it issues. -/
theorem State.settle_keeps {s : State} (h : s.dev.state = .ready) :
    s.settle.segs = s.segs ∧ s.settle.attention = s.attention ∧ s.settle.port.busy = s.port.busy
      ∧ s.settle.nw.queue = s.nw.queue ∧ s.settle.nw.next = s.nw.next ∧ s.settle.nw.dropped = s.nw.dropped := by
  obtain ⟨-, -, -, hatt, hbusy⟩ := s.settle_frame
  obtain ⟨b, hnw⟩ := State.settle_nw h
  rw [hnw]
  exact ⟨s.settle_segs, hatt, hbusy, rfl, rfl, rfl⟩

/-! ## The obligation -/

/-- Settles O20: the raise, what settling issues, and the three completions of a notice. -/
theorem noticesAreQueuedAndWritten : Obligations.NoticesAreQueuedAndWritten := by
  refine ⟨fun s n => ⟨fun hl hq => State.raise_room hl hq n, fun h => ?_⟩,
    fun s hr hp hb hw => State.settle_record ⟨hr, hp, hb⟩ (.inl hw), fun s a hr ha => State.settle_waits hr ha,
    fun s slot hr hp hb hs => ⟨fun n rest hw hq => ?_, fun hd hall hq => ?_, fun hw hq h => ?_⟩,
    fun s a n rest lo hi hb hop hq hr hd hp hw => ?_, fun s a n rest slot hb hop hq hr hp hw hs => ?_,
    fun s a n rest hb hop hq hr => ?_⟩
  · rw [State.raise_drops h]
    obtain ⟨hq, hc, ha, hs, hp, hd⟩ := s.dropNotice_frame
    refine ⟨hq, hc, ha, hs, hp, hd, fun hr ha => ?_, fun hc => ?_⟩
    · rw [State.dropNotice_asks hr ha]
      rfl
    · rw [State.dropNotice_covered hc]
      rfl
  · exact (State.settle_notice ⟨hr, hp, hb⟩ hw hq).trans
      (congrArg (fun a => { s with port := { s.port with notice := some a } }) (State.noticeAccess_eq hs n))
  · exact State.settle_record ⟨hr, hp, hb⟩ (.inr (s.drained_iff.mpr ⟨hd, hall, hq⟩))
  · exact State.settle_nothing hr hw hq (State.drained_false h)
  · refine ⟨_, exec_noticeDone hb hop _, ?_⟩
    by_cases hz : lo = 0 ∧ hi = 0
    · rw [State.noticeDone_clear ((rdHalf_pair_zero lo hi).mpr hz),
        State.settle_notice (s := s.freePort.atStep .body) ⟨hr, hp, rfl⟩ hw hq]
      exact ⟨rfl, rfl, fun _ => ⟨rfl, rfl, rfl, rfl⟩, fun c => absurd hz c⟩
    · rw [State.noticeDone_set fun c => hz ((rdHalf_pair_zero lo hi).mp c),
        State.dropNotice_asks (s := s.freePort.noticeTakenOut) hr fun b hb => absurd (hp.symm.trans hb) nofun,
        State.settle_record (s := s.freePort.noticeTakenOut.noticeDropped.recordAsked) ⟨hr, hp, rfl⟩ (.inl rfl)]
      exact ⟨rfl, rfl, fun c => absurd c hz, fun _ => ⟨NoticeWriter.pop_queue hq, rfl, rfl, rfl, rfl⟩⟩
  · refine ⟨_, exec_noticeDone hb hop _, ?_⟩
    rw [State.noticeDone_body,
      State.settle_notice (s := s.freePort.atStep .mark) ⟨hr, hp, rfl⟩ hw hq,
      State.noticeAccess_eq (s := s.freePort.atStep .mark) hs]
    exact ⟨rfl, rfl, rfl, rfl, rfl, rfl, rfl⟩
  · have hpop : s.freePort.noticeWritten.nw.queue = rest := NoticeWriter.pop_queue hq
    obtain ⟨hsegs, hatt, hbusy, hqueue, hnext, hdropped⟩ := State.settle_keeps (s := s.freePort.noticeWritten) hr
    refine ⟨_, exec_noticeDone hb hop _, ?_⟩
    rw [State.noticeDone_mark]
    refine ⟨hqueue.trans hpop, hnext, hatt, hdropped, hsegs, hbusy, fun hp hw hne => ?_, fun hp hd hall hnil => ?_⟩
    · obtain ⟨m, ms, rfl⟩ := List.exists_cons_of_ne_nil hne
      rw [hnext, State.settle_notice (s := s.freePort.noticeWritten) ⟨hr, hp, rfl⟩ hw hpop]
      rfl
    · have hdrained : s.freePort.noticeWritten.drained = true :=
        (State.drained_iff _).mpr ⟨hd, hall, hpop.trans hnil⟩
      rw [State.settle_record (s := s.freePort.noticeWritten) ⟨hr, hp, rfl⟩ (.inr hdrained)]
      rfl

end Sys2Proof.Machine

/-! An event of one segment unit (00, 95): what it leaves alone of the rest of the block. -/

namespace Sys2Proof.Machine

/-! ## The frame of an event, as a relation between two states -/

theorem OnlySegment.refl (k : Seg) (s : State) : OnlySegment k s s :=
  ⟨rfl, rfl, rfl, rfl, fun _ _ => rfl, rfl, rfl, fun _ => rfl, rfl⟩

theorem OnlySegment.trans {k : Seg} {s t u : State} (hst : OnlySegment k s t) (htu : OnlySegment k t u) :
    OnlySegment k s u := by
  obtain ⟨hq, hb, hm, hr, hg, hl, hh, hi, hd⟩ := hst
  obtain ⟨hq', hb', hm', hr', hg', hl', hh', hi', hd'⟩ := htu
  exact ⟨hq'.trans hq, hb'.trans hb, hm'.trans hm, hr'.trans hr, fun j hj => (hg' j hj).trans (hg j hj), hl'.trans hl,
    hh'.trans hh, fun j => (hi' j).trans (hi j), hd'.trans hd⟩

/-- An event moves its own segment unit, and of the port the granted access and the requests noted. -/
theorem State.onSeg_onlySegment (s : State) (k : Seg) (f : Work → Work) : OnlySegment k s (s.onSeg k f) := by
  have hport := s.onSeg_port k f
  refine ⟨s.onSeg_pending k f, s.onSeg_block k f, s.onSeg_mask k f, s.onSeg_readData k f, fun j hj => ?_, ?_, ?_,
    fun j => ?_, ?_⟩
  · rw [State.onSeg_segs, Four.get_put_ne _ hj]
  all_goals rw [hport]

/-- Entry to DISABLED stops the throttle timers and keeps their intervals (R165). -/
theorem State.disableDue_onlySegment (s : State) (k : Seg) : OnlySegment k s s.disableDue := by
  unfold State.disableDue
  split
  · refine ⟨rfl, rfl, rfl, rfl, fun _ _ => rfl, rfl, rfl, fun j => ?_, rfl⟩
    show ((s.port.throttle.map Throttle.stop).get j).interval = _
    rw [Four.get_map]
    rfl
  · exact .refl k s

/-- The notice writer issues into its own source of the port. -/
theorem State.noticeDue_onlySegment (s : State) (k : Seg) : OnlySegment k s s.noticeDue := by
  unfold State.noticeDue
  repeat' split
  all_goals exact ⟨rfl, rfl, rfl, rfl, fun _ _ => rfl, rfl, rfl, fun _ => rfl, rfl⟩

theorem State.settle_onlySegment (s : State) (k : Seg) : OnlySegment k s s.settle :=
  (s.disableDue_onlySegment k).trans (s.disableDue.noticeDue_onlySegment k)

/-! ## The commands that act on one segment unit -/

/-- A RUN write is an event of its segment or is ignored (R25). -/
theorem State.runSet_onlySegment (s : State) (k : Seg) : OnlySegment k s (s.runSet k) := by
  unfold State.runSet
  split
  · exact s.onSeg_onlySegment k _
  · exact .refl k s

theorem State.stopSeg_onlySegment (s : State) (k : Seg) : OnlySegment k s (s.stopSeg k) := by
  unfold State.stopSeg
  split
  · exact s.onSeg_onlySegment k _
  · exact .refl k s

theorem State.runClear_onlySegment (s : State) (k : Seg) : OnlySegment k s (s.runClear k) := by
  unfold State.runClear
  split
  · exact s.stopSeg_onlySegment k
  · exact .refl k s

/-- Any other event, whatever its operation on the working copy. -/
theorem State.workEvent_onlySegment {s t : State} {k : Seg} {f : Work → Work} (h : s.workEvent k f = .next t) :
    OnlySegment k s t := by
  cases h
  exact (s.onSeg_onlySegment k f).trans (State.settle_onlySegment _ k)

theorem State.segEvent_onlySegment {s t : State} {k : Seg} {f : Segment → Segment} (h : s.segEvent k f = .next t) :
    OnlySegment k s t := State.workEvent_onlySegment (f := fun w => w.on f) h

/-- Settles O3: a RUN write and every event of a segment unit, and the settling that follows, each keep the frame. -/
theorem segmentEventsTouchOneSegment : Obligations.SegmentEventsTouchOneSegment := by
  intro c k s t hc h
  cases c with
  | pinReset | softReset | enableSet | enableClear | scan _ | attentionRead | attentionMaskWrite _ | registerWrite _ _
  | memoryGrant _ | accessComplete _ | errorResponse | throttleExpiry _ => cases hc
  | runSet _ =>
    cases hc
    cases h
    exact (s.runSet_onlySegment k).trans (State.settle_onlySegment _ k)
  | runClear _ =>
    cases hc
    cases h
    exact (s.runClear_onlySegment k).trans (State.settle_onlySegment _ k)
  | settleExpiry _ _ | cycleTimerExpiry _ | sampleTimerExpiry _ _ | sweepStep _ _ _ =>
    cases hc
    exact State.workEvent_onlySegment h
  | frameReport _ | startBitTaken _ | arbitrationLoss _ _ _ | collision _ _ _ | transmitEnd _ | frameGap _
  | reservationExpiry _ | wExpiry _ | holdGap _ | answerTurnaround _ | responderDeadline _ | stallReport _ | stallEnd _
  | quietInterval _ | scanTimerExpiry _ | pauseAfterEnd _ | characterComplete _ _ _ _ =>
    cases hc
    exact State.segEvent_onlySegment h

end Sys2Proof.Machine

/-! Steps and the queue of commands (95, logs 2 and 3): a step takes the front of the queue, and no command moves the queue. -/

namespace Sys2Proof.Machine

/-- Settles O1: the queue by its two constructors. -/
theorem stepRunsFrontCommand : Obligations.StepRunsFrontCommand := by
  refine ⟨fun c rest s hq => ?_, fun s hq => ?_⟩
  · unfold step; rw [hq]
  · unfold step; rw [hq]

/-! ## What no operation of the block moves -/

theorem State.settle_pending (s : State) : s.settle.pending = s.pending := by
  obtain ⟨h, -⟩ := s.settle_frame
  exact h

theorem State.SegEvents.pending {s t : State} (h : s.SegEvents t) : t.pending = s.pending :=
  h.keeps (P := fun t => t.pending = s.pending) (fun t k f ht => (t.onSeg_pending k f).trans ht) rfl

theorem State.stopAll_pending (s : State) : s.stopAll.pending = s.pending := s.stopAll_events.pending

theorem State.raise_pending (s : State) (n : Notice) : (s.raise n).pending = s.pending := by
  obtain ⟨v, a, h⟩ := s.raise_frame n
  rw [h]

theorem State.dropNotice_pending (s : State) : s.dropNotice.pending = s.pending := by
  rcases s.dropNotice_cases with h | h <;> rw [h] <;> rfl

theorem State.enableSet_pending (s : State) : s.enableSet.pending = s.pending := by
  unfold State.enableSet
  split <;> rfl

theorem State.enableClear_pending (s : State) : s.enableClear.pending = s.pending := by
  unfold State.enableClear
  split
  · rfl
  · rfl
  · split
    · rfl
    · exact State.stopAll_pending _
  · rfl

theorem State.noticeFault_pending (s : State) (addr : Word) : (s.noticeFault addr).pending = s.pending := by
  unfold State.noticeFault
  dsimp only
  rw [State.stopAll_pending]
  split <;> rfl

theorem State.noticeDone_pending (s : State) (op : Op) (d : List Byte) : (s.noticeDone op d).pending = s.pending := by
  unfold State.noticeDone
  split
  · split
    · rfl
    · exact State.dropNotice_pending _
  · rfl
  · rfl
  · show (s.noticeDone .devProgress d).pending = _
    rw [State.noticeDone_devProgress]
    split <;> rfl
  · rfl

theorem State.loadDone_pending (s : State) (d : List Byte) : (s.loadDone d).pending = s.pending := by
  unfold State.loadDone
  split
  · rfl
  · unfold State.enterReady
    dsimp only
    split
    · rfl
    · exact State.raise_pending _ _

/-! ## Responses and grants -/

theorem State.complete_pending (s : State) (d : List Byte) : (s.complete d).pending = s.pending := by
  unfold State.complete
  split
  · rfl
  · dsimp only
    split
    · exact State.onSeg_pending _ _ _
    · split
      · rfl
      · exact State.noticeDone_pending _ _ _
    · split
      · rfl
      · exact State.loadDone_pending _ _

theorem State.errorResponse_pending (s : State) : s.errorResponse.pending = s.pending := by
  unfold State.errorResponse
  split
  · rfl
  · dsimp only
    split
    · exact State.onSeg_pending _ _ _
    · split
      · rfl
      · exact State.noticeFault_pending _ _
    · split <;> rfl

theorem State.grantSegment_pending (s : State) (k : Seg) (src : Source) :
    (s.grantSegment k src).pending = s.pending := by
  cases ha : (s.segs.get k).waits.access src with
  | none => unfold State.grantSegment; rw [ha]
  | some a =>
    rw [State.grantSegment_eq ha (g := ((s.segs.get k).grant src a).1) (b := ((s.segs.get k).grant src a).2) rfl]
    split
    · exact State.onSeg_pending _ _ _
    · rfl

theorem State.grantNotice_pending (s : State) : s.grantNotice.pending = s.pending := by
  cases ha : s.port.notice with
  | none => unfold State.grantNotice; rw [ha]
  | some a =>
    rw [State.grantNotice_eq ha]
    split
    · exact State.noticeFault_pending _ _
    · rfl

theorem State.grantDevice_pending (s : State) : s.grantDevice.pending = s.pending := by
  unfold State.grantDevice
  split <;> rfl

theorem State.grant_pending (s : State) (late : List Requester) : (s.grant late).pending = s.pending := by
  unfold State.grant
  split
  · rfl
  · split
    · exact s.grantSegment_pending _ _
    · exact s.grantNotice_pending
    · exact s.grantDevice_pending
    · rfl

/-! ## Every command -/

theorem State.Moves.pending {s t : State} (h : s.Moves t) : t.pending = s.pending := by
  cases h with
  | segments h => exact h.pending
  | enableSet => exact s.enableSet_pending
  | enableClear => exact s.enableClear_pending
  | grant late => exact s.grant_pending late
  | complete d => exact s.complete_pending d
  | errorResponse => exact s.errorResponse_pending
  | throttle v => rfl

/-- A reset keeps the commands that wait, which are not the part's. -/
theorem State.Answers.pending {s t : State} (h : s.Answers t) : t.pending = s.pending := by
  cases h with
  | pinReset | softReset => rfl
  | registers => rfl
  | settled h => exact (State.settle_pending _).trans h.pending

/-- No command ends in a fault or a refusal (log 3). -/
theorem exec_next (c : Instr) (s : State) : ∃ t, exec c s = .next t := by cases c <;> exact ⟨_, rfl⟩

/-- Settles O2: every command answers a next state, and no answer of a command moves the queue. -/
theorem everyCommandAnswersNext : Obligations.EveryCommandAnswersNext := by
  intro c s
  obtain ⟨t, h⟩ := exec_next c s
  exact ⟨t, h, (exec_answers h).pending⟩

end Sys2Proof.Machine
